-- ==== Sys2Proof/Word.lean ====
section
/-! DEFINITION. The word types of Shared Memory and the register window (12, opening paragraph). -/

namespace Sys2Proof

/-- A word of Shared Memory or of the register window (R153, R154). -/
abbrev Word := BitVec 32

/-- A byte of the head link (R133). -/
abbrev Byte := BitVec 8

end Sys2Proof
end

