-- ==== Sys2Proof/Config.lean ====
section
/-! DEFINITION. The free values: what the spec leaves open in a step that goes on. None has a body, so
nothing can be proved of its value. The `Nat` argument is the counter `State.free`. -/

namespace Sys2Proof.Config

/-- R56: where FOLLOWING and DRIVE_SILENT arise at one tick on different axes, whether FOLLOWING is the one taken
first. Log 11. -/
opaque followingFirst : Nat → Bool

/-- R53 and R55 do not order the end of a segment and a following fault of the same tick: whether the segment
end is taken first. Log 9. -/
opaque segmentEndFirst : Nat → Bool

/-- R20, R88: where one swap releases both arms from WAIT_SWAP, whether arm A goes on first. Log 12. -/
opaque releaseAFirst : Nat → Bool

/-- 12.8 gives the phase detail of the HOMING phases as the axis; LIMIT_RETURN has no axis. Log 26. -/
opaque limitReturnDetail : BitVec 8

/-- R143: whether a change of SEAT whose debounce runs arrives together with the expiry of a SEAT wait. Log 41. -/
opaque seatWithTimeout : Nat → Bool

/-- R94, R105, R116: where the capture of a search has come since the last tick and the search reaches its end at this
one, whether the two fall together. Log 42. -/
opaque captureWithEnd : Nat → Bool

end Sys2Proof.Config
end

