-- ==== Sys2Proof/Syntax.lean ====
section
/-! DEFINITION. The commands of the part: one constructor of `Instr` for each row of spec/opcode_table.json.
A service request and a motion block carry no operand but their arm: what they act on is the slot copy that the
Lane Engine or the Block Queue holds (R42, R157). -/

namespace Sys2Proof

/-- The two arms (00, Names). -/
inductive Arm where
  | A | B
  deriving DecidableEq, Repr

/-- The three axes of one arm (00, Names; codes in 12.4). -/
inductive Axis where
  | X | Y | Z
  deriving DecidableEq, Repr

/-- The three lanes (R155). -/
inductive Lane where
  | motionA | motionB | service
  deriving DecidableEq, Repr

/-- One value for each arm. -/
structure Duo (α : Type) where
  a : α
  b : α
  deriving DecidableEq, Repr

/-- One value for each axis of an arm, or the three components of a position. -/
structure Tri (α : Type) where
  x : α
  y : α
  z : α
  deriving DecidableEq, Repr

/-- What a drive answers at a tick: its scale reading before the scale offset, or nothing (R54, R56, R89). -/
abbrev Reading := Option Int

/-- One constructor for each row of spec/opcode_table.json, in the table's order. -/
inductive Instr where
  /-- POWER_ON_RESET (R171) -/
  | powerOnReset
  /-- RESET (R171). `cut`: a Condition Page refresh is being written and the reset abandons it after that many
  of its content words (R164); `none`: no refresh is being written. -/
  | reset (cut : Option Nat)
  /-- START (R167) -/
  | start
  /-- START_VALIDATION_END (R169), with what the six drives answer at START (R170) -/
  | startValidationEnd (readings : Duo (Tri Reading))
  /-- HOLD_SET (R60) -/
  | holdSet (arm : Arm)
  /-- HOLD_CLEAR (R61) -/
  | holdClear (arm : Arm)
  /-- ABORT (R62) -/
  | abort (arm : Arm)
  /-- POST (R158) -/
  | post (value : Word)
  /-- NOTICE_READ (R162) -/
  | noticeRead
  /-- NOTICE_MASK_WRITE (R163) -/
  | noticeMaskWrite (value : Word)
  /-- REGISTER_WRITE_IGNORED (R153): a write to the byte offset `offset` of the register window -/
  | registerWriteIgnored (offset : Nat) (value : Word)
  /-- SHARED_MEMORY_WRITE (R154): a host write to the word `address` -/
  | sharedMemoryWrite (address : Nat) (value : Word)
  /-- LANE_EXAMINE (R158) -/
  | laneExamine (lane : Lane)
  /-- STAGE_SET (R17) -/
  | stageSet
  /-- SWAP_SET (R18) -/
  | swapSet
  /-- SET_SENSOR (R22) -/
  | setSensor
  /-- SET_GROUP (R35) -/
  | setGroup
  /-- SET_ZONE (R79) -/
  | setZone
  /-- SET_PROBE (R123) -/
  | setProbe
  /-- READ_PROBE (R125) -/
  | readProbe
  /-- SET_PORT (R127) -/
  | setPort
  /-- CLEAR_FAULT (R67) -/
  | clearFault
  /-- REOPEN_LANE (R161) -/
  | reopenLane
  /-- SERVICE_BAD_KIND (R160) -/
  | serviceBadKind
  /-- MOVE (R48) -/
  | move (arm : Arm)
  /-- DWELL (R49) -/
  | dwell (arm : Arm)
  /-- WAIT_STABLE (R50) -/
  | waitStable (arm : Arm)
  /-- SET_FRAME (R6) -/
  | setFrame (arm : Arm)
  /-- SET_LATCH (R88) -/
  | setLatch (arm : Arm)
  /-- HOME (R91) -/
  | home (arm : Arm)
  /-- PROBE_POINT (R101) -/
  | probePoint (arm : Arm)
  /-- QUALIFY (R113) -/
  | qualify (arm : Arm)
  /-- IDENTIFY (R137) -/
  | identify (arm : Arm)
  /-- CHANGE_PROBE (R139) -/
  | changeProbe (arm : Arm)
  /-- MOTION_BAD_KIND (R45) -/
  | motionBadKind (arm : Arm)
  /-- ZONE_ARBITER_DECISION (R73) -/
  | zoneArbiterDecision
  /-- ZONE_TIMEOUT (R75) -/
  | zoneTimeout (arm : Arm)
  /-- TICK (R54): what the six drives answer, and the arm that is taken first -/
  | tick (first : Arm) (readings : Duo (Tri Reading))
  /-- DWELL_EXPIRY (R49) -/
  | dwellExpiry (arm : Arm)
  /-- WAIT_STABLE_TIMEOUT (R50) -/
  | waitStableTimeout (arm : Arm)
  /-- TRIG_CHANGE (R98): the line's new standing, true for active -/
  | trigChange (arm : Arm) (active : Bool)
  /-- REFM_CHANGE (R83) -/
  | refmChange (arm : Arm) (axis : Axis) (active : Bool)
  /-- EXT_IN_CHANGE (R83) -/
  | extInChange (input : Fin 4) (active : Bool)
  /-- COVER_OPEN_CHANGE (R141) -/
  | coverOpenChange (arm : Arm) (active : Bool)
  /-- COVER_FAULT (R141): the cover wait expires -/
  | coverFault (arm : Arm)
  /-- HSEAT_CHANGE (R129): the line's new level, true for low (a module seated) -/
  | hseatChange (arm : Arm) (low : Bool)
  /-- SEAT_DEBOUNCE_EXPIRY (R130) -/
  | seatDebounceExpiry (arm : Arm)
  /-- SEAT_TIMEOUT (R143) -/
  | seatTimeout (arm : Arm)
  /-- WAKE_END (R132) -/
  | wakeEnd (arm : Arm)
  /-- SYNC_FALL (R132) -/
  | syncFall (arm : Arm)
  /-- SYNC_RISE (R132): the low time counted in periods of 160 ns -/
  | syncRise (arm : Arm) (count : BitVec 16)
  /-- SYNC_OVERFLOW (R132) -/
  | syncOverflow (arm : Arm)
  /-- SYNC_TIMEOUT (R132) -/
  | syncTimeout (arm : Arm)
  /-- COMMAND_SENT (R133) -/
  | commandSent (arm : Arm)
  /-- REPLY_TIMEOUT (R134) -/
  | replyTimeout (arm : Arm)
  /-- REPLY_BYTE (R134): the eleven samples of HDAT, bit 0 the start bit, bits 1 to 8 the data, bit 9 the parity,
  bit 10 the stop bit; a sample is 1 for high -/
  | replyByte (arm : Arm) (frame : BitVec 11)
  /-- REPLY_GAP_EXPIRY (R134) -/
  | replyGapExpiry (arm : Arm)
  /-- LINK_PAUSE_EXPIRY (R135) -/
  | linkPauseExpiry (arm : Arm)
  /-- SCAN_BEGIN (R24) -/
  | scanBegin
  /-- SAMPLE_COMPLETE (R25): the converter's code -/
  | sampleComplete (code : BitVec 12)
  /-- HISTORY_EXPIRY (R36), and the arm whose stability report is taken first (R37) -/
  | historyExpiry (first : Arm)
  /-- REFRESH_TIMER_EXPIRY (R164) -/
  | refreshTimerExpiry
  /-- PENDING_REFRESH (R164) -/
  | pendingRefresh
  /-- STOP_IN_FALL (R173), and the arm that is reached first -/
  | stopInFall (first : Arm)
  /-- STOP_IN_RISE (R173) -/
  | stopInRise
  /-- STOP_RELEASE (R175) -/
  | stopRelease
  deriving DecidableEq, Repr

end Sys2Proof
end

