-- ==== Sys2Proof/WellFormed.lean ====
section
/-! DEFINITION. Which operands a command admits. -/

namespace Sys2Proof

/-- Shared Memory has 65,536 words (R154). -/
def addressOk (address : Nat) : Bool := decide (address < 65536)

/-- The byte offsets of the registers that take a write: CONTROL, POST and NOTICE_MASK (R153, 12.9). -/
def writableOffset (offset : Nat) : Bool := offset == 0x04 || offset == 0x0C || offset == 0x14

/-- A drive's scale reading is a signed 32-bit quantity. DESIGN CHOICE, log 25. -/
def readingOk : Reading → Bool
  | none => true
  | some r => decide (-2 ^ 31 ≤ r) && decide (r < 2 ^ 31)

/-- The readings of the six drives are admitted. -/
def readingsOk (d : Duo (Tri Reading)) : Bool :=
  readingOk d.a.x && readingOk d.a.y && readingOk d.a.z && readingOk d.b.x && readingOk d.b.y && readingOk d.b.z

/-- A refresh has 79 content words (12.8: words 513 to 515, 34 of the arms, 10 of the groups, 32 of the
channels), so a reset cannot cut it later. -/
def cutOk : Option Nat → Bool
  | none => true
  | some n => decide (n ≤ 79)

/-- The operands a command admits; every other operand is admitted by its type. -/
def WellFormed : Instr → Bool
  | .reset cut => cutOk cut
  | .startValidationEnd readings => readingsOk readings
  | .registerWriteIgnored offset _ => !writableOffset offset
  | .sharedMemoryWrite address _ => addressOk address
  | .tick _ readings => readingsOk readings
  | .powerOnReset | .start | .holdSet _ | .holdClear _ | .abort _ | .post _ | .noticeRead | .noticeMaskWrite _
  | .laneExamine _ | .stageSet | .swapSet | .setSensor | .setGroup | .setZone | .setProbe | .readProbe | .setPort
  | .clearFault | .reopenLane | .serviceBadKind | .move _ | .dwell _ | .waitStable _ | .setFrame _ | .setLatch _
  | .home _ | .probePoint _ | .qualify _ | .identify _ | .changeProbe _ | .motionBadKind _ | .zoneArbiterDecision
  | .zoneTimeout _ | .dwellExpiry _ | .waitStableTimeout _ | .trigChange _ _ | .refmChange _ _ _
  | .extInChange _ _ | .coverOpenChange _ _ | .coverFault _ | .hseatChange _ _ | .seatDebounceExpiry _
  | .seatTimeout _ | .wakeEnd _ | .syncFall _ | .syncRise _ _ | .syncOverflow _ | .syncTimeout _ | .commandSent _
  | .replyTimeout _ | .replyByte _ _ | .replyGapExpiry _ | .linkPauseExpiry _ | .scanBegin | .sampleComplete _
  | .historyExpiry _ | .refreshTimerExpiry | .pendingRefresh | .stopInFall _ | .stopInRise | .stopRelease => true

end Sys2Proof
end

