-- ==== Sys2Proof/Machine/State.lean ====
section
/-! DEFINITION. The machine's state as plain data, and its value right after power-on reset.
Every field cites the rule of spec/ that names it; INVENTORY.md lists them with their reset values. -/

namespace Sys2Proof.Machine

/-! ## Positions and shared memory -/

/-- A position of one arm: three signed counts (01, 1.1). -/
abbrev Vec := Tri Int

/-- The zero position. -/
def Vec.zero : Vec := ⟨0, 0, 0⟩

/-- Shared Memory (R154): cells (word offset, word) with rising offsets, none of them 0; an unlisted word is 0.
Log 5. -/
abbrev Shm := List (Nat × Word)

/-- The canonical form of Shared Memory: rising offsets inside the window, and no cell that equals what an unlisted
word reads as. -/
def Shm.wf : Shm → Bool
  | [] => true
  | [(i, w)] => decide (i < 65536) && w != 0
  | (i, w) :: (j, v) :: rest => decide (i < j) && w != 0 && Shm.wf ((j, v) :: rest)

/-! ## Names of states, kinds and codes -/

/-- The device state (R166). -/
inductive Device where
  | stopped | checking | run
  deriving DecidableEq, Repr

/-- The stop state (R173). -/
inductive StopState where
  | active | released
  deriving DecidableEq, Repr

/-- An arm's state (R41). -/
inductive ArmState where
  | unreferenced | idle | active | held | stopping | fault
  deriving DecidableEq, Repr

/-- The frame a block resolves to (R3). -/
inductive Frame where
  | machine | part
  deriving DecidableEq, Repr

/-- The ten motion kinds (12.2). -/
inductive Kind where
  | move | dwell | waitStable | setFrame | setLatch | home | probePoint | qualify | identify | changeProbe
  deriving DecidableEq, Repr

/-- The ten service kinds (12.2). -/
inductive SvcKind where
  | stageSet | swapSet | setSensor | setGroup | setZone | setProbe | readProbe | setPort | clearFault | reopenLane
  deriving DecidableEq, Repr

/-- The statuses of a slot (11.3, 12.1). -/
inductive Status where
  | none | ok | missed | unstable | aborted
  deriving DecidableEq, Repr

/-- The fault codes (11.3, 12.3). -/
inductive FaultCode where
  | badKind | badField | frameLocked | notReferenced | noProbe | mountUnknown | notQualified | outOfLimits
  | latchNotOwned | latchBusy | homeMissed | zoneTimeout | probeEngaged | qualMissed | qualSpread | qualRange
  | portState | coverFault | linkRefused | linkTimeout | linkError | rateFault | idMismatch | seatTimeout
  | collision | probeLost | following | driveSilent | stopLine | swapPending | zoneBusy | probeInUse | lineActive
  | wrongState
  deriving DecidableEq, Repr

/-- The ten notice kinds, in the order of their bits (R162, 12.9). -/
inductive Notice where
  | laneA | laneB | service | armAFault | armBFault | thermal | probe | swap | started | stopLine
  deriving DecidableEq, Repr

/-- The change phases of CHANGE_PROBE (08, table at the head). -/
inductive ChangePhase where
  | stowApproach | dock | release | portRetract | fetchApproach | engage | identify
  deriving DecidableEq, Repr

/-- The half of a change (08, table at the head). -/
inductive Half where
  | stow | fetch
  deriving DecidableEq, Repr

/-- The three parts of one QUALIFY touch (R116). -/
inductive TouchPart where
  | search | stop | retract
  deriving DecidableEq, Repr

/-- The phases of an executing block (R41). HOLDING is the phase in which `ArmRec.holding` is set; the phase it
came from is kept here, since R61 returns to it. -/
inductive Phase where
  | none | startCheck | waitSwap | waitZone | moving | dwelling | waitingStable
  | approach | search | touchStop | retract
  | homeSearch (axis : Axis) | homeStop (axis : Axis) | limitReturn
  | touch (k : Nat) (part : TouchPart) | transit
  | changing (phase : ChangePhase) (half : Half)
  | identifying
  deriving DecidableEq, Repr

/-! ## Head link (07) -/

/-- The commands of the head link (R131, 12.10). -/
inductive LinkCmd where
  | lock | unlock | readId
  deriving DecidableEq, Repr

/-- The kinds of a failed attempt (R132 to R135, 12.4). -/
inductive LinkKind where
  | timeout | rate | refused | framing | parity | length | checksum
  deriving DecidableEq, Repr

/-- The engine states of a Head Link Controller (R131). -/
inductive Engine where
  | idle | wake | syncWait | sync | send | replyWait | receive | pause
  deriving DecidableEq, Repr

/-- A Head Link Controller (R131). `buf` holds the bytes received in this attempt, so its length is the count of
bytes received; the places above it are zero. -/
structure Link where
  engine : Engine
  cmd : LinkCmd
  attempt : Nat
  firstKind : Option LinkKind
  period : Nat
  buf : List Byte
  deriving DecidableEq, Repr

/-- The controller after a reset (R131). Command, attempt number and no failure kind of an idle engine: DESIGN CHOICE,
log 7. -/
def Link.reset : Link := ⟨.idle, .readId, 1, none, 0, []⟩

/-- What a block's result reports of its last head link transaction (R137, R139, 12.4 "link word"). -/
structure LinkInfo where
  period : Nat
  repeats : Nat
  first : Option LinkKind
  error : Option LinkKind
  deriving DecidableEq, Repr

/-! ## Probes and ports (07) -/

/-- The mounted value (R128). -/
inductive Mounted where
  | none | unverified | foreign | probe (index : Fin 24)
  deriving DecidableEq, Repr

/-- The module type (R121). -/
inductive ProbeKind where
  | touch | scanningTouch
  deriving DecidableEq, Repr

/-- The qualification state (R121). -/
inductive QualState where
  | new | qualified | drifted
  deriving DecidableEq, Repr

/-- Where a module is (R121). -/
inductive Location where
  | absent | inPort (port : Fin 12) | mounted (arm : Arm) | unknown
  deriving DecidableEq, Repr

/-- A probe record (R121). -/
structure Probe where
  serial : Nat
  kind : ProbeKind
  arm : Arm
  tip : Vec
  radius : Int
  alpha : Int
  driftLimit : Int
  tq : Int
  qual : QualState
  loc : Location
  lastPort : Option (Fin 12)
  deriving DecidableEq, Repr

/-- A blank record (R121). -/
def Probe.blank : Probe := ⟨0, .touch, .A, .zero, 0, 0, 1, 2560, .new, .absent, none⟩

/-- What the part believes a port holds (R126). -/
inductive PortState where
  | disabled | empty | occupied (probe : Fin 24) | unknown
  deriving DecidableEq, Repr

/-- The direction of a compare crossing (R80, R126). -/
inductive Dir where
  | up | down
  deriving DecidableEq, Repr

/-- A port record (R126). -/
structure Port where
  state : PortState
  approach : Vec
  dock : Vec
  coverUnit : Fin 16
  coverAxis : Axis
  coverValue : Int
  coverDir : Dir
  deriving DecidableEq, Repr

/-- A port after a reset (R126). -/
def Port.reset : Port := ⟨.disabled, .zero, .zero, 0, .X, 0, .up⟩

/-- The Probe Table and the Port Table (R121, R126). -/
structure Tables where
  probes : Vector Probe 24
  ports : Vector Port 12
  deriving DecidableEq, Repr

/-- Both tables after a reset (R121, R126). -/
def Tables.reset : Tables := ⟨Vector.replicate 24 Probe.blank, Vector.replicate 12 Port.reset⟩

/-! ## Latch Array (05) -/

/-- The state of a latch unit (R80). -/
inductive UnitState where
  | idle | armed | fired
  deriving DecidableEq, Repr

/-- The mode of a latch unit (R80). -/
inductive UnitMode where
  | capture | compare
  deriving DecidableEq, Repr

/-- The line a capture unit watches (R80). -/
inductive CaptureInput where
  | trig | refm (axis : Axis) | ext (input : Fin 4)
  deriving DecidableEq, Repr

/-- The change that fires a capture unit (R80). -/
inductive Edge where
  | rise | fall | any
  deriving DecidableEq, Repr

/-- The line a compare unit drives (R80). -/
inductive Output where
  | none | cover | ext (output : Fin 4)
  deriving DecidableEq, Repr

/-- The holder of an arming (R80, R82): a block of the allocated arm, named by its slot index, or STANDING. -/
inductive ArmedBy where
  | none | block (slot : Nat) | standing
  deriving DecidableEq, Repr

/-- A capture record (R80): `fell` tells the edge seen, FALL when set. -/
structure Capture where
  counts : Vec
  tick : Word
  fell : Bool
  deriving DecidableEq, Repr

/-- The zero capture record, edge seen RISE (R80). -/
def Capture.zero : Capture := ⟨.zero, 0, false⟩

/-- A latch unit (R80). -/
structure LatchUnit where
  alloc : Option Arm
  state : UnitState
  armedBy : ArmedBy
  mode : UnitMode
  input : CaptureInput
  edge : Edge
  axis : Axis
  value : Int
  dir : Dir
  output : Output
  previous : Int
  cap : Capture
  extra : Nat
  deriving DecidableEq, Repr

/-- A unit after a reset (R80). -/
def LatchUnit.reset : LatchUnit :=
  ⟨none, .idle, .none, .capture, .trig, .rise, .X, 0, .up, .none, 0, .zero, 0⟩

/-! ## Thermal Unit (02) -/

/-- The standing of a channel's value (R21). -/
inductive ChanState where
  | off | valid | suspect | lost
  deriving DecidableEq, Repr

/-- A channel record (R21). -/
structure Channel where
  listed : Bool
  offset : Int
  gain : Int
  codeLo : Int
  codeHi : Int
  stepLimit : Int
  shift : Nat
  holdLimit : Nat
  sampleTime : Nat
  state : ChanState
  value : Int
  bad : Nat
  deriving DecidableEq, Repr

/-- A channel after a reset (R21). -/
def Channel.reset : Channel := ⟨false, 0, 0, 0, 0, 0, 0, 0, 10, .off, 2560, 0⟩

/-- The standing of a group's temperature (R30). -/
inductive GroupState where
  | empty | valid | held | substituted | lost
  deriving DecidableEq, Repr

/-- A group record (R30). -/
structure Group where
  members : List (Fin 32)
  holdLimit : Nat
  state : GroupState
  temp : Int
  held : Nat
  ring : List Int
  deriving DecidableEq, Repr

/-- A group after a reset (R30). -/
def Group.reset : Group := ⟨[], 1, .empty, 2560, 0, []⟩

/-- A channel as published (R29). -/
structure ChanPub where
  value : Int
  state : ChanState
  deriving DecidableEq, Repr

/-- A group as published (R29). -/
structure GroupPub where
  temp : Int
  state : GroupState
  deriving DecidableEq, Repr

/-- The published snapshot (R29). -/
structure Snapshot where
  chans : Vector ChanPub 32
  groups : Vector GroupPub 10
  deriving DecidableEq, Repr

/-- The Thermal Unit. `scan` holds the listed channels of the scan in progress that are not yet sampled, `none`
when no scan is in progress (R24); a timer holds its period while it runs (R24, R36). -/
structure Thermal where
  chans : Vector Channel 32
  groups : Vector Group 10
  snap : Snapshot
  scan : Option (List (Fin 32))
  scanTimer : Option Nat
  historyTimer : Option Nat
  deriving DecidableEq, Repr

/-- The Thermal Unit after a reset (R21, R29, R30, R39). -/
def Thermal.reset : Thermal :=
  ⟨Vector.replicate 32 Channel.reset, Vector.replicate 10 Group.reset,
    ⟨Vector.replicate 32 ⟨2560, .off⟩, Vector.replicate 10 ⟨2560, .empty⟩⟩, none, none, none⟩

/-! ## Correction Unit (01) -/

/-- A coefficient set (R7): alpha_scale of the axes of arm A and of arm B, and alpha_wp. -/
structure CoeffSet where
  scale : Duo (Tri Int)
  wp : Int
  deriving DecidableEq, Repr

/-- All seven coefficients 0 (R7). -/
def CoeffSet.zero : CoeffSet := ⟨⟨⟨0, 0, 0⟩, ⟨0, 0, 0⟩⟩, 0⟩

/-- The Correction Unit (R7). -/
structure Correction where
  active : CoeffSet
  staged : CoeffSet
  swapPending : Bool
  deriving DecidableEq, Repr

/-! ## Zone Arbiter (04) -/

/-- A zone box (R68). -/
structure Box where
  xlo : Int
  xhi : Int
  ylo : Int
  yhi : Int
  deriving DecidableEq, Repr

/-- A wait record (R68); `timer` is the limit its wait timer was started with, 0 when no timer runs (R75). -/
inductive Wait where
  | idle | waiting (timer : Nat)
  deriving DecidableEq, Repr

/-- The Zone Arbiter (R68). `request` marks a request presented and not yet decided (R72, R73). -/
structure Zone where
  holder : Option Arm
  last : Option Arm
  boxes : Duo Box
  waits : Duo Wait
  request : Duo Bool
  limit : Nat
  deriving DecidableEq, Repr

/-- The arbiter after a reset (R68). -/
def Zone.reset : Zone := ⟨none, none, ⟨⟨0, 0, 0, 0⟩, ⟨0, 0, 0, 0⟩⟩, ⟨.idle, .idle⟩, ⟨false, false⟩, 0⟩

/-! ## Blocks (03 to 08) -/

/-- The copy of one slot (R42, R157): its index and its 32 words. -/
structure SlotCopy where
  index : Nat
  words : List Word
  deriving DecidableEq, Repr

/-- The result flags of a slot header (12.1). -/
structure ResultFlags where
  drifted : Bool := false
  bounce : Bool := false
  thermalHeld : Bool := false
  thermalSubstituted : Bool := false
  thermalLost : Bool := false
  feedClamped : Bool := false
  starved : Bool := false
  searchLimited : Bool := false
  alreadyMounted : Bool := false
  deriving DecidableEq, Repr

/-- The groups a conversion used (R13): HEAD and WORKPIECE only for a PART conversion. -/
structure Used where
  scale : Tri GroupPub
  rest : Option (GroupPub × GroupPub)
  deriving DecidableEq, Repr

/-- A converted capture of PROBE_POINT (R106, R109). -/
structure Touch where
  m : Vec
  point : Vec
  used : Used
  tick : Word
  deriving DecidableEq, Repr

/-- What HOME reports of one axis (R91). -/
structure HomeAxis where
  captured : Int
  delta : Int
  extra : Nat
  deriving DecidableEq, Repr

/-- What a HOME has gathered (R91 to R95). -/
structure HomeProg where
  axes : Tri HomeAxis
  missed : Option Axis
  deriving DecidableEq, Repr

/-- What a PROBE_POINT has gathered (R105 to R110). -/
structure TouchProg where
  cap : Option Touch
  missed : Bool
  deriving DecidableEq, Repr

/-- The outcome of a qualification (R117, R118). -/
structure QualValues where
  tip : Vec
  radius : Int
  rx : Int
  ry : Int
  tq : Int
  deriving DecidableEq, Repr

/-- What a QUALIFY has gathered (R114 to R118): the touch `k`, the transit leg, the captures in touch order, the
HEAD temperature of touch 4, the sum of the extra-edge counts, a missed touch, the computed values. -/
structure QualProg where
  k : Nat
  leg : Nat
  caps : List Vec
  head : Int
  extra : Nat
  missed : Bool
  values : Option QualValues
  deriving DecidableEq, Repr

/-- What a CHANGE_PROBE has bound at step 2 and gathered since (R139 to R148): P, M, p, m, the serial and kind
read, and the block-level fault that waits for the end of the fetch PORT_RETRACT (R146, R148). -/
structure ChangeProg where
  target : Option (Fin 24)
  stowed : Option (Fin 24)
  fetchPort : Option (Fin 12)
  stowPort : Option (Fin 12)
  serial : Nat
  kindRead : Nat
  fault : Option FaultCode
  deriving DecidableEq, Repr

/-- What an IDENTIFY has gathered (R137). -/
structure IdentProg where
  bytes : List Byte
  matched : Option (Fin 24)
  deriving DecidableEq, Repr

/-- A block taken from the queue: its slot copy, its resolved frame (R3), what step 4 bound to it (R14), and what
its phases have gathered. `passed` tells that steps 1 and 2 are passed; `limitHit` is the offending waypoint of an
OUT_OF_LIMITS (R16, R178); `passTested` tells that its commit point is past (R57, R59); `leg` is the MOVE segment in
progress; `before` is the mounted value before the block (R137, R139). -/
structure Block where
  slot : SlotCopy
  frame : Frame
  passed : Bool
  limitHit : Option (Nat × Axis)
  targets : List Vec
  used : Option Used
  flags : ResultFlags
  passTested : Bool
  leg : Nat
  before : Mounted
  touch : TouchProg
  home : HomeProg
  qual : QualProg
  change : ChangeProg
  ident : IdentProg
  link : LinkInfo
  deriving DecidableEq, Repr

/-- A block as it leaves the queue: nothing bound, nothing gathered. -/
def Block.fresh (c : SlotCopy) : Block where
  slot := c
  frame := .machine
  passed := false
  limitHit := none
  targets := []
  used := none
  flags := {}
  passTested := false
  leg := 0
  before := .none
  touch := ⟨none, false⟩
  home := ⟨⟨⟨0, 0, 0⟩, ⟨0, 0, 0⟩, ⟨0, 0, 0⟩⟩, none⟩
  qual := ⟨0, 0, [], 0, 0, false, none⟩
  change := ⟨none, none, none, none, 0, 0, none⟩
  ident := ⟨[], none⟩
  link := ⟨0, 0, none, none⟩

/-! ## The arm record (03) -/

/-- The interpolator (R40, R51, R52, R108): F is `f1` while the path position is below `threshold`, and `f2` from
there on; only a PROBE_POINT retract has a threshold above 0. -/
structure Seg where
  start : Vec
  stop : Vec
  len : Nat
  pos : Nat
  v : Nat
  vEnd : Nat
  f1 : Nat
  f2 : Nat
  threshold : Nat
  deriving DecidableEq, Repr

/-- The interpolator after a reset (R40). -/
def Seg.zero : Seg := ⟨.zero, .zero, 0, 0, 0, 0, 0, 0, 0⟩

/-- Work of an executing block that comes next: the end of a segment at rest (R53), step 6 (R45), the next segment of a
MOVE or of a TRANSIT (R48, R115), a search (R105, R116), a retract (R108, R116), the search of an axis or the limit
return (R92, R95), a change phase (08), a head link transaction (R131). It is immediate, but for `nextLeg`, the next
segment of a MOVE or of a TRANSIT after a segment that ended at a tick: it begins at the next tick (R53). All but the
first wait while the hold level is set (R60, R110, R149). -/
inductive Due where
  | segEnd | stepSix | leg | nextLeg | search | retract
  | homeSearch (axis : Axis) | limitReturn
  | change (phase : ChangePhase) (half : Half)
  | transaction (cmd : LinkCmd)
  deriving DecidableEq, Repr

/-- The cause of a stop in progress (R62 to R64). -/
inductive Cause where
  | abort | stopLine | fault (code : FaultCode)
  deriving DecidableEq, Repr

/-- A wait for the debounced SEAT level in a change, with its seat timeout (R142 to R144). -/
inductive SeatWait where
  | none | high (timeout : Nat) | low (timeout : Nat)
  deriving DecidableEq, Repr

/-- An Axis Port (R89). -/
structure AxisPort where
  offset : Int
  referenced : Bool
  setpoint : Int
  count : Int
  deriving DecidableEq, Repr

/-- An Axis Port after a reset (R89). -/
def AxisPort.reset : AxisPort := ⟨0, false, 0, 0⟩

/-- One arm: its record (R40), its frame offset (R5), its mounted value (R128), its SEAT level (R129, true for low)
and its head link (R131), its three Axis Ports (R89), and its CONTROL hold level (R153). `holdPhase` is the phase in
which a hold began (R41), from the moment the hold acts on the executing block until it clears or the block ends. A timer
holds its time while it runs. -/
structure ArmRec where
  state : ArmState
  phase : Phase
  holding : Bool
  holdPhase : Option Phase
  holdLevel : Bool
  referenced : Bool
  exec : Option Block
  committed : Option Block
  queue : List SlotCopy
  cmd : Vec
  seg : Seg
  moving : Bool
  crossed : Bool
  due : Option Due
  cause : Option Cause
  lastFault : Option FaultCode
  frameOffset : Vec
  mounted : Mounted
  seatLow : Bool
  debouncing : Bool
  probeLost : Bool
  dwellTimer : Option Nat
  stableTimer : Option Nat
  coverTimer : Option Nat
  seatWait : SeatWait
  link : Link
  axes : Tri AxisPort
  deriving DecidableEq, Repr

/-- An arm after a reset (R40, R5, R128, R131, R89), its debounced SEAT level taken from the line (R129). -/
def ArmRec.reset (seatLow : Bool) : ArmRec where
  state := .unreferenced
  phase := .none
  holding := false
  holdPhase := none
  holdLevel := false
  referenced := false
  exec := none
  committed := none
  queue := []
  cmd := .zero
  seg := .zero
  moving := false
  crossed := false
  due := none
  cause := none
  lastFault := none
  frameOffset := .zero
  mounted := .none
  seatLow := seatLow
  debouncing := false
  probeLost := false
  dwellTimer := none
  stableTimer := none
  coverTimer := none
  seatWait := .none
  link := .reset
  axes := ⟨.reset, .reset, .reset⟩

/-! ## Lanes, service engine, settings, pins -/

/-- A lane record (R155). -/
structure LaneRec where
  base : Nat
  count : Nat
  cursor : Nat
  paused : Bool
  deriving DecidableEq, Repr

/-- A lane after a reset (R155). -/
def LaneRec.reset : LaneRec := ⟨0, 0, 0, true⟩

/-- The request the service engine executes (R155, R160); `held` tells that the Thermal Unit holds it until the scan
in progress has ended (R22, R35). -/
structure SvcReq where
  slot : SlotCopy
  held : Bool
  deriving DecidableEq, Repr

/-- The settings of one axis (R168, 12.7). -/
structure AxisSet where
  lo : Int
  hi : Int
  reference : Int
  negative : Bool
  following : Int
  deriving DecidableEq, Repr

/-- The settings of one arm (R168, 12.7). -/
structure ArmSet where
  axes : Tri AxisSet
  maxFeed : Nat
  acc : Nat
  stopAcc : Nat
  homeFeed : Nat
  searchDist : Nat
  seatTimeout : Nat
  replyTimeout : Nat
  frame : Frame
  deriving DecidableEq, Repr

/-- Every setting that START hands to the run-time blocks and that no other record holds (R167, R170). -/
structure Settings where
  period : Nat
  arms : Duo ArmSet
  refresh : Nat
  deriving DecidableEq, Repr

/-- Settings before the first START. DESIGN CHOICE, log 7. -/
def ArmSet.reset : ArmSet :=
  ⟨⟨⟨0, 0, 0, false, 0⟩, ⟨0, 0, 0, false, 0⟩, ⟨0, 0, 0, false, 0⟩⟩, 0, 0, 0, 0, 0, 0, 0, .machine⟩

/-- Settings before the first START. DESIGN CHOICE, log 7. -/
def Settings.reset : Settings := ⟨0, ⟨.reset, .reset⟩, 0⟩

/-- The input lines (R176). A flag is set while its line is active; `hseatLow` and `stopLow` are set while the line
is low, which is their active level. -/
structure Pins where
  trig : Duo Bool
  refm : Duo (Tri Bool)
  ext : Vector Bool 4
  coverOpen : Duo Bool
  hseatLow : Duo Bool
  stopLow : Bool
  deriving DecidableEq, Repr

/-- The lines at power-on: an open STOP_IN and an open HSEAT read low (11.4, Electrical summary), the other inputs
stand inactive. DESIGN CHOICE, log 6. -/
def Pins.undriven : Pins :=
  ⟨⟨false, false⟩, ⟨⟨false, false, false⟩, ⟨false, false, false⟩⟩, Vector.replicate 4 false, ⟨false, false⟩,
    ⟨true, true⟩, true⟩

/-- The post set (R158): whether each lane is in it. -/
structure PostSet where
  motionA : Bool
  motionB : Bool
  service : Bool
  deriving DecidableEq, Repr

/-- The Port Unit (R153, R158, R162, R163, R173). `messages` counts the interrupt messages sent and `readData` is
what the last NOTICE read returned: outputs to the host. -/
structure PortUnit where
  posts : PostSet
  notices : BitVec 10
  mask : BitVec 10
  stop : StopState
  releaseTimer : Bool
  messages : Nat
  readData : Word
  deriving DecidableEq, Repr

/-- The state of the part, with the commands that wait. -/
structure State where
  device : Device
  tickNo : Word
  shm : Shm
  copied : List Word
  settings : Settings
  unit : PortUnit
  lanes : Duo LaneRec
  svcLane : LaneRec
  svc : Option SvcReq
  refreshDue : Bool
  refreshTimer : Option Nat
  corr : Correction
  therm : Thermal
  latches : Vector LatchUnit 16
  zone : Zone
  tables : Tables
  arms : Duo ArmRec
  pins : Pins
  free : Nat
  pending : List Instr
  deriving DecidableEq, Repr

/-- The model's own stops. -/
inductive Fault where
  /-- A SHARED_MEMORY_WRITE names a word offset outside the window, which R154 says does not exist. Safe: the
  model stops where the part has no such access. -/
  | noSuchWord (address : Nat)
  deriving DecidableEq, Repr

/-- Why a command is refused. -/
inductive Refusal where
  /-- The command has no meaning in the model yet. Safe: nothing is claimed. No arm of `exec` answers it. -/
  | notModelled (mnemonic : String)
  deriving DecidableEq, Repr

/-- The machine right after power-on reset (R171 and the owning rules): STOPPED, Shared Memory all zero, every block
in its reset state, and no command waiting. The tick number is 0: DESIGN CHOICE, log 7, since R54 and R171 say only that
the tick loop is stopped and that the count begins from 0 at START. -/
def State.reset : State where
  device := .stopped
  tickNo := 0
  shm := []
  copied := []
  settings := .reset
  unit := ⟨⟨false, false, false⟩, 0, 0, .active, false, 0, 0⟩
  lanes := ⟨.reset, .reset⟩
  svcLane := .reset
  svc := none
  refreshDue := false
  refreshTimer := none
  corr := ⟨.zero, .zero, false⟩
  therm := .reset
  latches := Vector.replicate 16 LatchUnit.reset
  zone := .reset
  tables := .reset
  arms := ⟨ArmRec.reset true, ArmRec.reset true⟩
  pins := .undriven
  free := 0
  pending := []

end Sys2Proof.Machine
end

