-- ==== Sys2Proof/Machine/Flags.lean ====
section
/-! DEFINITION. The result flags of a slot header (12.1) and how the states of the groups a conversion used set
them (R13). -/

namespace Sys2Proof.Machine

/-- 1 for a set bit at position `k`. -/
def bitAt (b : Bool) (k : Nat) : Nat := if b then 2 ^ k else 0

/-- The flags as bits 16 to 31 of header word 2 (12.1); bits 25 to 31, which it does not name, are 0 (DESIGN CHOICE,
log 45). -/
def ResultFlags.bits (f : ResultFlags) : Nat :=
  bitAt f.drifted 16 + bitAt f.bounce 17 + bitAt f.thermalHeld 18 + bitAt f.thermalSubstituted 19
    + bitAt f.thermalLost 20 + bitAt f.feedClamped 21 + bitAt f.starved 22 + bitAt f.searchLimited 23
    + bitAt f.alreadyMounted 24

/-- The group states a conversion used (R13): `scaleOnly` leaves HEAD and WORKPIECE out, as a MACHINE-frame block
does (R109). -/
def Used.states (u : Used) (scaleOnly : Bool) : List GroupState :=
  [u.scale.x.state, u.scale.y.state, u.scale.z.state] ++
    match u.rest with
    | none => []
    | some (h, w) => if scaleOnly then [] else [h.state, w.state]

/-- The thermal flags that a conversion sets (R13). -/
def ResultFlags.withThermal (f : ResultFlags) (u : Used) (scaleOnly : Bool) : ResultFlags :=
  { f with
    thermalHeld := decide (GroupState.held ∈ u.states scaleOnly)
    thermalSubstituted := decide (GroupState.substituted ∈ u.states scaleOnly)
    thermalLost := decide (GroupState.lost ∈ u.states scaleOnly) }

/-- The flags with those of one more conversion (R13, R38): QUALIFY makes several (log 19). -/
def ResultFlags.alsoThermal (f : ResultFlags) (u : Used) : ResultFlags :=
  let g := f.withThermal u false
  { f with
    thermalHeld := f.thermalHeld || g.thermalHeld
    thermalSubstituted := f.thermalSubstituted || g.thermalSubstituted
    thermalLost := f.thermalLost || g.thermalLost }

end Sys2Proof.Machine
end

