-- ==== Sys2Proof/Machine/Ops.lean ====
section
/-! DEFINITION. The shared operations: arms and axes, Shared Memory, bit fields, notices and the interrupt message,
lanes and slots, latch units. -/

namespace Sys2Proof

/-- The other arm. -/
def Arm.other : Arm → Arm
  | .A => .B
  | .B => .A

/-- The code of an arm (12.4). -/
def Arm.code : Arm → Nat
  | .A => 0
  | .B => 1

/-- The code of an axis (12.4). -/
def Axis.code : Axis → Nat
  | .X => 0
  | .Y => 1
  | .Z => 2

/-- The value of one arm. -/
def Duo.get {α : Type} (d : Duo α) : Arm → α
  | .A => d.a
  | .B => d.b

/-- Replace the value of one arm. -/
def Duo.set {α : Type} (d : Duo α) (arm : Arm) (x : α) : Duo α :=
  match arm with
  | .A => { d with a := x }
  | .B => { d with b := x }

/-- The value of one axis. -/
def Tri.get {α : Type} (t : Tri α) : Axis → α
  | .X => t.x
  | .Y => t.y
  | .Z => t.z

/-- Replace the value of one axis. -/
def Tri.set {α : Type} (t : Tri α) (axis : Axis) (v : α) : Tri α :=
  match axis with
  | .X => { t with x := v }
  | .Y => { t with y := v }
  | .Z => { t with z := v }

/-- Each component. -/
def Tri.map {α β : Type} (f : α → β) (t : Tri α) : Tri β := ⟨f t.x, f t.y, f t.z⟩

/-- Component by component. -/
def Tri.map2 {α β γ : Type} (f : α → β → γ) (t : Tri α) (u : Tri β) : Tri γ := ⟨f t.x u.x, f t.y u.y, f t.z u.z⟩

/-- Sum of two positions. -/
def Tri.plus (u v : Tri Int) : Tri Int := Tri.map2 (· + ·) u v

/-- Difference of two positions. -/
def Tri.minus (u v : Tri Int) : Tri Int := Tri.map2 (· - ·) u v

/-- Each component is at most 2^29 in magnitude (R4). -/
def Tri.coordOk (v : Tri Int) : Bool :=
  decide (v.x.natAbs ≤ 536870912) && decide (v.y.natAbs ≤ 536870912) && decide (v.z.natAbs ≤ 536870912)

end Sys2Proof

namespace Sys2Proof.Machine

/-- Apply a function to every entry of a table. -/
def mapTable {α β : Type} {n : Nat} (f : α → β) (v : Vector α n) : Vector β n := ⟨⟨v.toList.map f⟩, by simp⟩

/-- Combine two tables entry by entry. -/
def zipTables {α β γ : Type} {n : Nat} (f : α → β → γ) (v : Vector α n) (w : Vector β n) : Vector γ n :=
  ⟨⟨List.zipWith f v.toList w.toList⟩, by simp⟩

/-- A number as an index below `n`, or nothing (R177: a number outside its table is refused). -/
def index? (n k : Nat) : Option (Fin n) := if h : k < n then some ⟨k, h⟩ else none

/-! ## Bit fields (12, opening paragraph) -/

/-- Bits `lo` to `lo + len - 1` of a word. -/
def field (w : Word) (lo len : Nat) : Nat := w.toNat / 2 ^ lo % 2 ^ len

/-- A 16-bit field read as two's complement. -/
def signed16 (n : Nat) : Int := if n < 32768 then (n : Int) else (n : Int) - 65536

/-- The low 16 bits of a signed quantity. -/
def low16 (i : Int) : Nat := (i % 65536).toNat

/-- A signed quantity as a word, two's complement. -/
def intWord (i : Int) : Word := BitVec.ofInt 32 i

/-- A number as a word. -/
def natWord (n : Nat) : Word := BitVec.ofNat 32 n

/-- Clamp to a range (00, Arithmetic). -/
def clamp (lo hi i : Int) : Int := max lo (min i hi)

/-- Nearest rounding of `n / d` for a positive `d`, ties away from zero (00 Arithmetic, R2). -/
def roundDiv (n d : Int) : Int := if 0 ≤ n then (2 * n + d) / (2 * d) else -((2 * (-n) + d) / (2 * d))

/-! ## Shared Memory (R154) -/

/-- The word at an offset; an unlisted word is 0. -/
def Shm.get : Shm → Nat → Word
  | [], _ => 0
  | (j, w) :: rest, i => if j = i then w else Shm.get rest i

/-- Write a word and keep the canonical form. -/
def Shm.put : Shm → Nat → Word → Shm
  | [], i, w => if w = 0 then [] else [(i, w)]
  | (j, v) :: rest, i, w =>
    if i < j then (if w = 0 then (j, v) :: rest else (i, w) :: (j, v) :: rest)
    else if i = j then (if w = 0 then rest else (i, w) :: rest)
    else (j, v) :: Shm.put rest i w

/-- A write of the part or the host: words outside the window do not exist (R154). -/
def Shm.write (m : Shm) (i : Nat) (w : Word) : Shm := if i < 65536 then m.put i w else m

/-- Write consecutive words from an offset on. -/
def Shm.writeList (m : Shm) (i : Nat) : List Word → Shm
  | [] => m
  | w :: ws => Shm.writeList (m.write i w) (i + 1) ws

/-- `n` consecutive words from an offset on. -/
def Shm.readList (m : Shm) (i : Nat) : Nat → List Word
  | 0 => []
  | n + 1 => m.get i :: Shm.readList m (i + 1) n

namespace State

/-- One arm's record. -/
def arm (s : State) (a : Arm) : ArmRec := s.arms.get a

/-- Replace one arm's record. -/
def setArm (s : State) (a : Arm) (r : ArmRec) : State := { s with arms := s.arms.set a r }

/-- Change one arm's record. -/
def modArm (s : State) (a : Arm) (f : ArmRec → ArmRec) : State := s.setArm a (f (s.arm a))

/-- Write one word of Shared Memory. -/
def putWord (s : State) (i : Nat) (w : Word) : State := { s with shm := s.shm.write i w }

/-- Change the executing block of an arm, if it has one. -/
def modExec (s : State) (a : Arm) (f : Block → Block) : State :=
  s.modArm a fun r => { r with exec := r.exec.map f }

/-- The settings of one arm. -/
def armSet (s : State) (a : Arm) : ArmSet := s.settings.arms.get a

end State

/-! ## Notices (R162, R163, R164) -/

/-- The bit of a notice kind (12.9). -/
def Notice.bit : Notice → Nat
  | .laneA => 0
  | .laneB => 1
  | .service => 2
  | .armAFault => 3
  | .armBFault => 4
  | .thermal => 5
  | .probe => 6
  | .swap => 7
  | .started => 8
  | .stopLine => 9

/-- The set holding one kind. -/
def Notice.one (n : Notice) : BitVec 10 := BitVec.ofNat 10 (2 ^ n.bit)

/-- Replace the notice set and the mask; one interrupt message is sent when their intersection goes from empty to
non-empty (R163). -/
def PortUnit.withNotices (u : PortUnit) (notices mask : BitVec 10) : PortUnit :=
  { u with
    notices := notices
    mask := mask
    messages := if u.notices &&& u.mask = 0 ∧ notices &&& mask ≠ 0 then u.messages + 1 else u.messages }

/-- Set a notice kind (R162). In RUN it makes a Condition Page refresh due (R164). -/
def State.setNotice (s : State) (n : Notice) : State :=
  { s with
    unit := s.unit.withNotices (s.unit.notices ||| n.one) s.unit.mask
    refreshDue := s.refreshDue || s.device == .run }

/-- The notice of an arm's lane (R159). -/
def laneNotice : Arm → Notice
  | .A => .laneA
  | .B => .laneB

/-- The notice of an arm's entry into FAULT (R64). -/
def faultNotice : Arm → Notice
  | .A => .armAFault
  | .B => .armBFault

/-! ## Codes of statuses and faults (12.1, 12.3) -/

/-- The status codes (12.1). -/
def Status.code : Status → Nat
  | .none => 0
  | .ok => 1
  | .missed => 2
  | .unstable => 3
  | .aborted => 4

/-- The fault codes (12.3). -/
def FaultCode.code : FaultCode → Nat
  | .badKind => 0x01
  | .badField => 0x02
  | .frameLocked => 0x03
  | .notReferenced => 0x04
  | .noProbe => 0x05
  | .mountUnknown => 0x06
  | .notQualified => 0x07
  | .outOfLimits => 0x08
  | .latchNotOwned => 0x09
  | .latchBusy => 0x0A
  | .homeMissed => 0x0B
  | .zoneTimeout => 0x0C
  | .probeEngaged => 0x0D
  | .qualMissed => 0x0E
  | .qualSpread => 0x0F
  | .qualRange => 0x10
  | .portState => 0x11
  | .coverFault => 0x12
  | .linkRefused => 0x13
  | .linkTimeout => 0x14
  | .linkError => 0x15
  | .rateFault => 0x16
  | .idMismatch => 0x17
  | .seatTimeout => 0x18
  | .collision => 0x19
  | .probeLost => 0x1A
  | .following => 0x1B
  | .driveSilent => 0x1C
  | .stopLine => 0x1D
  | .swapPending => 0x20
  | .zoneBusy => 0x21
  | .probeInUse => 0x22
  | .lineActive => 0x23
  | .wrongState => 0x24

/-- 0 for no fault code (12.3). -/
def faultCodeOf : Option FaultCode → Nat
  | none => 0
  | some f => f.code

/-! ## Slots (R155 to R159, 12.1) -/

/-- Word `i` of a slot copy. -/
def SlotCopy.word (c : SlotCopy) (i : Nat) : Word := c.words.getD i 0

/-- Word `i` as a signed integer. -/
def SlotCopy.int (c : SlotCopy) (i : Nat) : Int := (c.word i).toInt

/-- Word `i` as a natural number. -/
def SlotCopy.nat (c : SlotCopy) (i : Nat) : Nat := (c.word i).toNat

/-- The kind code of a slot copy (12.1). -/
def SlotCopy.kindCode (c : SlotCopy) : Nat := field (c.word 0) 8 8

/-- The tag of a slot copy (12.1). -/
def SlotCopy.tag (c : SlotCopy) : Nat := field (c.word 0) 16 16

/-- The slot state codes (12.1). -/
def slotPosted : Nat := 1
/-- TAKEN (12.1). -/
def slotTaken : Nat := 2
/-- DONE (12.1). -/
def slotDone : Nat := 3
/-- FAULTED (12.1). -/
def slotFaulted : Nat := 4
/-- FLUSHED (12.1). -/
def slotFlushed : Nat := 5

/-- The first word of slot `i` of a lane (R155). -/
def LaneRec.slotBase (l : LaneRec) (i : Nat) : Nat := l.base + 32 * i

/-- The cursor after the slot it stands at (R157). -/
def LaneRec.nextCursor (l : LaneRec) : Nat := if l.cursor + 1 < l.count then l.cursor + 1 else 0

/-- Whether the slot at the cursor is POSTED (R157). -/
def LaneRec.posted (l : LaneRec) (m : Shm) : Bool := field (m.get (l.slotBase l.cursor)) 0 8 == slotPosted

/-- The copy that a take makes of the slot at the cursor (R157). -/
def LaneRec.takenCopy (l : LaneRec) (m : Shm) : SlotCopy := ⟨l.cursor, m.readList (l.slotBase l.cursor) 32⟩

/-- Shared Memory after a take: TAKEN stands in the state field, the other bits of the word kept (R157). -/
def LaneRec.takenShm (l : LaneRec) (m : Shm) : Shm :=
  let w := m.get (l.slotBase l.cursor)
  m.write (l.slotBase l.cursor) (natWord (w.toNat / 256 * 256 + slotTaken))

/-- What a completion writes into the header beside the part's copy (R159). -/
structure Completion where
  slotState : Nat
  status : Status
  fault : Option FaultCode
  flags : ResultFlags
  deriving DecidableEq, Repr

/-- The header words 0 to 3 of a completion (R156, R177). -/
def Completion.header (c : Completion) (copy : SlotCopy) (tick : Word) : List Word :=
  [natWord (c.slotState + copy.kindCode * 256 + copy.tag * 65536), copy.word 1,
    natWord (c.status.code + faultCodeOf c.fault * 256 + c.flags.bits), tick]

/-- Exactly twelve result words: what a kind gives, and 0 beyond (R178). -/
def twelve (ws : List Word) : List Word := (ws ++ List.replicate 12 0).take 12

/-- Write a completed slot: the result words for DONE and FAULTED (`none` for FLUSHED), then the header (R159). -/
def writeSlot (m : Shm) (base : Nat) (copy : SlotCopy) (c : Completion) (result : Option (List Word)) (tick : Word) : Shm :=
  let m := match result with
    | none => m
    | some ws => m.writeList (base + 20) (twelve ws)
  m.writeList base (c.header copy tick)

namespace State

/-- Write the completion of a slot of a motion lane and set the lane's notice (R159). -/
def completeMotionSlot (s : State) (a : Arm) (copy : SlotCopy) (c : Completion) (result : Option (List Word)) : State :=
  { s with shm := writeSlot s.shm ((s.lanes.get a).slotBase copy.index) copy c result s.tickNo }.setNotice (laneNotice a)

/-- The slots of an arm that the part holds TAKEN: the queue, the executing and the committed block (R42, R156). -/
def holdsSlot (s : State) (a : Arm) (i : Nat) : Bool :=
  let r := s.arm a
  r.queue.any (fun c => c.index == i) || r.exec.any (fun b => b.slot.index == i) ||
    r.committed.any (fun b => b.slot.index == i)

/-- One look of a fill at the cursor slot: take it while the lane is OPEN, the queue has room, the slot is POSTED and
is not held already (R42, R157). Log 14. -/
def fillOne (s : State) (a : Arm) : Option State :=
  let l := s.lanes.get a
  let r := s.arm a
  if !l.paused && decide (r.queue.length < 8) && l.posted s.shm && !s.holdsSlot a l.cursor then
    some ({ s with
      shm := l.takenShm s.shm
      lanes := s.lanes.set a { l with cursor := l.nextCursor } }.setArm a
        { r with queue := r.queue ++ [l.takenCopy s.shm] })
  else none

/-- A fill looks again after each take; eight takes fill the queue (R42). -/
def fillN (a : Arm) : Nat → State → State
  | 0, s => s
  | n + 1, s =>
    match s.fillOne a with
    | none => s
    | some t => fillN a n t

/-- A fill of an arm's queue (R42). -/
def fill (s : State) (a : Arm) : State := fillN a 8 s

/-- Write each given entry FLUSHED, head first (R43, R159). -/
def flushSlots (a : Arm) : List SlotCopy → State → State
  | [], s => s
  | c :: cs, s => flushSlots a cs (s.completeMotionSlot a c ⟨slotFlushed, .none, none, {}⟩ none)

/-- A motion lane goes from OPEN to PAUSED and its queue is flushed; a PAUSED lane is left as it is (R43). -/
def pauseLane (s : State) (a : Arm) : State :=
  let l := s.lanes.get a
  if l.paused then s
  else
    let q := (s.arm a).queue
    flushSlots a q ({ s with lanes := s.lanes.set a { l with paused := true } }.modArm a fun r => { r with queue := [] })

end State

/-! ## Latch units (R82 to R86) -/

namespace LatchUnit

/-- Whether the unit is armed: ARMED or FIRED (R82). -/
def isArmed (u : LatchUnit) : Bool := u.state != .idle

/-- Arming (R82): `count` is the current scale count of the compare axis, taken in COMPARE mode. -/
def arming (u : LatchUnit) (by_ : ArmedBy) (count : Int) : LatchUnit :=
  { u with
    state := .armed
    armedBy := by_
    extra := 0
    cap := .zero
    previous := if u.mode = .compare then count else u.previous }

/-- Disarming (R82): the record, the extra-edge count and the settings are kept. -/
def disarmed (u : LatchUnit) : LatchUnit := { u with state := .idle, armedBy := .none }

/-- Disarm the unit if a block of arm `a` armed it, and, with `captureOnly`, only in CAPTURE mode (R82). -/
def disarmOfBlock (a : Arm) (captureOnly : Bool) (u : LatchUnit) : LatchUnit :=
  match u.armedBy with
  | .block _ => if u.alloc = some a ∧ (captureOnly = false ∨ u.mode = .capture) then u.disarmed else u
  | _ => u

/-- Whether the unit drives an output line: COVER of its allocated arm, or an EXT_OUT (R86). -/
def drives (u : LatchUnit) (line : Output) : Bool :=
  u.mode == .compare && u.state == .fired && u.output == line

end LatchUnit

namespace State

/-- Disarm every unit that a block of arm `a` armed (R82). -/
def disarmBlock (s : State) (a : Arm) : State :=
  { s with latches := mapTable (LatchUnit.disarmOfBlock a false) s.latches }

/-- Disarm the capture units that the executing block armed, when the arm becomes HELD mid-block (R82). -/
def disarmCaptures (s : State) (a : Arm) : State :=
  { s with latches := mapTable (LatchUnit.disarmOfBlock a true) s.latches }

/-- Replace one unit. -/
def setUnit (s : State) (i : Fin 16) (u : LatchUnit) : State := { s with latches := s.latches.set i u }

/-- COVER of an arm is active while a FIRED compare unit allocated to it names it (R86). -/
def coverActive (s : State) (a : Arm) : Bool :=
  s.latches.toList.any fun u => u.drives .cover && u.alloc == some a

/-- EXT_OUT `i` is active while a FIRED compare unit names it (R86). -/
def extOutActive (s : State) (i : Fin 4) : Bool := s.latches.toList.any fun u => u.drives (.ext i)

end State

end Sys2Proof.Machine
end

