-- ==== Sys2Proof/Machine/Operands.lean ====
section
/-! DEFINITION. What a slot's words say: the options, the kinds, and the body of every motion kind and service kind
(12.1, 12.2, 12.4 to 12.6), with the code tables. A reader answers `none` where a code or a number is outside its
table (R177). -/

namespace Sys2Proof.Machine

/-! ## Codes (12.1, 12.2, 12.4) -/

/-- The motion kind of a code (12.2). -/
def Kind.ofCode : Nat → Option Kind
  | 0x01 => some .move
  | 0x02 => some .dwell
  | 0x03 => some .waitStable
  | 0x04 => some .setFrame
  | 0x05 => some .setLatch
  | 0x06 => some .home
  | 0x07 => some .probePoint
  | 0x08 => some .qualify
  | 0x09 => some .identify
  | 0x0A => some .changeProbe
  | _ => none

/-- The service kind of a code (12.2). -/
def SvcKind.ofCode : Nat → Option SvcKind
  | 0x11 => some .stageSet
  | 0x12 => some .swapSet
  | 0x13 => some .setSensor
  | 0x14 => some .setGroup
  | 0x15 => some .setZone
  | 0x16 => some .setProbe
  | 0x17 => some .readProbe
  | 0x18 => some .setPort
  | 0x19 => some .clearFault
  | 0x1A => some .reopenLane
  | _ => none

/-- The motion kind of a slot copy. -/
def SlotCopy.kind (c : SlotCopy) : Option Kind := Kind.ofCode c.kindCode

/-- The service kind of a slot copy. -/
def SlotCopy.svcKind (c : SlotCopy) : Option SvcKind := SvcKind.ofCode c.kindCode

/-- The frame selector field (12.1). -/
def SlotCopy.selector (c : SlotCopy) : Nat := field (c.word 1) 0 2

/-- The PASS option (12.1). -/
def SlotCopy.pass (c : SlotCopy) : Bool := field (c.word 1) 2 1 == 1

/-- Three consecutive words as a position (12.5). -/
def SlotCopy.vec (c : SlotCopy) (i : Nat) : Vec := ⟨c.int i, c.int (i + 1), c.int (i + 2)⟩

/-- The arm of a code (12.4). -/
def arm? : Nat → Option Arm
  | 0 => some .A
  | 1 => some .B
  | _ => none

/-- The axis of a code (12.4). -/
def axis? : Nat → Option Axis
  | 0 => some .X
  | 1 => some .Y
  | 2 => some .Z
  | _ => none

/-- The probe kind of a code (12.4). -/
def probeKind? : Nat → Option ProbeKind
  | 1 => some .touch
  | 2 => some .scanningTouch
  | _ => none

/-- The code of a probe kind (12.4). -/
def ProbeKind.code : ProbeKind → Nat
  | .touch => 1
  | .scanningTouch => 2

/-- The code of a qualification state (12.4). -/
def QualState.code : QualState → Nat
  | .new => 0
  | .qualified => 1
  | .drifted => 2

/-- The code of a location (12.4). -/
def Location.code : Location → Nat
  | .absent => 0
  | .inPort _ => 1
  | .mounted _ => 2
  | .unknown => 3

/-- The port or arm that a location names, in the place READ_PROBE gives it (12.6); 0 where it names neither
(DESIGN CHOICE, log 46). -/
def Location.place : Location → Nat
  | .inPort p => p.val
  | .mounted a => a.code
  | _ => 0

/-- The code of a mounted value (12.4). -/
def Mounted.code : Mounted → Nat
  | .probe i => i.val
  | .none => 0x80
  | .unverified => 0x81
  | .foreign => 0x82

/-- A record or port number, FFh for none (12.4). -/
def orNone {n : Nat} : Option (Fin n) → Nat
  | none => 0xFF
  | some i => i.val

/-- The code of a head link kind, 0 for none (12.4). -/
def linkKindCode : Option LinkKind → Nat
  | none => 0
  | some .timeout => 1
  | some .rate => 2
  | some .refused => 3
  | some .framing => 4
  | some .parity => 5
  | some .length => 6
  | some .checksum => 7

/-- The link word (12.4); bits 28 to 31, which 12.4 does not name, are 0 (DESIGN CHOICE, log 45). -/
def LinkInfo.word (l : LinkInfo) : Word :=
  natWord (l.period % 65536 + l.repeats * 2 ^ 16 + linkKindCode l.first * 2 ^ 20 + linkKindCode l.error * 2 ^ 24)

/-- The direction of a code (12.5). -/
def dir? : Nat → Option Dir
  | 0 => some .up
  | 1 => some .down
  | _ => none

/-! ## Coordinates and directions (R3, R4) -/

/-- 2^29, the largest magnitude of a coordinate (R4). -/
def coordMax : Int := 536870912

/-- The length check of a direction (R4). -/
def dirOk (d : Vec) : Bool := decide ((d.x * d.x + d.y * d.y + d.z * d.z - 268435456).natAbs ≤ 1048576)

/-- A position displaced along a direction by a distance (R4): base + round(d * distance / 2^14). -/
def displaced (base d : Vec) (distance : Nat) : Vec :=
  Tri.map2 (fun b c => b + roundDiv (c * distance) 16384) base d

/-- A position set back along a direction (R101): base - round(d * distance / 2^14). -/
def setBack (base d : Vec) (distance : Nat) : Vec :=
  Tri.map2 (fun b c => b - roundDiv (c * distance) 16384) base d

/-- A feed of 1 to 2,147,483,647 counts per second (R45, R48). -/
def feedOk (i : Int) : Bool := decide (1 ≤ i)

/-- The frame a selector resolves to on a lane (R3); the four kinds that ignore it still have it checked. -/
def resolveFrame (laneDefault : Frame) (k : Kind) (selector : Nat) : Option Frame :=
  if selector = 3 then none
  else
    match k with
    | .home | .qualify | .identify | .changeProbe => some .machine
    | _ => some (if selector = 1 then .machine else if selector = 2 then .part else laneDefault)

/-! ## Motion block bodies (12.5) -/

namespace SlotCopy

/-- MOVE: waypoints 0 to n - 1; entries beyond the count are not examined (R177). -/
def moveCount (c : SlotCopy) : Nat := c.nat 5

/-- The first `n` waypoints of a MOVE (12.5). -/
def movePoints (c : SlotCopy) (n : Nat) : List Vec := (List.range n).map fun i => c.vec (6 + 3 * i)

/-- PROBE_POINT: the direction, three signed 16-bit components (12.5). -/
def probeDir (c : SlotCopy) : Vec :=
  ⟨signed16 (field (c.word 7) 0 16), signed16 (field (c.word 7) 16 16), signed16 (field (c.word 8) 0 16)⟩

/-- PROBE_POINT: the start (R101). -/
def probeStart (c : SlotCopy) : Vec := setBack (c.vec 4) c.probeDir (c.nat 9)

/-- PROBE_POINT: the search end (R101). -/
def probeEnd (c : SlotCopy) : Vec := displaced (c.vec 4) c.probeDir (c.nat 10)

/-- The capture unit that a HOME, a PROBE_POINT or a QUALIFY names (12.5). -/
def captureUnit (c : SlotCopy) : Kind → Option (Fin 16)
  | .home => index? 16 (c.nat 4)
  | .probePoint => index? 16 (c.nat 14)
  | .qualify => index? 16 (c.nat 11)
  | _ => none

end SlotCopy

/-- The actions of SET_LATCH (R88, 12.5). -/
inductive LatchAction where
  | allocate | release | arm | disarm | read
  deriving DecidableEq, Repr

/-- The action of a code (12.5). -/
def latchAction? : Nat → Option LatchAction
  | 0 => some .allocate
  | 1 => some .release
  | 2 => some .arm
  | 3 => some .disarm
  | 4 => some .read
  | _ => none

/-- The mode of a code (12.5). -/
def unitMode? : Nat → Option UnitMode
  | 0 => some .capture
  | 1 => some .compare
  | _ => none

/-- The capture input of a code (12.5). -/
def captureInput? : Nat → Option CaptureInput
  | 0 => some .trig
  | 1 => some (.refm .X)
  | 2 => some (.refm .Y)
  | 3 => some (.refm .Z)
  | 4 => some (.ext 0)
  | 5 => some (.ext 1)
  | 6 => some (.ext 2)
  | 7 => some (.ext 3)
  | _ => none

/-- The edge of a code (12.5). -/
def edge? : Nat → Option Edge
  | 0 => some .rise
  | 1 => some .fall
  | 2 => some .any
  | _ => none

/-- The output of a code (12.5). -/
def output? : Nat → Option Output
  | 0 => some .none
  | 1 => some .cover
  | 2 => some (.ext 0)
  | 3 => some (.ext 1)
  | 4 => some (.ext 2)
  | 5 => some (.ext 3)
  | _ => none

/-- The settings that SET_LATCH ALLOCATE writes into a unit: the mode it gives and that mode's settings, the other mode's
kept (DEDUCED, log 30). Every code and the compare value are tested whatever the mode (R88, R177); `none` is
BAD_FIELD. -/
def SlotCopy.latchSettings (c : SlotCopy) (u : LatchUnit) : Option LatchUnit :=
  match unitMode? (c.nat 6), captureInput? (c.nat 7), edge? (c.nat 8), axis? (c.nat 9), dir? (c.nat 11),
    output? (c.nat 12) with
  | some m, some i, some e, some x, some d, some o =>
    if (c.int 10).natAbs ≤ 536870912 then
      some (match m with
        | .capture => { u with mode := .capture, input := i, edge := e }
        | .compare => { u with mode := .compare, axis := x, value := c.int 10, dir := d, output := o })
    else none
  | _, _, _, _, _, _ => none

/-! ## Service request bodies (12.6) -/

/-- A coefficient within -131,072..131,071 (R7, R17). -/
def coeffOk (i : Int) : Bool := decide (-131072 ≤ i) && decide (i ≤ 131071)

/-- A coefficient set from seven consecutive signed words. -/
def coeffSet (f : Nat → Int) (i : Nat) : CoeffSet :=
  ⟨⟨⟨f i, f (i + 1), f (i + 2)⟩, ⟨f (i + 3), f (i + 4), f (i + 5)⟩⟩, f (i + 6)⟩

/-- Each of the seven coefficients is in range (R17). -/
def CoeffSet.ok (k : CoeffSet) : Bool :=
  coeffOk k.scale.a.x && coeffOk k.scale.a.y && coeffOk k.scale.a.z && coeffOk k.scale.b.x && coeffOk k.scale.b.y &&
    coeffOk k.scale.b.z && coeffOk k.wp

/-- SET_SENSOR: the listed flag (12.6). A value other than 0 and 1 is BAD_FIELD (R177). -/
def SlotCopy.listed? (c : SlotCopy) : Option Bool :=
  match c.nat 5 with
  | 0 => some false
  | 1 => some true
  | _ => none

/-- SET_SENSOR: the settings, in their ranges (R21, R22). -/
def SlotCopy.sensorSettingsOk (c : SlotCopy) : Bool :=
  decide (-32768 ≤ c.int 6) && decide (c.int 6 ≤ 32767) && decide ((c.int 7).natAbs ≤ 1048576) &&
    decide (c.nat 8 ≤ 4095) && decide (c.nat 9 ≤ 4095) && decide (c.nat 8 < c.nat 9) &&
    decide (1 ≤ c.nat 10) && decide (c.nat 10 ≤ 10240) && decide (c.nat 11 ≤ 6) &&
    decide (1 ≤ c.nat 12) && decide (c.nat 12 ≤ 255) && decide (10 ≤ c.nat 13) && decide (c.nat 13 ≤ 1000)

/-- SET_GROUP: the channels of the list, as many as the member count says (R35, R177). -/
def SlotCopy.groupMembers (c : SlotCopy) : Option (List (Fin 32)) :=
  if c.nat 5 ≤ 4 then (List.range (c.nat 5)).mapM fun i => index? 32 (c.nat (6 + i)) else none

/-- SET_ZONE: the box (12.6). -/
def SlotCopy.box (c : SlotCopy) (i : Nat) : Box := ⟨c.int i, c.int (i + 1), c.int (i + 2), c.int (i + 3)⟩

end Sys2Proof.Machine
end

