-- ==== Sys2Proof/Machine/Correction.lean ====
section
/-! DEFINITION. The correction chain (01, R8 to R13). -/

namespace Sys2Proof.Machine

/-- 2^40. -/
def two40 : Int := 1099511627776

/-- A strain: two times the coefficient times the clamped temperature difference (R8). -/
def strain (coefficient difference : Int) : Int := 2 * coefficient * clamp (-5120) 5120 difference

/-- The SCALE group of an axis, in the group order of R35. -/
def scaleGroup : Arm → Axis → Fin 10
  | .A, .X => 0
  | .A, .Y => 1
  | .A, .Z => 2
  | .B, .X => 3
  | .B, .Y => 4
  | .B, .Z => 5

/-- The HEAD group of an arm (R35). -/
def headGroup : Arm → Fin 10
  | .A => 6
  | .B => 7

/-- The WORKPIECE group (R35). -/
def workGroup : Fin 10 := 8

/-- The AIR group (R35). -/
def airGroup : Fin 10 := 9

/-- `c + round(c * s / 2^40)`: the scale stage (R9) and the probe stage of one component (R10). -/
def stretch (c s : Int) : Int := c + roundDiv (c * s) two40

/-- `round(c * 2^40 / (2^40 + s))`: the workpiece stage (R11) and the scale step of the inverse chain (R12). -/
def shrink (c s : Int) : Int := roundDiv (c * two40) (two40 + s)

/-- `round(c * (2^40 + s) / 2^40)`: the workpiece step of the inverse chain (R12). -/
def grow (c s : Int) : Int := roundDiv (c * (two40 + s)) two40

/-- All that a conversion of one arm reads, taken at one moment (R13): the strains of its axes and of the workpiece,
the corrected tip offset of a verified mounted probe (R10), the frame offset, and the groups. -/
structure ChainInputs where
  axes : Tri Int
  wp : Int
  tip : Option Vec
  offset : Vec
  scale : Tri GroupPub
  head : GroupPub
  work : GroupPub
  deriving DecidableEq, Repr

namespace State

/-- A published group (R29, R38). -/
def group (s : State) (g : Fin 10) : GroupPub := s.therm.snap.groups[g]

/-- The record of the verified mounted probe, or nothing (R10, R128). -/
def mountedProbe (s : State) (a : Arm) : Option Probe :=
  match (s.arm a).mounted with
  | .probe i => some s.tables.probes[i]
  | _ => none

/-- The inputs of a conversion at this moment (R13). -/
def chain (s : State) (a : Arm) : ChainInputs :=
  let g (x : Axis) := s.group (scaleGroup a x)
  let k := s.corr.active
  let head := s.group (headGroup a)
  let work := s.group workGroup
  { axes :=
      ⟨strain (k.scale.get a).x ((g .X).temp - 2560), strain (k.scale.get a).y ((g .Y).temp - 2560),
        strain (k.scale.get a).z ((g .Z).temp - 2560)⟩
    wp := strain k.wp (work.temp - 2560)
    tip := (s.mountedProbe a).map fun p => p.tip.map fun t => stretch t (strain p.alpha (head.temp - p.tq))
    offset := (s.arm a).frameOffset
    scale := ⟨g .X, g .Y, g .Z⟩
    head := head
    work := work }

end State

namespace ChainInputs

/-- Raw counts to MACHINE (R9). -/
def toMachine (k : ChainInputs) (c : Vec) : Vec := Tri.map2 stretch c k.axes

/-- Raw counts to PART (R9 to R11); nothing without a verified mounted probe (R10). -/
def toPart (k : ChainInputs) (c : Vec) : Option Vec :=
  k.tip.map fun t => (((k.toMachine c).plus t).minus k.offset).map fun q => shrink q k.wp

/-- A MACHINE target to raw counts (R12). -/
def fromMachine (k : ChainInputs) (m : Vec) : Vec := Tri.map2 shrink m k.axes

/-- A PART target to raw counts (R12). -/
def fromPart (k : ChainInputs) (r : Vec) : Option Vec :=
  k.tip.map fun t => k.fromMachine (((r.map fun i => grow i k.wp).plus k.offset).minus t)

/-- A target of a frame to raw counts (R12). -/
def fromFrame (k : ChainInputs) (f : Frame) (v : Vec) : Option Vec :=
  match f with
  | .machine => some (k.fromMachine v)
  | .part => k.fromPart v

/-- The groups that a conversion of a frame hands back (R13). -/
def used (k : ChainInputs) (f : Frame) : Used :=
  ⟨k.scale, match f with
    | .machine => none
    | .part => some (k.head, k.work)⟩

end ChainInputs

end Sys2Proof.Machine
end

