-- ==== Sys2Proof/Machine/ThermalUnit.lean ====
section
/-! DEFINITION. The Thermal Unit (02): samples, scan end, groups, history, stability. -/

namespace Sys2Proof.Machine

/-- The room's range of temperatures (R21, R25). -/
def clampTemp (i : Int) : Int := clamp (-2560) 7680 i

namespace Channel

/-- The calibrated temperature of a code (R25). -/
def rawTemp (c : Channel) (code : Nat) : Int := clampTemp (c.offset + ((code : Int) * c.gain + 32768) / 65536)

/-- Whether a sample is bad (R26). -/
def sampleBad (c : Channel) (code : Nat) : Bool :=
  decide ((code : Int) ≤ c.codeLo) || decide (c.codeHi ≤ (code : Int)) ||
    (c.state != .lost && decide (c.stepLimit < ((c.rawTemp code - c.value).natAbs : Int)))

/-- A bad sample (R27). A channel in OFF is not sampled, and stays as it is. -/
def afterBad (c : Channel) : Channel :=
  match c.state with
  | .off => c
  | .valid => { c with bad := 1, state := if c.holdLimit ≤ 1 then .lost else .suspect }
  | .suspect => { c with bad := c.bad + 1, state := if c.holdLimit ≤ c.bad + 1 then .lost else .suspect }
  | .lost => { c with bad := if c.bad < c.holdLimit then c.bad + 1 else c.bad }

/-- A good sample (R28). -/
def afterGood (c : Channel) (t : Int) : Channel :=
  { c with
    value :=
      if c.state = .lost ∨ c.shift = 0 then t
      else clampTemp (c.value + (t - c.value + 2 ^ (c.shift - 1)) / 2 ^ c.shift)
    state := .valid
    bad := 0 }

/-- One sample (R25 to R28). -/
def sample (c : Channel) (code : Nat) : Channel :=
  if c.sampleBad code then c.afterBad else c.afterGood (c.rawTemp code)

/-- The record that a SET_SENSOR leaves (R23). -/
def configured (c : Channel) (listed : Bool) (body : SlotCopy) : Channel :=
  if listed then
    { c with
      listed := true
      offset := body.int 6
      gain := body.int 7
      codeLo := body.int 8
      codeHi := body.int 9
      stepLimit := body.int 10
      shift := body.nat 11
      holdLimit := body.nat 12
      sampleTime := body.nat 13
      state := .lost
      bad := 0 }
  else { c with listed := false, state := .off, value := 2560, bad := 0 }

end Channel

/-- The sum of a list. -/
def sumList : List Int → Int
  | [] => 0
  | x :: xs => x + sumList xs

namespace Group

/-- A group at a scan end, from the values of its VALID members, whether it has members, and the temperature AIR
gives in its place (R31 to R34); `air` is nothing for the AIR group and while AIR is not VALID (R33). -/
def evaluated (g : Group) (valid : List Int) (air : Option Int) : Group :=
  if g.members = [] then { g with state := .empty, temp := 2560, held := 0 }
  else if valid ≠ [] then
    { g with state := .valid, temp := roundDiv (sumList valid) valid.length, held := 0 }
  else
    let n := min (g.held + 1) 255
    if n < g.holdLimit then { g with state := .held, held := n }
    else
      match air with
      | some t => { g with state := .substituted, temp := t, held := n }
      | none => { g with state := .lost, held := n }

/-- The published form of a group (R29). -/
def pub (g : Group) : GroupPub := ⟨g.temp, g.state⟩

/-- The ring after an expiry of the history interval, by the group's published standing (R36). -/
def record (g : Group) (p : GroupPub) : Group :=
  match p.state with
  | .valid | .empty =>
    { g with ring := (if g.ring.length < 16 then g.ring else g.ring.drop (g.ring.length - 15)) ++ [p.temp] }
  | _ => { g with ring := [] }

/-- The largest minus the smallest entry of a ring, 0 when it is empty (R37, R50). -/
def spread (g : Group) : Int :=
  match g.ring with
  | [] => 0
  | x :: xs => xs.foldl max x - xs.foldl min x

/-- Stable within a band (R37). -/
def stable (g : Group) (band : Nat) : Bool := g.ring.length == 16 && decide (g.spread ≤ band)

/-- The record that a SET_GROUP leaves (R35). -/
def configured (g : Group) (members : List (Fin 32)) (holdLimit : Nat) : Group :=
  { g with members := members, holdLimit := holdLimit, held := 0, ring := [] }

end Group

namespace Thermal

/-- The values of the VALID members of a group (R31). -/
def validValues (t : Thermal) (g : Group) : List Int :=
  (g.members.map fun i => t.chans[i]).filterMap fun c => if c.state = .valid then some c.value else none

/-- AIR at this scan end (R29 step 1, R33). -/
def airNow (t : Thermal) : Group :=
  let g := t.groups[airGroup]
  g.evaluated (t.validValues g) none

/-- The ten groups at this scan end (R29 steps 1 and 2). -/
def groupsNow (t : Thermal) : Vector Group 10 :=
  let air := t.airNow
  let sub : Option Int := if air.state = .valid then some air.temp else none
  (mapTable (fun g => g.evaluated (t.validValues g) sub) t.groups).set airGroup air

/-- The groups and the snapshot after a scan end (R29 steps 1 to 3); no scan is in progress any more. -/
def scanEnded (t : Thermal) : Thermal :=
  let gs := t.groupsNow
  { t with
    groups := gs
    snap := ⟨mapTable (fun c => ⟨c.value, c.state⟩) t.chans, mapTable Group.pub gs⟩
    scan := none }

/-- Whether a scan end changed the published state of a group (R34). -/
def statesDiffer (before after : Snapshot) : Bool :=
  before.groups.toList.map (·.state) != after.groups.toList.map (·.state)

/-- The scan list: the listed channels in ascending order (R21, R24). -/
def scanList (t : Thermal) : List (Fin 32) := (List.finRange 32).filter fun i => t.chans[i].listed

/-- One sample of the scan in progress: the record of the next channel, and the channels that remain (R24, R25). -/
def sampled (t : Thermal) (code : Nat) : Thermal :=
  match t.scan with
  | some (i :: rest) => { t with chans := t.chans.set i (t.chans[i].sample code), scan := some rest }
  | _ => t

/-- An expiry of the history interval (R36). -/
def recorded (t : Thermal) : Thermal :=
  { t with
    groups := zipTables Group.record t.groups t.snap.groups }

/-- The checks of a SET_GROUP's own fields (R35): the group, its members and its hold limit, or nothing for BAD_FIELD. -/
def groupFields (c : SlotCopy) : Option (Fin 10 × List (Fin 32) × Nat) :=
  match index? 10 (c.nat 4), c.groupMembers with
  | some g, some ms => if ms.Nodup ∧ 1 ≤ c.nat 10 ∧ c.nat 10 ≤ 255 then some (g, ms, c.nat 10) else none
  | _, _ => none

/-- No channel of a list is a member of another group: SET_GROUP's check at the moment of its application (R35). -/
def noOtherGroup (t : Thermal) (g : Fin 10) (ms : List (Fin 32)) : Bool :=
  (List.finRange 10).all fun h => h == g || ms.all fun m => !(t.groups[h].members.contains m)

/-- The checks of a SET_SENSOR (R22): the channel and the listed flag, or nothing for BAD_FIELD. -/
def sensorRequest (c : SlotCopy) : Option (Fin 32 × Bool) :=
  match index? 32 (c.nat 4), c.listed? with
  | some i, some true => if c.sensorSettingsOk then some (i, true) else none
  | some i, some false => some (i, false)
  | _, _ => none

/-- The checks that do not wait for the application of a request (R22, R35). -/
def fieldsOk (c : SlotCopy) : Bool :=
  match c.svcKind with
  | some .setSensor => (sensorRequest c).isSome
  | some .setGroup => (groupFields c).isSome
  | _ => false

/-- Apply a request of the Thermal Unit: nothing where it is refused (R22, R23, R35). -/
def apply (t : Thermal) (c : SlotCopy) : Option Thermal :=
  match c.svcKind with
  | some .setSensor =>
    (sensorRequest c).map fun (i, listed) => { t with chans := t.chans.set i (t.chans[i].configured listed c) }
  | some .setGroup =>
    match groupFields c with
    | some (g, ms, limit) =>
      if t.noOtherGroup g ms then some { t with groups := t.groups.set g (t.groups[g].configured ms limit) } else none
    | none => none
  | _ => none

end Thermal

end Sys2Proof.Machine
end

