-- ==== Sys2Proof/Machine/Interpolator.lean ====
section
/-! DEFINITION. The interpolator (03, R51 to R53; 06, R103, R108): one straight segment in raw counts. -/

namespace Sys2Proof.Machine

/-- The bits of a square root, from the highest down: `root` with the bits below `2 ^ k` still to be found. -/
def isqrtBits (n : Nat) : Nat → Nat → Nat
  | 0, root => root
  | k + 1, root => isqrtBits n k (if (root + 2 ^ k) * (root + 2 ^ k) ≤ n then root + 2 ^ k else root)

/-- The floor of the square root (R51). -/
def isqrt (n : Nat) : Nat := isqrtBits n (n.log2 / 2 + 1) 0

/-- A feed in counts per second as a velocity per tick (R51). -/
def perTickFeed (period feed : Nat) : Nat := feed * period * 65536 / 1000000

/-- An acceleration in counts per second squared as one per tick squared (R51, R168). -/
def perTickAcc (period acc : Nat) : Nat := acc * (period * period) * 65536 / 1000000000000

namespace Seg

/-- The segment from `start` to `stop` with the velocity it begins with (R51, R53). -/
def between (start stop : Vec) (f1 f2 threshold v : Nat) : Seg where
  start := start
  stop := stop
  len :=
    let d := stop.minus start
    isqrt (d.x * d.x + d.y * d.y + d.z * d.z).toNat
  pos := 0
  v := v
  vEnd := 0
  f1 := f1
  f2 := f2
  threshold := threshold

/-- The path position of the end (R52). -/
def total (g : Seg) : Nat := g.len * 65536

/-- Whether the segment has reached its end (R53). -/
def atEnd (g : Seg) : Bool := decide (g.total ≤ g.pos)

/-- F at the path position (R52, R108). -/
def feed (g : Seg) : Nat := if g.pos < g.threshold then g.f1 else g.f2

/-- The brake test of R52 toward an end velocity: rem ≤ floor(v²/2A) − floor(v_end²/2A). -/
def mustBrake (g : Seg) (a vEnd : Nat) : Bool :=
  decide (g.total - g.pos + vEnd * vEnd / (2 * a) ≤ g.v * g.v / (2 * a))

/-- Step 5 of R52. -/
def advanced (g : Seg) (v : Nat) : Seg := { g with v := v, pos := min (g.pos + v) g.total }

/-- Steps 1 to 5 of R52 with acceleration `a`. -/
def step (g : Seg) (a : Nat) : Seg :=
  if g.mustBrake a g.vEnd then g.advanced (max (g.v - a) (max g.vEnd a))
  else if g.v < g.feed then g.advanced (min (g.v + a) g.feed)
  else g.advanced g.v

/-- A tick of a deceleration toward 0 (R60, R62, R93, R106). -/
def slowed (g : Seg) (a : Nat) : Seg := g.advanced (g.v - a)

/-- Step 6 of R52: the commanded position. -/
def position (g : Seg) : Vec :=
  Tri.map2 (fun s e => s + roundDiv ((e - s) * g.pos) g.total) g.start g.stop

end Seg

/-- A raw count lies within its axis's soft limits, both ends included (R16). -/
def AxisSet.inside (x : AxisSet) (c : Int) : Bool := decide (x.lo ≤ c) && decide (c ≤ x.hi)

/-- The soft limit that a count beyond the limits violates (R103); the nearer limit (R95). -/
def AxisSet.nearest (x : AxisSet) (c : Int) : Int := clamp x.lo x.hi c

/-- The first component of a position outside the soft limits, in the order X, Y, Z (R16). -/
def firstOutside (ax : Tri AxisSet) (v : Vec) : Option Axis :=
  if !ax.x.inside v.x then some .X
  else if !ax.y.inside v.y then some .Y
  else if !ax.z.inside v.z then some .Z
  else none

/-- The first offending waypoint, counted from `i`, and its axis (R16). -/
def limitCheck (ax : Tri AxisSet) : Nat → List Vec → Option (Nat × Axis)
  | _, [] => none
  | i, v :: vs =>
    match firstOutside ax v with
    | some x => some (i, x)
    | none => limitCheck ax (i + 1) vs

/-- A bound met on the way: the axis, the violated limit, and the fraction of the way as |limit − S| over |d| (R103). -/
structure Bound where
  axis : Axis
  limit : Int
  num : Nat
  den : Nat
  deriving DecidableEq, Repr

/-- The bound of one axis, if its search end lies outside (R103 step 1). The magnitude of limit − S is taken, so that a
violated lower limit also bounds along the line: DEDUCED, log 39. -/
def boundOf (ax : Tri AxisSet) (s e : Vec) (x : Axis) : Option Bound :=
  if (ax.get x).inside (e.get x) then none
  else
    let b := (ax.get x).nearest (e.get x)
    some ⟨x, b, (b - s.get x).natAbs, (e.get x - s.get x).natAbs⟩

/-- The bound with the smaller fraction (R103 step 2). -/
def Bound.sooner (p q : Bound) : Bound := if q.num * p.den < p.num * q.den then q else p

/-- The smallest of the bounds of the three axes (R103 step 2). -/
def firstBound (ax : Tri AxisSet) (s e : Vec) : Option Bound :=
  match ([Axis.X, .Y, .Z].filterMap (boundOf ax s e)) with
  | [] => none
  | b :: bs => some (bs.foldl Bound.sooner b)

/-- One component of the bounded end (R103 step 3). -/
def Bound.component (b : Bound) (s e : Vec) (x : Axis) : Int :=
  if x = b.axis then b.limit
  else s.get x + (e.get x - s.get x).sign * (((e.get x - s.get x).natAbs * b.num / b.den : Nat) : Int)

/-- The search end, bounded where it lies outside the limits, and whether it was bounded (R103). -/
def boundedEnd (ax : Tri AxisSet) (s e : Vec) : Vec × Bool :=
  match firstBound ax s e with
  | none => (e, false)
  | some b => (⟨b.component s e .X, b.component s e .Y, b.component s e .Z⟩, true)

end Sys2Proof.Machine
end

