-- ==== Sys2Proof/Machine/ProbeManager.lean ====
section
/-! DEFINITION. The Probe Manager (07, 08): every change of a module's whereabouts, SET_PROBE and SET_PORT, the drift
check, identity reconciliation, the steps of a probe change and its settlement. -/

namespace Sys2Proof.Machine

/-- The arm whose rack a port belongs to (R126). -/
def rackOf (p : Fin 12) : Arm := if p.val < 6 then .A else .B

namespace Tables

/-- Change one probe record. -/
def modProbe (t : Tables) (i : Fin 24) (f : Probe → Probe) : Tables :=
  { t with probes := t.probes.set i (f t.probes[i]) }

/-- Move a record to a location. -/
def setLoc (t : Tables) (i : Fin 24) (l : Location) : Tables := t.modProbe i fun r => { r with loc := l }

/-- Change one port's state. -/
def setPortState (t : Tables) (p : Fin 12) (st : PortState) : Tables :=
  { t with ports := t.ports.set p { t.ports[p] with state := st } }

/-- The record whose serial and kind an identity names; blank records match nothing (R138). -/
def lookup (t : Tables) (serial : Nat) (kind : ProbeKind) : Option (Fin 24) :=
  (List.finRange 24).find? fun i => serial != 0 && t.probes[i].serial == serial && t.probes[i].kind == kind

end Tables

namespace State

/-- Change an arm's mounted value. -/
def setMounted (s : State) (a : Arm) (m : Mounted) : State := s.modArm a fun r => { r with mounted := m }

/-- The change an arm executes, from the moment its block passed step 2 (R122). -/
def changeOf (s : State) (a : Arm) : Option ChangeProg :=
  match (s.arm a).exec with
  | some b => if b.passed && b.slot.kind == some .changeProbe then some b.change else none
  | none => none

/-- A probe is in use by a change of an arm (R122). -/
def probeInUse (s : State) (i : Fin 24) : Bool :=
  [Arm.A, .B].any fun a => (s.changeOf a).any fun c => c.target == some i || c.stowed == some i

/-- A port is in use by a change of an arm (R122). -/
def portInUse (s : State) (p : Fin 12) : Bool :=
  [Arm.A, .B].any fun a => (s.changeOf a).any fun c => c.fetchPort == some p || c.stowPort == some p

end State

/-! ## SET_PROBE (R123, R124) -/

/-- A SET_PROBE whose fields are in range. -/
structure ProbeRequest where
  index : Fin 24
  record : Probe
  deriving DecidableEq, Repr

/-- The last port a SET_PROBE gives: a port, or FFh for none; `none` for any other value. -/
def lastPort? (n : Nat) : Option (Option (Fin 12)) :=
  if n = 0xFF then some none else (index? 12 n).map some

/-- The location that a SET_PROBE asks for with its last port; `none` for an unknown code, MOUNTED, or a port that is
not on the rack of the record's arm (R123). The last port is not examined for IN_PORT, and the port byte only there
(DEDUCED, log 30). -/
def requestedPlace (arm : Arm) (code port last : Nat) : Option (Location × Option (Fin 12)) :=
  if code = 1 then
    match index? 12 port with
    | some p => if rackOf p = arm then some (Location.inPort p, some p) else none
    | none => none
  else if code = 0 ∨ code = 3 then
    match lastPort? last with
    | some none => some (if code = 0 then .absent else .unknown, none)
    | some (some p) => if rackOf p = arm then some (if code = 0 then .absent else .unknown, some p) else none
    | none => none
  else none

/-- The numeric fields of a SET_PROBE are in the ranges of R121. -/
def SlotCopy.probeFieldsOk (c : SlotCopy) : Bool :=
  decide ((c.int 7).natAbs ≤ 16777216) && decide ((c.int 8).natAbs ≤ 16777216) &&
    decide ((c.int 9).natAbs ≤ 16777216) && decide (c.nat 10 ≤ 16777216) && coeffOk (c.int 11) &&
    decide (1 ≤ c.nat 12) && decide (c.nat 12 ≤ 10240) && decide (-2560 ≤ c.int 13) && decide (c.int 13 ≤ 7680)

/-- Check 1 of R123; `none` is BAD_FIELD. -/
def State.probeRequest (s : State) (c : SlotCopy) : Option ProbeRequest :=
  match index? 24 (c.nat 4), probeKind? (field (c.word 6) 0 8), arm? (field (c.word 6) 8 8) with
  | some i, some k, some a =>
    match requestedPlace a (field (c.word 6) 16 8) (field (c.word 6) 24 8) (c.nat 15) with
    | some (loc, last) =>
      let fresh := (List.finRange 24).all fun j => j == i || s.tables.probes[j].serial != c.nat 5
      if c.nat 5 ≠ 0 ∧ fresh = true ∧ c.probeFieldsOk = true ∧ c.nat 14 ≤ 1 then
        some ⟨i, {
          serial := c.nat 5
          kind := k
          arm := a
          tip := c.vec 7
          radius := c.int 10
          alpha := c.int 11
          driftLimit := c.int 12
          tq := if c.nat 14 = 0 then 2560 else c.int 13
          qual := if c.nat 14 = 0 then .new else .qualified
          loc := loc
          lastPort := last }⟩
      else none
    | none => none
  | _, _, _ => none

/-- Checks 2 and 3 of R123. -/
def State.probeRefusal (s : State) (q : ProbeRequest) : Option FaultCode :=
  let mounted := match s.tables.probes[q.index].loc with
    | .mounted _ => true
    | _ => false
  if mounted || s.probeInUse q.index || q.record.lastPort.any s.portInUse then some .probeInUse
  else
    match q.record.loc with
    | .inPort p =>
      let st := s.tables.ports[p].state
      if st = .empty ∨ st = .occupied q.index then none else some .portState
    | _ => none

/-- The change of the table that a SET_PROBE makes (R124). -/
def Tables.applyProbe (t : Tables) (q : ProbeRequest) : Tables :=
  let t1 := match t.probes[q.index].loc with
    | .inPort old => if q.record.loc = Location.inPort old then t else t.setPortState old .empty
    | _ => t
  let t2 := match q.record.loc with
    | .inPort p => t1.setPortState p (.occupied q.index)
    | _ => t1
  t2.modProbe q.index fun _ => q.record

/-! ## SET_PORT (R127) -/

/-- A SET_PORT whose fields are in range: the port, the positions and cover settings (its `state` is not used), and the
requested state, `none` for KEEP. -/
structure PortRequest where
  index : Fin 12
  record : Port
  state : Option PortState
  deriving DecidableEq, Repr

/-- The requested state of a code (12.6). -/
def portRequestState? : Nat → Option (Option PortState)
  | 0 => some none
  | 1 => some (some .disabled)
  | 2 => some (some .empty)
  | 3 => some (some .unknown)
  | _ => none

/-- Check 1 of R127; `none` is BAD_FIELD. -/
def portRequest (c : SlotCopy) : Option PortRequest :=
  match index? 12 (c.nat 4), portRequestState? (c.nat 5), index? 16 (c.nat 12), axis? (c.nat 13), dir? (c.nat 15) with
  | some p, some st, some u, some x, some d =>
    if (c.vec 6).coordOk = true ∧ (c.vec 9).coordOk = true ∧ (c.int 14).natAbs ≤ 536870912 then
      some ⟨p, ⟨.disabled, c.vec 6, c.vec 9, u, x, c.int 14, d⟩, st⟩
    else none
  | _, _, _, _, _ => none

/-- The change of the table that a SET_PORT makes (R127). -/
def Tables.applyPort (t : Tables) (q : PortRequest) : Tables :=
  let old := t.ports[q.index].state
  let t1 := { t with ports := t.ports.set q.index { q.record with state := q.state.getD old } }
  match q.state, old with
  | some _, .occupied i => t1.setLoc i .unknown
  | _, _ => t1

/-! ## Drift check (R99) -/

/-- The drift check of a record against a head temperature; the difference is not clamped (R99). -/
def Probe.driftFails (p : Probe) (head : Int) : Bool := decide (p.driftLimit < ((head - p.tq).natAbs : Int))

/-- A drift check of an arm's mounted probe, acted on by the Probe Manager (R99). -/
def State.driftCheck (s : State) (a : Arm) : State :=
  match (s.arm a).mounted with
  | .probe i =>
    let p := s.tables.probes[i]
    if p.qual = .qualified ∧ p.driftFails (s.group (headGroup a)).temp = true then
      { s with tables := s.tables.modProbe i fun r => { r with qual := .drifted } }.setNotice .probe
    else s
  | _ => s

/-- Whether the arm's mounted record stands DRIFTED (R99). -/
def State.standsDrifted (s : State) (a : Arm) : Bool :=
  match s.mountedProbe a with
  | some p => p.qual == .drifted
  | none => false

/-! ## Identity and reconciliation (R136, R138) -/

/-- Byte `i` of an identity block. -/
def byteAt (bytes : List Byte) (i : Nat) : Nat := (bytes.getD i 0).toNat

/-- The serial of an identity block, least significant byte first (12.10). -/
def identSerial (bytes : List Byte) : Nat :=
  byteAt bytes 2 + byteAt bytes 3 * 256 + byteAt bytes 4 * 65536 + byteAt bytes 5 * 16777216

/-- The identity of a block, if it is readable (R136). -/
def identity? (bytes : List Byte) : Option (Nat × ProbeKind) :=
  match probeKind? (byteAt bytes 1) with
  | some k => if byteAt bytes 0 = 1 ∧ identSerial bytes ≠ 0 then some (identSerial bytes, k) else none
  | none => none

namespace State

/-- The record that an identity names (R138). -/
def matched (s : State) (bytes : List Byte) : Option (Fin 24) :=
  (identity? bytes).bind fun (serial, kind) => s.tables.lookup serial kind

/-- Give up the belief in the probe an arm has mounted: its record becomes UNKNOWN, its last port kept. -/
def detach (s : State) (a : Arm) : State :=
  match (s.arm a).mounted with
  | .probe x => { s with tables := s.tables.setLoc x .unknown }
  | _ => s

/-- Release the previous place of a record found on arm `a` (R138, step 1). -/
def releasePlace (s : State) (a : Arm) (q : Fin 24) : State :=
  match s.tables.probes[q].loc with
  | .inPort p => { s with tables := s.tables.setPortState p .unknown }
  | .mounted o => if o = a then s else s.setMounted o .unverified
  | _ => s

/-- Reconciliation without its notice (R138). -/
def reconciled (s : State) (a : Arm) (found : Option (Fin 24)) : State :=
  match found with
  | some q =>
    let s1 := s.releasePlace a q
    let s2 := if (s.arm a).mounted = .probe q then s1 else s1.detach a
    { s2 with tables := s2.tables.setLoc q (.mounted a) }.setMounted a (.probe q)
  | none => (s.detach a).setMounted a .foreign

/-- Set the PROBE notice when the tables or the mounted value of `watched` changed between two states. -/
def noteProbeChange (before after : State) (watched : Arm) : State :=
  if before.tables ≠ after.tables ∨ (before.arm watched).mounted ≠ (after.arm watched).mounted then
    after.setNotice .probe
  else after

/-- Identity reconciliation of an arm (R138). -/
def reconcile (s : State) (a : Arm) (found : Option (Fin 24)) : State :=
  noteProbeChange s (s.reconciled a found) a.other

/-- The effect of an unannounced loss of a verified probe: the value becomes NONE, the record UNKNOWN, and the PROBE
notice is set (R130). Where the other arm's reconciliation has taken the record meanwhile, the value becomes NONE and the
record stays as that arm has it (log 40). Nothing is done where no loss is waiting. -/
def applyProbeLost (s : State) (a : Arm) : State :=
  if (s.arm a).probeLost then
    let s1 := s.modArm a fun r => { r with probeLost := false }
    if (s.arm a).mounted = .none then s1 else ((s1.detach a).setMounted a .none).setNotice .probe
  else s

/-! ## The steps of a change (R143 to R146) and its settlement (R150) -/

/-- The stow: M stands in port m and the head is free (R143). -/
def stow (s : State) (a : Arm) (m : Fin 24) (p : Fin 12) : State :=
  { s with
    tables := (s.tables.modProbe m fun r => { r with loc := .inPort p, lastPort := some p }).setPortState p
      (.occupied m) }.setMounted a .none

/-- The fetch: port p has given up its module, which is not yet identified (R144). -/
def fetch (s : State) (a : Arm) (target : Fin 24) (p : Fin 12) : State :=
  { s with
    tables := (s.tables.modProbe target fun r => { r with loc := .unknown, lastPort := some p }).setPortState p .empty
    }.setMounted a .unverified

/-- The verification: P is on the arm (R145). -/
def verify (s : State) (a : Arm) (target : Fin 24) : State :=
  { s with tables := s.tables.setLoc target (.mounted a) }.setMounted a (.probe target)

/-- The port the head was working at: that of the half whose DOCK, RELEASE, ENGAGE, IDENTIFY or PORT_RETRACT was in
progress (R150 step 1). -/
def portWorkedAt (s : State) (a : Arm) : Option (Fin 12) :=
  match (s.arm a).phase, (s.arm a).exec with
  | .changing c h, some b =>
    if c = .stowApproach ∨ c = .fetchApproach then none
    else
      match h with
      | .stow => b.change.stowPort
      | .fetch => b.change.fetchPort
  | _, _ => none

/-- A port whose contents are not known any more: it becomes UNKNOWN, and so does a record IN_PORT there (R150). -/
def Tables.doubtPort (t : Tables) (p : Fin 12) : Tables :=
  let t1 := match t.ports[p].state with
    | .occupied i => t.setLoc i .unknown
    | _ => t
  t1.setPortState p .unknown

/-- The mounted value after a settlement, from the SEAT level and the value as it stands (R150 step 2). -/
def settledMount (seatLow : Bool) (m : Mounted) : Mounted :=
  if seatLow then
    match m with
    | .none => .unverified
    | other => other
  else .none

/-- The settlement of a change that ended early (R150). -/
def settlement (s : State) (a : Arm) : State :=
  let s1 := match s.portWorkedAt a with
    | some p => { s with tables := Tables.doubtPort s.tables p }
    | none => s
  let r := s1.arm a
  let s2 := if r.seatLow then s1 else s1.detach a
  noteProbeChange s (s2.setMounted a (settledMount r.seatLow r.mounted)) a

end State

end Sys2Proof.Machine
end

