-- ==== Sys2Proof/Machine/Zone.lean ====
section
/-! DEFINITION. The Zone Arbiter (04): boxes and sweep boxes, the decision, withdrawal and release, SET_ZONE's checks,
the settlement of a following fault. -/

namespace Sys2Proof.Machine

namespace Box

/-- A position lies inside a box; Z is not examined, both ends are included (R70). -/
def inside (b : Box) (v : Vec) : Bool :=
  decide (b.xlo ≤ v.x) && decide (v.x ≤ b.xhi) && decide (b.ylo ≤ v.y) && decide (v.y ≤ b.yhi)

/-- The smallest box that holds one position. -/
def atPoint (v : Vec) : Box := ⟨v.x, v.x, v.y, v.y⟩

/-- The smallest box that holds a box and a position. -/
def cover (b : Box) (v : Vec) : Box := ⟨min b.xlo v.x, max b.xhi v.x, min b.ylo v.y, max b.yhi v.y⟩

/-- Two boxes overlap; ranges that share only an end value overlap (R70). -/
def meets (b c : Box) : Bool :=
  decide (b.xlo ≤ c.xhi) && decide (c.xlo ≤ b.xhi) && decide (b.ylo ≤ c.yhi) && decide (c.ylo ≤ b.yhi)

end Box

/-- The sweep box of a block: its start and the positions it moves to (R70). -/
def sweepBox (start : Vec) (positions : List Vec) : Box := positions.foldl Box.cover (Box.atPoint start)

namespace State

/-- The zone box of an arm. -/
def zoneBox (s : State) (a : Arm) : Box := s.zone.boxes.get a

/-- The arm holds the grant (R68). -/
def holdsGrant (s : State) (a : Arm) : Bool := s.zone.holder == some a

/-- The arm has been made to wait (R73). -/
def zoneWaiting (s : State) (a : Arm) : Bool := s.zone.waits.get a != .idle

/-- A request is presented to the arbiter (R72). -/
def zoneRequest (s : State) (a : Arm) : State :=
  { s with zone := { s.zone with request := s.zone.request.set a true } }

/-- A withdrawal: the wait record becomes idle and the wait timer stops; holder and last holder stay (R76). -/
def zoneWithdraw (s : State) (a : Arm) : State :=
  { s with zone := { s.zone with request := s.zone.request.set a false, waits := s.zone.waits.set a .idle } }

/-- The grant is given to an arm, whose step 5 thereby passes (R73). -/
def zoneGrant (s : State) (a : Arm) : State :=
  { s with zone := { s.zone with
      holder := some a
      last := some a
      request := s.zone.request.set a false
      waits := s.zone.waits.set a .idle } }.modArm a fun r => { r with due := some .stepSix }

/-- A request that is not granted: the arm enters WAIT_ZONE, with its wait timer started when there is a limit (R72, R73,
R75). It waits also where a swap has become pending since its request (DEDUCED, log 15). -/
def zoneWait (s : State) (a : Arm) : State :=
  { s with zone := { s.zone with
      request := s.zone.request.set a false
      waits := s.zone.waits.set a (.waiting s.zone.limit) } }.modArm a fun r => { r with phase := .waitZone }

/-- The arm that wins a tie: the one that is not the last holder, arm A when there is none (R73). -/
def zoneTieWinner (s : State) : Arm :=
  match s.zone.last with
  | some a => a.other
  | none => .A

/-- A decision of the arbiter over the requests that have reached it (R73). -/
def zoneDecide (s : State) : State :=
  match s.zone.holder with
  | some h => if s.zone.request.get h.other then s.zoneWait h.other else s
  | none =>
    match s.zone.request.a, s.zone.request.b with
    | true, true => (s.zoneGrant s.zoneTieWinner).zoneWait s.zoneTieWinner.other
    | true, false => s.zoneGrant .A
    | false, true => s.zoneGrant .B
    | false, false => s

/-- The holder gives the grant up: it passes to the other arm where that arm waits, and becomes FREE otherwise, the
last holder kept (R73). -/
def zoneRelease (s : State) (a : Arm) : State :=
  if s.zoneWaiting a.other then s.zoneGrant a.other else { s with zone := { s.zone with holder := none } }

/-- The release test: the holder releases when its commanded position lies outside its box and the next block does not
need the zone (R77, R78). -/
def releaseTest (s : State) (a : Arm) (nextNeeds : Bool) : State :=
  if s.holdsGrant a && !(s.zoneBox a).inside (s.arm a).cmd && !nextNeeds then s.zoneRelease a else s

end State

/-! ## The settlement of a following fault (R69) -/

/-- A way out of a box: how far the value lies from the scale count of its axis, and the position it gives. -/
structure Exit where
  dist : Nat
  pos : Vec
  deriving DecidableEq, Repr

/-- The four ways out of a box, in the order of preference: X before Y, lo before hi (R69). -/
def Box.exits (b : Box) (count v : Vec) : List Exit :=
  [⟨(b.xlo - 1 - count.x).natAbs, { v with x := b.xlo - 1 }⟩, ⟨(b.xhi + 1 - count.x).natAbs, { v with x := b.xhi + 1 }⟩,
    ⟨(b.ylo - 1 - count.y).natAbs, { v with y := b.ylo - 1 }⟩, ⟨(b.yhi + 1 - count.y).natAbs, { v with y := b.yhi + 1 }⟩]

/-- The nearer of two ways out, the first where both are equally near. -/
def Exit.nearer (p q : Exit) : Exit := if q.dist < p.dist then q else p

/-- The position moved just outside the box by the nearest way out (R69). -/
def Box.evicted (b : Box) (count v : Vec) : Vec :=
  match b.exits count v with
  | [] => v
  | e :: es => (es.foldl Exit.nearer e).pos

/-- The settlement of a commanded position that a FOLLOWING or DRIVE_SILENT fault has set, `count` being the scale
counts (R69). -/
def State.followingZone (s : State) (a : Arm) (count : Vec) : State :=
  let r := s.arm a
  if r.referenced && !s.holdsGrant a && (s.zoneBox a).inside r.cmd then
    match s.zone.holder with
    | none => { s with zone := { s.zone with holder := some a, last := some a } }
    | some _ => s.modArm a fun r => { r with cmd := (s.zoneBox a).evicted count r.cmd }
  else s

/-! ## SET_ZONE (R79) -/

/-- The range conditions of a zone box against the soft limits of its arm (R79 check 1, R168 indices 37 and 46). -/
def Box.fits (b : Box) (ax : Tri AxisSet) : Bool :=
  decide (b.xlo ≤ b.xhi) && decide (b.ylo ≤ b.yhi) && decide (ax.x.lo < b.xlo) && decide (b.xhi < ax.x.hi) &&
    decide (ax.y.lo < b.ylo) && decide (b.yhi < ax.y.hi)

/-- Check 1 of R79: the arm and its new box; `none` is BAD_FIELD. -/
def State.zoneRequested (s : State) (c : SlotCopy) : Option (Arm × Box) :=
  match arm? (c.nat 4) with
  | some a => if (c.box 5).fits (s.armSet a).axes then some (a, c.box 5) else none
  | none => none

/-- Check 2 of R79: the quiet checks. -/
def State.zoneQuiet (s : State) (a : Arm) (b : Box) : Bool :=
  s.zone.holder == none && s.zone.waits == ⟨.idle, .idle⟩ && (s.arm a).exec == none &&
    (!(s.arm a).referenced || !b.inside (s.arm a).cmd)

end Sys2Proof.Machine
end

