-- ==== Sys2Proof/Machine/Checks.lean ====
section
/-! DEFINITION. The block start sequence's tests: steps 1, 2 and 4, and when a block needs the zone
(03, R45 to R47; 04, R71, R77; the kinds' own rules). -/

namespace Sys2Proof.Machine

/-! ## QUALIFY's positions (R114) -/

/-- The positions of one touch, as quill positions: clearance point, approach start, nominal contact, search end. -/
structure TouchPlan where
  clear : Vec
  start : Vec
  contact : Vec
  stop : Vec
  deriving DecidableEq, Repr

/-- The approach direction of the touches in their order W, E, S, N, T (R114), pointing into the sphere. -/
def touchDirs : List Vec := [⟨1, 0, 0⟩, ⟨-1, 0, 0⟩, ⟨0, 1, 0⟩, ⟨0, -1, 0⟩, ⟨0, 0, -1⟩]

/-- The sphere and distances of a QUALIFY with the tip offset and radius that place its touches (R114). -/
structure Sphere where
  centre : Vec
  radius : Int
  approach : Int
  search : Int
  tip : Vec
  tipRadius : Int
  deriving DecidableEq, Repr

namespace Sphere

/-- The quill position whose tip centre stands back from the sphere's centre by a distance against a direction. -/
def back (q : Sphere) (d : Vec) (distance : Int) : Vec :=
  (q.centre.minus (d.map fun i => i * distance)).minus q.tip

/-- The height of the clearance plane (R114). -/
def zClear (q : Sphere) : Int := q.centre.z + q.radius + q.tipRadius + q.approach - q.tip.z

/-- The approach start of a direction (R114). -/
def startOf (q : Sphere) (d : Vec) : Vec := q.back d (q.radius + q.tipRadius + q.approach)

/-- One touch (R114). -/
def plan (q : Sphere) (d : Vec) : TouchPlan where
  clear := { q.startOf d with z := q.zClear }
  start := q.startOf d
  contact := q.back d (q.radius + q.tipRadius)
  stop := q.back d (q.radius + q.tipRadius - q.search)

/-- The five touches (R114). -/
def plans (q : Sphere) : List TouchPlan := touchDirs.map q.plan

/-- Every derived position passes the magnitude check (R4, R113). -/
def positionsOk (q : Sphere) : Bool :=
  q.plans.all fun p => p.clear.coordOk && p.start.coordOk && p.contact.coordOk && p.stop.coordOk

end Sphere

/-- The sphere of a QUALIFY body with a tip offset and a radius (12.5). -/
def SlotCopy.sphere (c : SlotCopy) (tip : Vec) (tipRadius : Int) : Sphere :=
  ⟨c.vec 4, c.int 7, c.int 8, c.int 9, tip, tipRadius⟩

/-! ## Step 1 (R45) -/

/-- PROBE_POINT's fields (R101). -/
def SlotCopy.probePointOk (c : SlotCopy) : Bool :=
  dirOk c.probeDir && (c.vec 4).coordOk && decide (c.nat 9 ≤ 10000000) && decide (1 ≤ c.nat 10) &&
    decide (c.nat 10 ≤ 10000000) && decide (c.nat 11 ≤ 10000000) && feedOk (c.int 12) && feedOk (c.int 13) &&
    decide (c.int 13 ≤ c.int 12) && decide (c.nat 14 ≤ 15) && c.probeStart.coordOk && c.probeEnd.coordOk

/-- QUALIFY's fields, without its derived positions (R113). -/
def SlotCopy.qualifyFieldsOk (c : SlotCopy) : Bool :=
  (c.vec 4).coordOk && decide (1 ≤ c.nat 7) && decide (c.nat 7 ≤ 16777216) && decide (1 ≤ c.nat 8) &&
    decide (c.nat 8 ≤ 10000000) && decide (1 ≤ c.nat 9) && decide (c.nat 9 ≤ 10000000) && feedOk (c.int 10) &&
    decide (c.nat 11 ≤ 15) && decide (c.nat 12 ≤ 65535)

/-- SET_LATCH's fields (R88). -/
def SlotCopy.setLatchOk (c : SlotCopy) : Bool :=
  decide (c.nat 4 ≤ 15) &&
    match latchAction? (c.nat 5) with
    | some .allocate => (c.latchSettings .reset).isSome
    | some _ => true
    | none => false

/-- MOVE's fields (R48). -/
def SlotCopy.moveOk (c : SlotCopy) : Bool :=
  feedOk (c.int 4) && decide (1 ≤ c.moveCount) && decide (c.moveCount ≤ 4) && (c.movePoints c.moveCount).all Tri.coordOk

namespace State

/-- QUALIFY's derived positions, with the mounted probe's record as it stands (R113, log 20). -/
def qualifyPositionsOk (s : State) (a : Arm) (c : SlotCopy) : Bool :=
  match s.mountedProbe a with
  | some p => (c.sphere p.tip p.radius).positionsOk
  | none => true

/-- The fields of a kind are in the ranges its rule gives; a failure is BAD_FIELD (R45). -/
def fieldsOk (s : State) (a : Arm) (c : SlotCopy) : Kind → Bool
  | .move => c.moveOk
  | .dwell => decide (c.nat 4 ≤ 600000)
  | .waitStable => decide (c.nat 4 ≤ 9) && decide (c.nat 5 ≤ 10240) && decide (c.nat 6 ≤ 3600)
  | .setFrame => (c.vec 4).coordOk
  | .setLatch => c.setLatchOk
  | .home => decide (c.nat 4 ≤ 15)
  | .probePoint => c.probePointOk
  | .qualify => c.qualifyFieldsOk && s.qualifyPositionsOk a c
  | .identify => true
  | .changeProbe => decide (c.nat 4 ≤ 23) && feedOk (c.int 5) && feedOk (c.int 6)

/-- Step 1 of the block start sequence: the block with its resolved frame, or the fault (R3, R6, R45). -/
def stepOne (s : State) (a : Arm) (c : SlotCopy) : Except FaultCode Block :=
  match c.kind with
  | none => .error .badKind
  | some k =>
    match resolveFrame (s.armSet a).frame k c.selector with
    | none => .error .badField
    | some f =>
      if s.fieldsOk a c k = false then .error .badField
      else if k = .setFrame ∧ f = .part then .error .frameLocked
      else .ok { Block.fresh c with frame := f }

/-! ## Step 2 (R46) -/

/-- The unit checks of a block that will arm a unit (R87). -/
def unitCheck (s : State) (a : Arm) (u : Fin 16) : Option FaultCode :=
  if s.latches[u].alloc ≠ some a then some .latchNotOwned
  else if s.latches[u].isArmed then some .latchBusy
  else none

/-- The unit checks of the capture unit that a block names (R87). -/
def captureUnitCheck (s : State) (a : Arm) (k : Kind) (c : SlotCopy) : Option FaultCode :=
  match c.captureUnit k with
  | some u => s.unitCheck a u
  | none => none

/-- SET_LATCH's checks by action (R88). -/
def latchCheck (s : State) (a : Arm) (c : SlotCopy) : Option FaultCode :=
  match index? 16 (c.nat 4), latchAction? (c.nat 5) with
  | some u, some .allocate =>
    if s.latches[u].alloc = some a.other then some .latchNotOwned
    else if s.latches[u].isArmed then some .latchBusy
    else none
  | some u, some .release => s.unitCheck a u
  | some u, some .arm => s.unitCheck a u
  | some u, some _ => if s.latches[u].alloc = some a then none else some .latchNotOwned
  | _, _ => none

end State

/-- The kind may not run on an unreferenced arm (03, 3.3, table at the head). -/
def Kind.needsReference : Kind → Bool
  | .move | .probePoint | .qualify | .changeProbe => true
  | .dwell | .waitStable | .setFrame | .setLatch | .home | .identify => false

/-- The kind takes the mounted-value checks (R46). -/
def Kind.needsProbe (k : Kind) (f : Frame) : Bool :=
  match k with
  | .probePoint | .qualify => true
  | .move => f == .part
  | _ => false

/-- What step 2 finds: the block goes on, ends DONE as ALREADY_MOUNTED (R140), or is refused. -/
inductive Gate where
  | go (b : Block)
  | already (b : Block)
  | refuse (f : FaultCode)
  deriving DecidableEq, Repr

/-- The first fault of a list of tests. -/
def firstFault : List (Option FaultCode) → Option FaultCode
  | [] => none
  | some f :: _ => some f
  | none :: rest => firstFault rest

namespace State

/-- The checks of R46 that come before the kind's own, in their order. -/
def commonCheck (s : State) (a : Arm) (k : Kind) (f : Frame) : Option FaultCode :=
  let r := s.arm a
  if k.needsReference && !r.referenced then some .notReferenced
  else if k.needsProbe f then
    match r.mounted with
    | .none => some .noProbe
    | .unverified => some .mountUnknown
    | .foreign => some .mountUnknown
    | .probe i => if k = .probePoint ∧ s.tables.probes[i].qual = .new then some .notQualified else none
  else none

/-- The trigger check of the touch blocks (R102, R113). -/
def trigCheck (s : State) (a : Arm) : Option FaultCode := if s.pins.trig.get a then some .probeEngaged else none

/-- What a CHANGE_PROBE binds of its stow half: the module M and its home port m, or PORT_STATE (R140 check 5). -/
def stowHalf (s : State) (a : Arm) : Except FaultCode (Option (Fin 24 × Fin 12)) :=
  match (s.arm a).mounted with
  | .probe m =>
    match s.tables.probes[m].lastPort with
    | some port => if rackOf port = a ∧ s.tables.ports[port].state = .empty then .ok (some (m, port)) else .error .portState
    | none => .error .portState
  | _ => .ok none

/-- What a CHANGE_PROBE binds of its fetch half: the port of P, or PORT_STATE (R140 check 4). -/
def fetchHalf (s : State) (a : Arm) (target : Fin 24) : Except FaultCode (Fin 12) :=
  match s.tables.probes[target].loc with
  | .inPort port => if s.tables.probes[target].arm = a then .ok port else .error .portState
  | _ => .error .portState

/-- The checks of the cover units, the stow port's first; a unit that both ports name is checked once, which gives the
same outcome (R140 check 6). -/
def coverCheck (s : State) (a : Arm) (stow : Option (Fin 24 × Fin 12)) (port : Fin 12) : Option FaultCode :=
  firstFault [stow.bind fun m => s.unitCheck a s.tables.ports[m.2].coverUnit, s.unitCheck a s.tables.ports[port].coverUnit]

/-- CHANGE_PROBE's own checks (R140, checks 2 to 6). -/
def changeGate (s : State) (a : Arm) (b : Block) : Gate :=
  match index? 24 (b.slot.nat 4) with
  | none => .refuse .badField
  | some target =>
    match (s.arm a).mounted with
    | .unverified => .refuse .mountUnknown
    | .foreign => .refuse .mountUnknown
    | m =>
      if m = .probe target then .already { b with change := { b.change with target := some target } }
      else
        match s.fetchHalf a target, s.stowHalf a with
        | .error f, _ => .refuse f
        | .ok _, .error f => .refuse f
        | .ok port, .ok stow =>
          match s.coverCheck a stow port with
          | some f => .refuse f
          | none =>
            .go { b with change := { b.change with
              target := some target
              stowed := stow.map Prod.fst
              fetchPort := some port
              stowPort := stow.map Prod.snd } }

/-- The kind's own checks, after those of R46. -/
def kindGate (s : State) (a : Arm) (b : Block) : Kind → Gate
  | .move | .dwell | .waitStable | .setFrame => .go b
  | .setLatch =>
    match s.latchCheck a b.slot with
    | some f => .refuse f
    | none => .go b
  | .home =>
    match s.captureUnitCheck a .home b.slot with
    | some f => .refuse f
    | none => .go b
  | .probePoint =>
    match firstFault [s.captureUnitCheck a .probePoint b.slot, s.trigCheck a] with
    | some f => .refuse f
    | none => .go b
  | .qualify =>
    match firstFault [s.captureUnitCheck a .qualify b.slot, s.trigCheck a] with
    | some f => .refuse f
    | none => .go b
  | .identify => if (s.arm a).mounted = .none then .refuse .noProbe else .go b
  | .changeProbe => s.changeGate a b

/-- Step 2 of the block start sequence (R46). The block that goes on keeps the mounted value it found, which the result of an
IDENTIFY or a CHANGE_PROBE reports as the value before (R137, R139); that it is the value of step 2, and not of a later
moment, is a DESIGN CHOICE (log 52). -/
def stepTwo (s : State) (a : Arm) (b : Block) : Gate :=
  match b.slot.kind with
  | none => .refuse .badKind
  | some k =>
    match s.commonCheck a k b.frame with
    | some f => .refuse f
    | none => s.kindGate a { b with passed := true, before := (s.arm a).mounted } k

end State

/-! ## Step 4: conversion and the limit check (R14, R16) -/

/-- A conversion of a block: every position it moves to, in the order its phases use them, the waypoints of the limit
check, the positions of the sweep box, the groups used, and whether a search end was bounded (R103). -/
structure Conversion where
  targets : List Vec
  tested : List Vec
  sweep : List Vec
  used : Option Used
  limited : Bool
  deriving DecidableEq, Repr

/-- A conversion with nothing converted (R47). -/
def Conversion.empty : Conversion := ⟨[], [], [], none, false⟩

/-- A list of conversions, all made or none. -/
def allSome {α : Type} : List (Option α) → Option (List α)
  | [] => some []
  | none :: _ => none
  | some x :: rest => (allSome rest).map (x :: ·)

/-- MOVE: its waypoints (R48). -/
def convertMove (k : ChainInputs) (f : Frame) (c : SlotCopy) : Option Conversion :=
  (allSome ((c.movePoints c.moveCount).map (k.fromFrame f))).map fun ts => ⟨ts, ts, ts, some (k.used f), false⟩

/-- PROBE_POINT: the start, the nominal point and the bounded search end (R102, R103). -/
def convertProbePoint (ax : Tri AxisSet) (k : ChainInputs) (f : Frame) (c : SlotCopy) : Option Conversion :=
  match k.fromFrame f c.probeStart, k.fromFrame f (c.vec 4), k.fromFrame f c.probeEnd with
  | some start, some nominal, some stop =>
    let bounded := boundedEnd ax start stop
    some ⟨[start, nominal, bounded.1], [start, nominal], [start, bounded.1], some (k.used f), bounded.2⟩
  | _, _, _ => none

/-- QUALIFY: fifteen waypoints, three per touch, then the five bounded search ends (R113, R114). -/
def convertQualify (ax : Tri AxisSet) (k : ChainInputs) (q : Sphere) : Conversion :=
  let plans := q.plans
  let waypoints := plans.flatMap fun p => [k.fromMachine p.clear, k.fromMachine p.start, k.fromMachine p.contact]
  let ends := plans.map fun p => boundedEnd ax (k.fromMachine p.start) (k.fromMachine p.stop)
  let targets := waypoints ++ ends.map Prod.fst
  ⟨targets, waypoints, targets, some (k.used .machine), ends.any Prod.snd⟩

/-- CHANGE_PROBE: approach and dock of the stow port, then of the fetch port (R139). -/
def convertChange (ports : Vector Port 12) (k : ChainInputs) (g : ChangeProg) : Conversion :=
  let visit (p : Option (Fin 12)) : List Vec :=
    match p with
    | some i => [k.fromMachine ports[i].approach, k.fromMachine ports[i].dock]
    | none => []
  let targets := visit g.stowPort ++ visit g.fetchPort
  ⟨targets, targets, targets, some (k.used .machine), false⟩

namespace State

/-- The conversion of a block at this moment (R14); nothing where a PART conversion or a QUALIFY finds no verified
mounted probe (R10). -/
def convert (s : State) (a : Arm) (b : Block) : Option Conversion :=
  let k := s.chain a
  let ax := (s.armSet a).axes
  match b.slot.kind with
  | some .move => convertMove k b.frame b.slot
  | some .probePoint => convertProbePoint ax k b.frame b.slot
  | some .qualify => (s.mountedProbe a).map fun p => convertQualify ax k (b.slot.sphere p.tip p.radius)
  | some .changeProbe => some (convertChange s.tables.ports k b.change)
  | _ => some .empty

end State

/-- The feeds a block gives, which the arm's maximum feed clamps (R51). -/
def Block.feeds (b : Block) : List Nat :=
  match b.slot.kind with
  | some .move => [b.slot.nat 4]
  | some .probePoint => [b.slot.nat 12, b.slot.nat 13]
  | some .qualify => [b.slot.nat 10]
  | some .changeProbe => [b.slot.nat 5, b.slot.nat 6]
  | _ => []

/-- The thermal flags of the block-start conversion; a MACHINE conversion used the SCALE groups alone (R13, R38). -/
def Conversion.thermalFlags (c : Conversion) : ResultFlags :=
  match c.used with
  | some u => ({} : ResultFlags).withThermal u false
  | none => {}

namespace State

/-- Step 4: the block with its conversion bound, or with the offending waypoint and the fault that refuses it
(R14, R16). A DRIFTED flag of a drift check made before a return to the swap check stays (R99). -/
def bind (s : State) (a : Arm) (b : Block) : Block × Option FaultCode :=
  match s.convert a b with
  | none => (b, some (if (s.arm a).mounted = .none then .noProbe else .mountUnknown))
  | some c =>
    let ok := limitCheck (s.armSet a).axes 0 c.tested
    let flags := { c.thermalFlags with drifted := b.flags.drifted }
    match ok with
    | some hit => ({ b with limitHit := some hit, flags := flags }, some .outOfLimits)
    | none =>
      ({ b with
        targets := c.targets
        used := c.used
        limitHit := none
        flags := { flags with
          feedClamped := b.feeds.any fun f => decide ((s.armSet a).maxFeed < f)
          searchLimited := c.limited } }, none)

/-! ## The zone (R71, R72, R77) -/

/-- The converted positions of a sweep box meet the arm's zone box, from a given start (R70, R71). -/
def sweepMeets (s : State) (a : Arm) (start : Vec) (positions : List Vec) : Bool :=
  (sweepBox start positions).meets (s.zoneBox a)

end State

/-- The positions of a bound block's sweep box (R71): PROBE_POINT's nominal point is not among them. -/
def Block.sweep (b : Block) : List Vec :=
  match b.slot.kind, b.targets with
  | some .probePoint, [start, _, stop] => [start, stop]
  | _, ts => ts

namespace State

/-- A bound block needs the zone from a given start: HOME always, a moving kind when its sweep box meets the zone box,
any other kind never (R71). -/
def blockNeedsZone (s : State) (a : Arm) (start : Vec) (b : Block) : Bool :=
  match b.slot.kind with
  | some .home => true
  | some .move => s.sweepMeets a start b.sweep
  | some .probePoint => s.sweepMeets a start b.sweep
  | some .qualify => s.sweepMeets a start b.sweep
  | some .changeProbe => s.sweepMeets a start b.sweep
  | _ => false

/-- The queue head needs the zone, by a conversion made for this test with the inputs of this moment (R77). A HOME does,
also one that step 1 or step 2 would refuse: DEDUCED, log 33, since two rows of R77's table conflict there. -/
def headNeedsZone (s : State) (a : Arm) (c : SlotCopy) : Bool :=
  if c.kind = some .home then true
  else
    match s.stepOne a c with
    | .error _ => false
    | .ok b =>
      match s.stepTwo a b with
      | .refuse _ => false
      | .already _ => false
      | .go b2 =>
        match s.convert a b2 with
        | none => false
        | some k =>
          match c.kind with
          | some .move => s.sweepMeets a (s.arm a).cmd k.sweep
          | some .probePoint => s.sweepMeets a (s.arm a).cmd k.sweep
          | some .qualify => s.sweepMeets a (s.arm a).cmd k.sweep
          | some .changeProbe => s.sweepMeets a (s.arm a).cmd k.sweep
          | _ => false

/-- The next block of an arm needs the zone: the committed block, or the queue head (R77). -/
def nextNeedsZone (s : State) (a : Arm) : Bool :=
  let r := s.arm a
  match r.committed, r.queue with
  | some b, _ => s.blockNeedsZone a r.cmd b
  | none, c :: _ => s.headNeedsZone a c
  | none, [] => false

end State

end Sys2Proof.Machine
end

