-- ==== Sys2Proof/Machine/Results.lean ====
section
/-! DEFINITION. The result words of each kind (12.4 to 12.6, R178). Log 19 says what the model writes where the spec
leaves a word open. -/

namespace Sys2Proof.Machine

/-- A position as three words. -/
def vecWords (v : Vec) : List Word := [intWord v.x, intWord v.y, intWord v.z]

/-- A temperature pair (12.4). -/
def pairWord (a b : Int) : Word := natWord (low16 a + low16 b * 65536)

/-- Four bytes as one word, the first in the low bits (12.5). -/
def bytesWord (bytes : List Byte) (i : Nat) : Word :=
  natWord (byteAt bytes i + byteAt bytes (i + 1) * 256 + byteAt bytes (i + 2) * 65536 + byteAt bytes (i + 3) * 16777216)

/-- The state code of a group (12.8). -/
def GroupState.code : GroupState → Nat
  | .empty => 0
  | .valid => 1
  | .held => 2
  | .substituted => 3
  | .lost => 4

/-- The change phase codes (12.5). -/
def ChangePhase.code : ChangePhase → Nat
  | .stowApproach => 1
  | .dock => 2
  | .release => 3
  | .portRetract => 4
  | .fetchApproach => 5
  | .engage => 6
  | .identify => 7

/-- The code of a half (12.5). -/
def Half.code : Half → Nat
  | .stow => 0
  | .fetch => 1

/-- The state code of a latch unit (12.5). -/
def UnitState.code : UnitState → Nat
  | .idle => 0
  | .armed => 1
  | .fired => 2

/-- The mode code of a latch unit (12.5). -/
def UnitMode.code : UnitMode → Nat
  | .capture => 0
  | .compare => 1

/-- 0 for no arm, 1 for arm A, 2 for arm B (12.5, 12.8). -/
def orNoArm : Option Arm → Nat
  | none => 0
  | some .A => 1
  | some .B => 2

/-- SET_LATCH: the unit's record as it stands after the action (R88). -/
def LatchUnit.words (u : LatchUnit) : List Word :=
  [natWord (orNoArm u.alloc), natWord u.state.code, natWord u.mode.code] ++ vecWords u.cap.counts ++
    [u.cap.tick, natWord (bitAt u.cap.fell 0), natWord u.extra]

/-- The five temperatures of a conversion; HEAD and WORKPIECE read 0 where it did not use them (R109). -/
def Used.words (u : Used) : List Word :=
  let rest := match u.rest with
    | some (h, w) => (h.temp, w.temp)
    | none => (0, 0)
  [pairWord u.scale.x.temp u.scale.y.temp, pairWord u.scale.z.temp rest.1, natWord (low16 rest.2)]

/-- PROBE_POINT (R107, R109, R111): the capture, or zeros with the temperatures of the block-start conversion; so also where a
block-level fault ends a bound block with no capture (DESIGN CHOICE, log 19). -/
def probePointWords (b : Block) : List Word :=
  match b.touch.cap with
  | some t => vecWords t.m ++ vecWords t.point ++ t.used.words ++ [t.tick]
  | none => List.replicate 6 0 ++
      match b.used with
      | some u => u.words
      | none => []

/-- HOME (R91). The words of an axis that the block did not finish are 0, at an ABORTED completion too (DESIGN CHOICE,
log 19), and so are bits 8 and 9 of word 27 where no axis missed (DESIGN CHOICE, log 51). -/
def homeWords (h : HomeProg) (r : ArmRec) : List Word :=
  let flags := bitAt r.axes.x.referenced 0 + bitAt r.axes.y.referenced 1 + bitAt r.axes.z.referenced 2
  let missed := match h.missed with
    | some x => x.code * 256 + 1024
    | none => 0
  [intWord h.axes.z.captured, intWord h.axes.z.delta, intWord h.axes.x.captured, intWord h.axes.x.delta,
    intWord h.axes.y.captured, intWord h.axes.y.delta,
    natWord (h.axes.z.extra + h.axes.x.extra * 256 + h.axes.y.extra * 65536), natWord (flags + missed)] ++ vecWords r.cmd

/-- QUALIFY (R118 to R120): the computed values where the block has them, otherwise zeros and the touch index. -/
def qualifyWords (q : QualProg) : List Word :=
  match q.values with
  | some v => vecWords v.tip ++ [intWord v.radius, intWord v.rx, intWord v.ry, intWord v.tq, 0]
  | none => List.replicate 7 0 ++ [natWord q.k]

/-- IDENTIFY (R137). -/
def identifyWords (b : Block) (after : Mounted) : List Word :=
  ([0, 4, 8, 12, 16, 20, 24, 28].map (bytesWord b.ident.bytes)) ++
    [b.link.word, natWord (b.before.code + after.code * 256), natWord (orNone b.ident.matched)]

/-- CHANGE_PROBE (R139): the phase is 0 where the block ended before its first change phase. -/
def changeWords (b : Block) (r : ArmRec) : List Word :=
  let g := b.change
  let stand := match r.phase with
    | .changing c h => c.code * 65536 + h.code * 16777216
    | _ => 0
  [natWord (orNone g.target + orNone g.stowed * 256 + orNone g.fetchPort * 65536 + orNone g.stowPort * 16777216),
    natWord (b.before.code + r.mounted.code * 256 + stand), natWord g.serial, natWord g.kindRead, b.link.word]

/-- WAIT_STABLE (R50): the group as it stands at completion. -/
def waitStableWords (t : Thermal) (c : SlotCopy) : List Word :=
  match index? 10 (c.nat 4) with
  | some g =>
    [intWord t.snap.groups[g].temp, natWord t.snap.groups[g].state.code, natWord t.groups[g].ring.length,
      intWord t.groups[g].spread]
  | none => []

/-- The result words of an arm's block as it stands now (R178). A block refused at step 1 or 2 has none, but for a HOME,
which reports the referenced flags and the commanded position at every completion (R89, R91); one refused with
OUT_OF_LIMITS names the waypoint and the axis. SET_FRAME and SET_LATCH give theirs only on success. R178 writes 0 in a named
word without a value at a FAULTED completion; the model does so at DONE, ABORTED too, as for a MOVE that ends in WAIT_SWAP with
no conversion (DESIGN CHOICE, log 49). -/
def State.resultWords (s : State) (a : Arm) (b : Block) : List Word :=
  if b.passed = false then
    match b.slot.kind with
    | some .home => homeWords b.home (s.arm a)
    | _ => []
  else
    match b.limitHit with
    | some (i, x) => [natWord i, natWord x.code]
    | none =>
      match b.slot.kind with
      | some .move =>
        match b.targets.getLast? with
        | some v => vecWords v
        | none => []
      | some .waitStable => waitStableWords s.therm b.slot
      | some .home => homeWords b.home (s.arm a)
      | some .probePoint => probePointWords b
      | some .qualify => qualifyWords b.qual
      | some .identify => identifyWords b (s.arm a).mounted
      | some .changeProbe => changeWords b (s.arm a)
      | some .dwell | some .setFrame | some .setLatch | none => []

/-- READ_PROBE (R125, 12.6). -/
def Probe.words (p : Probe) : List Word :=
  [natWord p.serial, natWord (p.kind.code + p.arm.code * 256 + p.loc.code * 65536 + p.loc.place * 16777216)] ++
    vecWords p.tip ++
    [intWord p.radius, intWord p.alpha, intWord p.driftLimit, intWord p.tq, natWord p.qual.code, natWord (orNone p.lastPort)]

end Sys2Proof.Machine
end

