-- ==== Sys2Proof/Machine/Completion.lean ====
section
/-! DEFINITION. How a block ends and what it leaves of its arm: completion, block-level faults, arm-level faults,
STOPPING, the stop line and the stop at once (03, R43, R44, R60 to R66; 06, R112; 08, R147, R150, R151). -/

namespace Sys2Proof.Machine

/-- The state an arm takes with no executing block (R41). -/
def ArmRec.restState (r : ArmRec) : ArmState :=
  if r.holdLevel then .held else if r.referenced then .idle else .unreferenced

/-- The link back to IDLE with HDAT released: an abandonment, and the end of a transaction (R131). -/
def Link.idled (l : Link) : Link := { l with engine := .idle }

/-- The arm record with every wait, timer and segment of its block ended. -/
def ArmRec.quiet (r : ArmRec) : ArmRec :=
  { r with
    holding := false
    holdPhase := none
    moving := false
    crossed := false
    due := none
    cause := none
    seg := { r.seg with v := 0 }
    dwellTimer := none
    stableTimer := none
    coverTimer := none
    seatWait := .none
    link := r.link.idled }

/-- The arm record with no executing and no committed block. -/
def ArmRec.emptied (r : ArmRec) : ArmRec := { r.quiet with exec := none, committed := none, phase := .none }

/-- Whether the arm executes a change whose first change phase has begun (R147). -/
def ArmRec.changing (r : ArmRec) : Bool :=
  match r.phase with
  | .changing _ _ => true
  | _ => false

namespace State

/-- Write one block's completion with given result words (R44, R159). -/
def writeBlock (s : State) (a : Arm) (b : Block) (slotState : Nat) (status : Status) (fault : Option FaultCode)
    (words : List Word) : State :=
  s.completeMotionSlot a b.slot ⟨slotState, status, fault, b.flags⟩ (some words)

/-- Write the executing block's completion with its result as it stands (R44); its units are disarmed (R82). -/
def writeExec (s : State) (a : Arm) (slotState : Nat) (status : Status) (fault : Option FaultCode) : State :=
  match (s.arm a).exec with
  | none => s
  | some b => (s.writeBlock a b slotState status fault (s.resultWords a b)).disarmBlock a

/-- Write the committed block's completion, after the executing block's (R58). -/
def writeCommitted (s : State) (a : Arm) (slotState : Nat) (status : Status) (fault : Option FaultCode) : State :=
  match (s.arm a).committed with
  | none => s
  | some b => s.writeBlock a b slotState status fault (s.resultWords a b)

/-- Steps 2, 4 and 5 of a DONE completion with no committed block: the release test, the state, the fill (R44). -/
def afterDone (s : State) (a : Arm) : State :=
  let s1 := s.modArm a ArmRec.emptied
  let s2 := s1.releaseTest a (s1.nextNeedsZone a)
  (s2.modArm a fun r => { r with state := r.restState }).fill a

/-- The executing block completes DONE with a status (R44). -/
def completeDone (s : State) (a : Arm) (status : Status) : State :=
  (s.writeExec a slotDone status none).afterDone a

/-- The executing block completes DONE, OK with given result words: SET_FRAME and SET_LATCH (R6, R88). -/
def completeWith (s : State) (a : Arm) (words : List Word) : State :=
  match (s.arm a).exec with
  | none => s
  | some b => (s.writeBlock a b slotDone .ok none words).afterDone a

/-- The settlement, where the ended block is a change that has begun (R147, R150). -/
def settleChange (s : State) (a : Arm) : State := if (s.arm a).changing then s.settlement a else s

/-- The arm takes a block-level fault, at rest (R65): the settlement first where the rule asks for it, the completion,
the pause and the flush, the release test with no next block (R78), the state. -/
def blockFault (s : State) (a : Arm) (code : FaultCode) : State :=
  let s1 := (s.zoneWithdraw a).modArm a ArmRec.quiet
  let s2 := if code = .idMismatch then s1 else s1.settleChange a
  let s3 := (s2.writeExec a slotFaulted .none (some code)).modArm a ArmRec.emptied
  let s4 := (s3.pauseLane a).releaseTest a false
  s4.modArm a fun r => { r with state := r.restState }

/-- The arm, at rest with its blocks completed, enters FAULT (R64 step 4, R78, R130). -/
def enterFault (s : State) (a : Arm) (code : FaultCode) : State :=
  let s1 := (s.modArm a fun r => { r with lastFault := some code, state := .fault }).setNotice (faultNotice a)
  (s1.releaseTest a false).applyProbeLost a

/-- The end of STOPPING, at rest (R62 to R64, R66): the executing block and the committed block complete with the cause,
and the arm takes its state. Where a loss of the probe was noted while the arm stopped for an earlier cause, the slot is
written first and the loss is acted on after it, so that a result's mounted value after the block still names the probe: R130
has both at the end of the stopping and does not order them (DESIGN CHOICE, log 48). -/
def endStopping (s : State) (a : Arm) : State :=
  let s1 := s.settleChange a
  match (s.arm a).cause with
  | some .abort =>
    (((s1.writeExec a slotDone .aborted none).writeCommitted a slotDone .aborted none).afterDone a).applyProbeLost a
  | some .stopLine =>
    (((s1.writeExec a slotFaulted .none (some .stopLine)).writeCommitted a slotFaulted .none (some .stopLine)).modArm a
      ArmRec.emptied).enterFault a .stopLine
  | some (.fault f) =>
    (((s1.writeExec a slotFaulted .none (some f)).writeCommitted a slotFaulted .none (some f)).modArm a
      ArmRec.emptied).enterFault a f
  | none => s

/-- The arm is moving with a velocity: the only standing in which STOPPING takes ticks (R62). -/
def runsOn (s : State) (a : Arm) : Bool :=
  (s.arm a).moving && (s.arm a).state != .held && decide (0 < (s.arm a).seg.v)

/-- The arm enters STOPPING for a cause (R62 to R64): the lane pauses and the queue is flushed at once, a zone request
and every wait are withdrawn, a transaction is abandoned; an arm already at rest ends STOPPING at once. An arm that was
HOLDING keeps `holding`, so that HOLDING is the phase reported, as the one in which the stop began (R41): DEDUCED,
log 35. -/
def enterStopping (s : State) (a : Arm) (cause : Cause) : State :=
  let runs := s.runsOn a
  let s1 := (s.pauseLane a).zoneWithdraw a
  let s2 := s1.modArm a fun r =>
    { r with
      state := .stopping
      cause := some cause
      due := none
      dwellTimer := none
      stableTimer := none
      coverTimer := none
      seatWait := .none
      link := r.link.idled }
  if runs then s2 else s2.endStopping a

/-- The arm takes an arm-level fault other than FOLLOWING, DRIVE_SILENT and STOP_LINE (R64); while STOPPING or in FAULT
it is not taken (R66). -/
def armFault (s : State) (a : Arm) (code : FaultCode) : State :=
  match (s.arm a).state with
  | .stopping => s
  | .fault => s
  | _ => s.enterStopping a (.fault code)

/-- The cause with which the blocks of an arm complete at a following fault: the first cause, but an ABORT gives way
(R66). -/
def ArmRec.followingCause (r : ArmRec) (code : FaultCode) : Cause :=
  match r.state, r.cause with
  | .stopping, some .stopLine => .stopLine
  | .stopping, some (.fault f) => .fault f
  | _, _ => .fault code

/-- The arm takes FOLLOWING or DRIVE_SILENT with its setpoints already set: at rest at once (R55, R56, R66). -/
def followingFault (s : State) (a : Arm) (code : FaultCode) : State :=
  let cause := ArmRec.followingCause (s.arm a) code
  (s.modArm a fun r => { r with moving := false, seg := { r.seg with v := 0 } }).enterStopping a cause

/-- The stop line becomes active at an arm (R63). -/
def stopLineArm (s : State) (a : Arm) : State :=
  match (s.arm a).state, (s.arm a).exec with
  | .fault, _ => s
  | .stopping, _ =>
    s.modArm a fun r => { r with cause := if r.cause = some .abort then some .stopLine else r.cause }
  | _, some _ => s.enterStopping a .stopLine
  | _, none => (s.pauseLane a).enterFault a .stopLine

/-- An ABORT of an arm (R62). -/
def abortArm (s : State) (a : Arm) : State :=
  match (s.arm a).state, (s.arm a).exec with
  | .fault, _ => s
  | .stopping, _ => s
  | _, some _ => s.enterStopping a .abort
  | _, none => s.pauseLane a

/-- The arm executes a block that passed step 2 and is neither STOPPING nor in FAULT. -/
def runsBlock (s : State) (a : Arm) (k : Kind) : Bool :=
  match (s.arm a).state, (s.arm a).exec with
  | .active, some b => b.passed && b.slot.kind == some k
  | .held, some b => b.passed && b.slot.kind == some k
  | _, _ => false

/-- A change of the tables that concerns the change an arm executes (R151): the mounted value, the place of P or M, the
state of port p or m. -/
def changeConcerned (before after : State) (a : Arm) : Bool :=
  match before.changeOf a with
  | none => false
  | some g =>
    let loc (i : Option (Fin 24)) : Bool :=
      match i with
      | some q => before.tables.probes[q].loc != after.tables.probes[q].loc
      | none => false
    let port (i : Option (Fin 12)) : Bool :=
      match i with
      | some p => before.tables.ports[p].state != after.tables.ports[p].state
      | none => false
    (before.arm a).mounted != (after.arm a).mounted || loc g.target || loc g.stowed || port g.fetchPort || port g.stowPort

/-- The other arm's reconciliation has changed this arm's mount: a touch block or a change stops at once with
MOUNT_UNKNOWN, its commanded position as sent at the last tick (R112, R151). -/
def meetMountChange (before after : State) (a : Arm) : State :=
  let touch := (after.runsBlock a .probePoint || after.runsBlock a .qualify) &&
    (before.arm a).mounted != (after.arm a).mounted
  let change := after.runsBlock a .changeProbe && changeConcerned before after a
  if touch || change then after.blockFault a .mountUnknown else after

/-- Identity reconciliation of an arm, with what the other arm makes of it (R138, R112, R151). -/
def reconcileArms (s : State) (a : Arm) (found : Option (Fin 24)) : State :=
  meetMountChange s (s.reconcile a found) a.other

end State

end Sys2Proof.Machine
end

