-- ==== Sys2Proof/Machine/Sequence.lean ====
section
/-! DEFINITION. What an arm does with its executing block from the swap check on: the swap, steps 3 to 6, the phases of
every kind, captures, and the immediate work that follows a command (01, R19, R20; 03; 05 to 08). -/

namespace Sys2Proof.Machine

/-! ## Segments -/

/-- The `i`-th bound target of a block. -/
def Block.target (b : Block) (i : Nat) : Vec := b.targets.getD i .zero

namespace State

/-- F of a feed on an arm: clamped to the maximum feed, per tick (R51). -/
def feedOf (s : State) (a : Arm) (feed : Nat) : Nat := perTickFeed s.settings.period (min feed (s.armSet a).maxFeed)

/-- A of an arm (R51). -/
def accOf (s : State) (a : Arm) : Nat := perTickAcc s.settings.period (s.armSet a).acc

/-- A_stop of an arm (R51). -/
def stopAccOf (s : State) (a : Arm) : Nat := perTickAcc s.settings.period (s.armSet a).stopAcc

/-- Begin a segment from rest at the commanded position; one of length 0 ends at once (R51). -/
def beginSegTwo (s : State) (a : Arm) (stop : Vec) (f1 f2 threshold : Nat) : State :=
  s.modArm a fun r =>
    let g := Seg.between r.cmd stop f1 f2 threshold 0
    if g.len = 0 then { r with seg := g, moving := false, due := some .segEnd }
    else { r with seg := g, moving := true }

/-- Begin a segment with one feed. -/
def beginSeg (s : State) (a : Arm) (stop : Vec) (feed : Nat) : State :=
  s.beginSegTwo a stop (s.feedOf a feed) (s.feedOf a feed) 0

/-- Set an arm's phase. -/
def setPhase (s : State) (a : Arm) (p : Phase) : State := s.modArm a fun r => { r with phase := p }

/-- Set an arm's due work. -/
def setDue (s : State) (a : Arm) (d : Due) : State := s.modArm a fun r => { r with due := some d }

/-- The scale counts an arm's Axis Ports hold (R83, R89). -/
def counts (s : State) (a : Arm) : Vec := (s.arm a).axes.map AxisPort.count

/-! ## Arming and disarming a block's unit (R82) -/

/-- Write a unit to CAPTURE mode on an input, edge RISE, and arm it for a block (R92, R105). -/
def armCapture (s : State) (b : Block) (u : Fin 16) (input : CaptureInput) : State :=
  s.setUnit u ({ s.latches[u] with mode := .capture, input := input, edge := .rise }.arming (.block b.slot.index) 0)

/-- Write a unit with a port's cover settings, output COVER, and arm it for a block (R141). -/
def armCover (s : State) (a : Arm) (b : Block) (p : Port) : State :=
  s.setUnit p.coverUnit
    ({ s.latches[p.coverUnit] with
        mode := .compare
        axis := p.coverAxis
        value := p.coverValue
        dir := p.coverDir
        output := .cover }.arming (.block b.slot.index) ((s.counts a).get p.coverAxis))

/-- Disarm a unit. -/
def disarmUnit (s : State) (u : Fin 16) : State := s.setUnit u s.latches[u].disarmed

/-- Disarm the unit an optional index names. -/
def disarmUnit? (s : State) : Option (Fin 16) → State
  | none => s
  | some u => s.disarmUnit u

end State

/-- The capture unit of a block. -/
def Block.unit (b : Block) : Option (Fin 16) := b.slot.kind.bind b.slot.captureUnit

namespace State

/-! ## PROBE_POINT and QUALIFY (06) -/

/-- Begin the search of a touch: TRIG is tested at rest, the unit is armed, the segment runs (R104, R105, R116). -/
def beginTouchSearch (s : State) (a : Arm) (b : Block) (phase : Phase) (stop : Vec) (feed : Nat) : State :=
  if s.pins.trig.get a then s.blockFault a .probeEngaged
  else
    match b.unit with
    | none => s
    | some u => ((s.armCapture b u .trig).setPhase a phase).beginSeg a stop feed

/-- Begin the search that is due (R104, R105, R116). -/
def beginSearch (s : State) (a : Arm) : State :=
  match (s.arm a).exec with
  | none => s
  | some b =>
    match b.slot.kind with
    | some .probePoint => s.beginTouchSearch a b .search (b.target 2) (b.slot.nat 13)
    | some .qualify => s.beginTouchSearch a b (.touch b.qual.k .search) (b.target (15 + b.qual.k)) (b.slot.nat 10)
    | _ => s

/-- Begin the retract that is due (R108, R116). -/
def beginRetract (s : State) (a : Arm) : State :=
  match (s.arm a).exec with
  | none => s
  | some b =>
    match b.slot.kind with
    | some .probePoint =>
      (s.setPhase a .retract).beginSegTwo a (b.target 0) (s.feedOf a (b.slot.nat 13)) (s.feedOf a (b.slot.nat 12))
        (b.slot.nat 11 * 65536)
    | some .qualify =>
      (s.setPhase a (.touch b.qual.k .retract)).beginSeg a (b.target (3 * b.qual.k + 1)) (b.slot.nat 10)
    | _ => s

end State

/-- The positions of the transit to touch `k` (R115). -/
def Block.transit (b : Block) (k : Nat) : List Vec :=
  match k with
  | 0 => [b.target 0, b.target 1]
  | j + 1 => [b.target (3 * j), b.target (3 * (j + 1)), b.target (3 * (j + 1) + 1)]

/-- The computation of R117 from the five MACHINE captures. -/
def qualValues (c : SlotCopy) (caps : List Vec) (head : Int) : QualValues :=
  let cap (k : Nat) : Vec := caps.getD k .zero
  let centre := c.vec 4
  let rs := c.int 7
  let rx := roundDiv ((cap 1).x - (cap 0).x) 2 - rs
  let ry := roundDiv ((cap 3).y - (cap 2).y) 2 - rs
  let r := roundDiv (rx + ry) 2
  { tip := ⟨centre.x - roundDiv ((cap 0).x + (cap 1).x) 2, centre.y - roundDiv ((cap 2).y + (cap 3).y) 2,
      centre.z + rs + r - (cap 4).z⟩
    radius := r
    rx := rx
    ry := ry
    tq := head }

/-- A component exceeds 2^24 in magnitude (R118). -/
def Tri.exceedsTip (v : Vec) : Bool :=
  decide (16777216 < v.x.natAbs) || decide (16777216 < v.y.natAbs) || decide (16777216 < v.z.natAbs)

/-- The tests of R118 in their order: the fault, or nothing on success. -/
def qualOutcome (c : SlotCopy) (v : QualValues) : Option FaultCode :=
  let q := c.sphere v.tip v.radius
  if c.nat 12 < (v.rx - v.ry).natAbs then some .qualSpread
  else if v.radius < 1 ∨ Tri.exceedsTip v.tip = true ∨ (touchDirs.all fun d => (q.startOf d).coordOk) = false then
    some .qualRange
  else none

namespace State

/-- The write of a successful qualification into the mounted probe's record, with its notice (R119). -/
def writeQualified (s : State) (a : Arm) (v : QualValues) : State :=
  match (s.arm a).mounted with
  | .probe i =>
    { s with tables := s.tables.modProbe i fun p =>
        { p with tip := v.tip, radius := v.radius, tq := v.tq, qual := .qualified } }.setNotice .probe
  | _ => s

/-- The end of touch 4: the computation, its tests and the completion (R117 to R119). -/
def qualFinish (s : State) (a : Arm) (b : Block) : State :=
  let v := qualValues b.slot b.qual.caps b.qual.head
  let s1 := s.modExec a fun b => { b with qual := { b.qual with values := some v } }
  match qualOutcome b.slot v with
  | some f => s1.blockFault a f
  | none => (s1.writeQualified a v).completeDone a .ok

/-- The end of a touch block's retract, TRIG tested at rest (R107, R108, R116). In a TRANSIT the touch in progress is the
one it goes to (DESIGN CHOICE, log 37). -/
def retractEnd (s : State) (a : Arm) (b : Block) : State :=
  if s.pins.trig.get a then s.armFault a .probeEngaged
  else
    match b.slot.kind with
    | some .qualify =>
      if b.qual.missed then s.blockFault a .qualMissed
      else if b.qual.k < 4 then
        ((s.modExec a fun b => { b with qual := { b.qual with k := b.qual.k + 1, leg := 0 } }).setPhase a .transit).setDue a
          .leg
      else s.qualFinish a b
    | _ => s.completeDone a (if b.touch.missed then .missed else .ok)

/-- A touch's search has missed: the unit is disarmed and the retract follows with no point (R107, R116). -/
def searchMissed (s : State) (a : Arm) (b : Block) : State :=
  ((s.disarmUnit? b.unit).modExec a fun b =>
    { b with touch := { b.touch with missed := true }, qual := { b.qual with missed := true } }).setDue a .retract

/-- The thermal flags and the point of a capture of PROBE_POINT, converted at this moment (R15, R106, R109). A capture
handed over while no verified probe is mounted any more is dropped (DESIGN CHOICE, log 38). -/
def withCapture (s : State) (a : Arm) (cap : Capture) (b : Block) : Block :=
  let k := s.chain a
  match k.toPart cap.counts with
  | none => b
  | some r =>
    let m := k.toMachine cap.counts
    let u := k.used .part
    { b with
      touch := { b.touch with cap := some ⟨m, if b.frame = .part then r else m, u, cap.tick⟩ }
      flags := b.flags.withThermal u (b.frame == .machine) }

/-- A drift check of the arm, acted on by the Probe Manager, and the block's DRIFTED flag (R99). -/
def blockDriftCheck (s : State) (a : Arm) : State :=
  let s1 := s.driftCheck a
  s1.modExec a fun b => { b with flags := { b.flags with drifted := b.flags.drifted || s1.standsDrifted a } }

/-- The touch stops at rest: the extra-edge count is read, the unit disarmed, the retract follows (R106, R116). BOUNCE is
set here, so that a QUALIFY that ends early carries it for the touches it made (DESIGN CHOICE, log 19). -/
def touchStopEnd (s : State) (a : Arm) (b : Block) : State :=
  let extra := match b.unit with
    | some u => s.latches[u].extra
    | none => 0
  ((s.disarmUnit? b.unit).modExec a fun b =>
    { b with
      flags := { b.flags with bounce := b.flags.bounce || decide (0 < extra) }
      qual := { b.qual with extra := b.qual.extra + extra } }).setDue a .retract

/-! ## HOME (05) -/

/-- The end of an axis's search: the search distance in the search direction, limited to ±2^30 (R92). -/
def homeEnd (s : State) (a : Arm) (x : Axis) : Vec :=
  let set := (s.armSet a).axes.get x
  let cmd := (s.arm a).cmd
  let dist : Int := (s.armSet a).searchDist
  cmd.set x (clamp (-1073741824) 1073741824 (if set.negative then cmd.get x - dist else cmd.get x + dist))

/-- Begin the search of an axis (R92). -/
def beginHomeSearch (s : State) (a : Arm) (x : Axis) : State :=
  match (s.arm a).exec with
  | none => s
  | some b =>
    match b.unit with
    | none => s
    | some u =>
      ((s.armCapture b u (.refm x)).setPhase a (.homeSearch x)).beginSeg a (s.homeEnd a x) (s.armSet a).homeFeed

end State

/-- A COMPARE unit whose compare axis is shifted by Δ (R90). -/
def LatchUnit.shifted (a : Arm) (x : Axis) (delta : Int) (u : LatchUnit) : LatchUnit :=
  if u.alloc = some a ∧ u.mode = .compare ∧ u.axis = x then { u with previous := u.previous + delta } else u

namespace State

/-- The shift of an axis's counts by Δ (R90). -/
def shiftAxis (s : State) (a : Arm) (x : Axis) (delta : Int) : State :=
  let s1 := s.modArm a fun r =>
    let p := r.axes.get x
    { r with
      cmd := r.cmd.set x (r.cmd.get x + delta)
      axes := r.axes.set x
        { p with offset := p.offset + delta, setpoint := p.setpoint + delta, count := p.count + delta } }
  { s1 with latches := mapTable (LatchUnit.shifted a x delta) s1.latches }

end State

/-- What follows the referencing of an axis: X after Z and Y after X, after Y the limit return (R93, R95). -/
def afterHome : Axis → Due
  | .Z => .homeSearch .X
  | .X => .homeSearch .Y
  | .Y => .limitReturn

namespace State

/-- The stop of an axis's search at rest: the axis is referenced (R93). -/
def homeStopEnd (s : State) (a : Arm) (b : Block) (x : Axis) : State :=
  match b.unit with
  | none => s
  | some u =>
    let cap := s.latches[u].cap.counts.get x
    let extra := s.latches[u].extra
    let delta := ((s.armSet a).axes.get x).reference - cap
    let s1 := (s.disarmUnit u).shiftAxis a x delta
    let s2 := s1.modArm a fun r => { r with axes := r.axes.set x { r.axes.get x with referenced := true } }
    (s2.modExec a fun b => { b with home := { b.home with axes := b.home.axes.set x ⟨cap, delta, extra⟩ } }).setDue a
      (afterHome x)

/-- HOME ends: the arm is referenced (R95). -/
def homeFinish (s : State) (a : Arm) : State := (s.modArm a fun r => { r with referenced := true }).completeDone a .ok

/-- The target of the limit return: each component outside its soft limits replaced by the nearer limit (R95). -/
def limitTarget (s : State) (a : Arm) : Vec := Tri.map2 AxisSet.nearest (s.armSet a).axes (s.arm a).cmd

/-- Begin the limit return, or end HOME where nothing lies outside (R95). -/
def beginLimitReturn (s : State) (a : Arm) : State :=
  let s1 := s.setPhase a .limitReturn
  if s.limitTarget a = (s.arm a).cmd then s1.homeFinish a
  else s1.beginSeg a (s.limitTarget a) (s.armSet a).homeFeed

/-- The search segment of an axis has ended with the unit still armed (R94). The disarming is made in the same step, so a
capture that arrives with it finds the unit IDLE (R84; DESIGN CHOICE, log 42). -/
def homeMissed (s : State) (a : Arm) (b : Block) (x : Axis) : State :=
  ((s.disarmUnit? b.unit).modExec a fun b => { b with home := { b.home with missed := some x } }).blockFault a .homeMissed

/-- HOME at step 6 (R91). -/
def beginHome (s : State) (a : Arm) : State :=
  (s.modArm a fun r =>
    { r with referenced := false, axes := r.axes.map fun p => { p with referenced := false } }).beginHomeSearch a .Z

/-! ## Head link transactions (R131) -/

/-- Begin a transaction: the controller begins WAKE of attempt 1 with a cleared buffer (R131, R132). -/
def beginLink (s : State) (a : Arm) (cmd : LinkCmd) : State :=
  s.modArm a fun r =>
    { r with link := { r.link with engine := .wake, cmd := cmd, attempt := 1, firstKind := none, buf := [] } }

/-! ## CHANGE_PROBE (08) -/

/-- The port of a half. -/
def halfPort (g : ChangeProg) : Half → Option (Fin 12)
  | .stow => g.stowPort
  | .fetch => g.fetchPort

end State

/-- The approach position of a half among the bound targets; the dock position follows it (R139). -/
def Block.approachIndex (b : Block) (h : Half) : Nat :=
  match h with
  | .stow => 0
  | .fetch => if b.change.stowPort = none then 0 else 2

/-- The cover unit of a half's port (R141). -/
def State.coverUnitOf (s : State) (b : Block) (h : Half) : Option (Fin 16) :=
  match h with
  | .stow => b.change.stowPort.map fun p => s.tables.ports[p].coverUnit
  | .fetch => b.change.fetchPort.map fun p => s.tables.ports[p].coverUnit

namespace State

/-- Arm the cover unit of a half's port (R141). -/
def armCoverOf (s : State) (a : Arm) (b : Block) (h : Half) : State :=
  match halfPort b.change h with
  | some p => s.armCover a b s.tables.ports[p]
  | none => s

/-- Begin a change phase that moves the arm or asks for a transaction (R141 to R144). -/
def beginChange (s : State) (a : Arm) (c : ChangePhase) (h : Half) : State :=
  match (s.arm a).exec with
  | none => s
  | some b =>
    let s1 := s.setPhase a (.changing c h)
    let i := b.approachIndex h
    match c with
    | .stowApproach | .fetchApproach => (s1.armCoverOf a b h).beginSeg a (b.target i) (b.slot.nat 5)
    | .dock => s1.beginSeg a (b.target (i + 1)) (b.slot.nat 6)
    | .portRetract => s1.beginSeg a (b.target i) (b.slot.nat 6)
    | .release => s1.beginLink a .unlock
    | .engage | .identify => s1

/-- The end of the cover wait: DOCK is due (R141). Until it begins the phase is the approach, also in a hold (DESIGN CHOICE,
log 54). -/
def coverOpened (s : State) (a : Arm) (h : Half) : State :=
  (s.modArm a fun r => { r with coverTimer := none }).setDue a (.change .dock h)

/-- Arrival at a port's approach: COVER_OPEN is tested at rest (R141). -/
def approachEnd (s : State) (a : Arm) (h : Half) : State :=
  if s.pins.coverOpen.get a then s.coverOpened a h
  else s.modArm a fun r => { r with coverTimer := some (s.armSet a).seatTimeout }

/-- SEAT is low in ENGAGE: LOCK is due (R144). -/
def engageSeated (s : State) (a : Arm) : State := (s.modArm a fun r => { r with seatWait := .none }).setDue a (.transaction .lock)

/-- Arrival at the dock of the fetch half: ENGAGE waits for SEAT low, from the arrival on also in a hold (R144; DEDUCED, log
33). -/
def engageBegin (s : State) (a : Arm) : State :=
  let s1 := s.setPhase a (.changing .engage .fetch)
  if (s.arm a).seatLow then s1.engageSeated a
  else s1.modArm a fun r => { r with seatWait := .low (s.armSet a).seatTimeout }

/-- SEAT has gone high in RELEASE: the stow is made and PORT_RETRACT is due (R143). It is the phase from the stow on, also in a
hold (DESIGN CHOICE, log 33). -/
def stowMade (s : State) (a : Arm) : State :=
  let s0 := s.modArm a fun r => { r with seatWait := .none }
  let s1 :=
    match s.changeOf a with
    | some g =>
      match g.stowed, g.stowPort with
      | some m, some p => s0.stow a m p
      | _, _ => s0
    | none => s0
  (s1.setPhase a (.changing .portRetract .stow)).setDue a (.change .portRetract .stow)

/-- SEAT is high at the end of the stow half's PORT_RETRACT: the cover unit is disarmed, FETCH_APPROACH is due (R142). Until
it begins the phase is PORT_RETRACT, also in a hold (DESIGN CHOICE, log 54). -/
def stowDone (s : State) (a : Arm) (b : Block) : State :=
  (((s.modArm a fun r => { r with seatWait := .none }).disarmUnit? (s.coverUnitOf b .stow)).setDue a
    (.change .fetchApproach .fetch))

/-- The end of a PORT_RETRACT segment (R142, R145, R146, R148). -/
def portRetractEnd (s : State) (a : Arm) (b : Block) : Half → State
  | .stow =>
    if (s.arm a).seatLow then s.modArm a fun r => { r with seatWait := .high (s.armSet a).seatTimeout }
    else s.stowDone a b
  | .fetch =>
    let s1 := s.disarmUnit? (s.coverUnitOf b .fetch)
    match b.change.fault with
    | some f => s1.blockFault a f
    | none => s1.completeDone a .ok

/-- The end of a change phase's segment. RELEASE is due at the end of the stow half's DOCK, and until it begins the phase is
DOCK, also in a hold (DESIGN CHOICE, log 54). -/
def changeSegEnd (s : State) (a : Arm) (b : Block) (c : ChangePhase) (h : Half) : State :=
  match c, h with
  | .stowApproach, _ => s.approachEnd a h
  | .fetchApproach, _ => s.approachEnd a h
  | .dock, .stow => s.setDue a (.change .release .stow)
  | .dock, .fetch => s.engageBegin a
  | .portRetract, _ => s.portRetractEnd a b h
  | _, _ => s

/-! ## The end of a segment, and of a braking (R53) -/

/-- The end of a MOVE segment at rest (R48). -/
def moveSegEnd (s : State) (a : Arm) (b : Block) : State :=
  if b.leg + 1 < b.targets.length then (s.modExec a fun b => { b with leg := b.leg + 1 }).setDue a .leg
  else s.completeDone a .ok

/-- The end of the segment that brings a touch block to the start of its search: TRIG is tested at rest, whatever the
hold level, and again when the search is about to begin (R104, R116). -/
def searchStartEnd (s : State) (a : Arm) : State :=
  if s.pins.trig.get a then s.blockFault a .probeEngaged else s.setDue a .search

/-- The end of a TRANSIT segment (R115, R116). -/
def transitSegEnd (s : State) (a : Arm) (b : Block) : State :=
  if b.qual.leg + 1 < (b.transit b.qual.k).length then
    (s.modExec a fun b => { b with qual := { b.qual with leg := b.qual.leg + 1 } }).setDue a .leg
  else s.searchStartEnd a

/-- The end of a segment with the arm at rest: the block's kind rule decides what follows (R53). -/
def segEnd (s : State) (a : Arm) : State :=
  let s1 := s.modArm a fun r => { r with moving := false, holding := false, due := none, seg := { r.seg with v := 0 } }
  match (s.arm a).exec with
  | none => s1
  | some b =>
    match (s.arm a).phase with
    | .moving => s1.moveSegEnd a b
    | .approach => s1.searchStartEnd a
    | .search => s1.searchMissed a b
    | .retract => s1.retractEnd a b
    | .homeSearch x => s1.homeMissed a b x
    | .limitReturn => s1.homeFinish a
    | .touch _ .search => s1.searchMissed a b
    | .touch _ .retract => s1.retractEnd a b
    | .transit => s1.transitSegEnd a b
    | .changing c h => s1.changeSegEnd a b c h
    | _ => s1

/-- The end of a segment at a tick: the next segment of a MOVE or of a TRANSIT begins at the next tick (R53, log 34). -/
def segEndAtTick (s : State) (a : Arm) : State :=
  (s.segEnd a).modArm a fun r => { r with due := if r.due = some .leg then some .nextLeg else r.due }

/-- The end of the braking of a stop phase, at rest (R93, R106, R116). -/
def brakeEnd (s : State) (a : Arm) : State :=
  let s1 := s.modArm a fun r => { r with moving := false, holding := false, due := none, seg := { r.seg with v := 0 } }
  match (s.arm a).exec with
  | none => s1
  | some b =>
    match (s.arm a).phase with
    | .touchStop => s1.touchStopEnd a b
    | .touch _ .stop => s1.touchStopEnd a b
    | .homeStop x => s1.homeStopEnd a b x
    | _ => s1

end State

/-- A phase in which the arm brakes with A_stop after a capture (R93, R106, R116). -/
def Phase.brakes : Phase → Bool
  | .touchStop | .homeStop _ | .touch _ .stop => true
  | _ => false

/-- The kind's work has begun: a phase after the zone request (R60). -/
def Phase.begun : Phase → Bool
  | .none | .startCheck | .waitSwap | .waitZone => false
  | _ => true

namespace State

/-- The arm brakes from a capture (R93, R106, R116). Where it has no velocity, since its search has just begun or been resumed,
it is at rest at once where it stands, also where its next advance would have reached the search's end, so that R94 and R105
let the two fall together there (DESIGN CHOICE, log 42). -/
def brakeFor (s : State) (a : Arm) (phase : Phase) : State :=
  let s1 := s.modArm a fun r => { r with phase := phase, holding := false }
  if (s.arm a).seg.v = 0 then s1.brakeEnd a else s1

/-- A capture of QUALIFY's touch `k`: converted to MACHINE, with the HEAD temperature at touch 4 (R116) and the thermal
flags of the conversion (R13, R38). -/
def qualCapture (s : State) (a : Arm) (cap : Capture) (k : Nat) : State :=
  s.modExec a fun b =>
    { b with
      qual := { b.qual with
        caps := b.qual.caps ++ [(s.chain a).toMachine cap.counts]
        head := if k = 4 then (s.group (headGroup a)).temp else b.qual.head }
      flags := b.flags.alsoThermal ((s.chain a).used .machine) }

/-- The arm takes the capture that its block's unit hands it (R93, R106, R110, R111, R116). In STOPPING a capture of PROBE_POINT
is converted (R111); one of a QUALIFY touch is dropped unconverted, so that it sets no thermal flag: R120 discards its point,
and neither R111 nor R120 says whether it is converted (DESIGN CHOICE, log 47). -/
def takeCapture (s : State) (a : Arm) (cap : Capture) : State :=
  let stopping := (s.arm a).state == .stopping
  match (s.arm a).phase with
  | .search =>
    let s1 := (s.modExec a (s.withCapture a cap)).blockDriftCheck a
    if stopping then s1 else s1.brakeFor a .touchStop
  | .touch k .search => if stopping then s else (s.qualCapture a cap k).brakeFor a (.touch k .stop)
  | .homeSearch x => if stopping then s else s.brakeFor a (.homeStop x)
  | _ => s

/-! ## Resuming a search after a hold (R61, R96, R110, R120) -/

/-- A touch's search that is resumed: TRIG active means the touch is lost; otherwise the unit is armed afresh (R110). -/
def resumeTouch (s : State) (a : Arm) (b : Block) : State :=
  if s.pins.trig.get a then (s.modArm a fun r => { r with moving := false }).searchMissed a b
  else
    match b.unit with
    | some u => s.armCapture b u .trig
    | none => s

/-- What an arm does when it resumes a phase with a segment in progress (R61). -/
def resume (s : State) (a : Arm) : State :=
  let r := s.arm a
  match r.exec with
  | none => s
  | some b =>
    if r.moving then
      match r.phase with
      | .search => s.resumeTouch a b
      | .touch _ .search => s.resumeTouch a b
      | .homeSearch x =>
        match b.unit with
        | some u => s.armCapture b u (.refm x)
        | none => s
      | _ => s
    else s

/-! ## Step 6 (R47) -/

/-- WAIT_STABLE's group is stable within its band now (R37, R50). -/
def stableNow (s : State) (c : SlotCopy) : Bool :=
  match index? 10 (c.nat 4) with
  | some g => s.therm.groups[g].stable (c.nat 5)
  | none => false

/-- DWELL at step 6; a time of 0 expires at once (R49). -/
def beginDwell (s : State) (a : Arm) (c : SlotCopy) : State :=
  let s1 := s.setPhase a .dwelling
  if c.nat 4 = 0 then s1.completeDone a .ok else s1.modArm a fun r => { r with dwellTimer := some (c.nat 4) }

/-- WAIT_STABLE at step 6; a timeout of 0 expires at once (R50). -/
def beginWaitStable (s : State) (a : Arm) (c : SlotCopy) : State :=
  let s1 := s.setPhase a .waitingStable
  if s.stableNow c then s1.completeDone a .ok
  else if c.nat 6 = 0 then s1.completeDone a .unstable
  else s1.modArm a fun r => { r with stableTimer := some (c.nat 6) }

/-- Begin the MOVE segment or the TRANSIT segment that is due (R48, R115). -/
def beginLeg (s : State) (a : Arm) : State :=
  match (s.arm a).exec with
  | none => s
  | some b =>
    match b.slot.kind with
    | some .move => (s.setPhase a .moving).beginSeg a (b.target b.leg) (b.slot.nat 4)
    | some .qualify =>
      (s.setPhase a .transit).beginSeg a ((b.transit b.qual.k).getD b.qual.leg .zero) (s.armSet a).homeFeed
    | _ => s

/-- The kind's work begins, in the first phase its rule names (R47). -/
def stepSix (s : State) (a : Arm) : State :=
  match (s.arm a).exec with
  | none => s
  | some b =>
    match b.slot.kind with
    | some .move => s.beginLeg a
    | some .qualify => s.beginLeg a
    | some .dwell => s.beginDwell a b.slot
    | some .waitStable => s.beginWaitStable a b.slot
    | some .home => s.beginHome a
    | some .probePoint => (s.setPhase a .approach).beginSeg a (b.target 0) (b.slot.nat 12)
    | some .identify => (s.setPhase a .identifying).beginLink a .readId
    | some .changeProbe =>
      if b.change.stowPort = none then s.beginChange a .fetchApproach .fetch else s.beginChange a .stowApproach .stow
    | some .setFrame | some .setLatch | none => s

/-- Begin the due work of an arm. -/
def beginDue (s : State) (a : Arm) (d : Due) : State :=
  let s1 := s.modArm a fun r => { r with due := none }
  match d with
  | .segEnd => s1.segEnd a
  | .stepSix => s1.stepSix a
  | .leg => s1.beginLeg a
  | .nextLeg => s1.beginLeg a
  | .search => s1.beginSearch a
  | .retract => s1.beginRetract a
  | .homeSearch x => s1.beginHomeSearch a x
  | .limitReturn => s1.beginLimitReturn a
  | .change c h => s1.beginChange a c h
  | .transaction cmd => s1.beginLink a cmd

/-! ## Steps 3 to 5 (R19, R47, R72) -/

/-- SET_FRAME past the swap check (R6). -/
def applyFrame (s : State) (a : Arm) (c : SlotCopy) : State :=
  let previous := (s.arm a).frameOffset
  (s.modArm a fun r => { r with frameOffset := c.vec 4 }).completeWith a (vecWords previous)

/-- The unit that a SET_LATCH leaves (R88). -/
def latchAfter (s : State) (a : Arm) (c : SlotCopy) (u : Fin 16) : LatchAction → LatchUnit
  | .allocate =>
    { (c.latchSettings s.latches[u]).getD s.latches[u] with alloc := some a, cap := .zero, extra := 0 }
  | .release => { s.latches[u] with alloc := none }
  | .arm => s.latches[u].arming .standing ((s.counts a).get s.latches[u].axis)
  | .disarm => s.latches[u].disarmed
  | .read => s.latches[u]

/-- SET_LATCH past the swap check: the checks of its row once more, then its effect (R88). -/
def applyLatch (s : State) (a : Arm) (b : Block) : State :=
  match s.latchCheck a b.slot, index? 16 (b.slot.nat 4), latchAction? (b.slot.nat 5) with
  | none, some u, some action =>
    let s1 := s.setUnit u (s.latchAfter a b.slot u action)
    s1.completeWith a s1.latches[u].words
  | some f, _, _ => s.blockFault a f
  | none, _, _ => s

/-- Step 5 for a bound block: a request where the zone is needed and not held (R72). The arm stands in START_CHECK until
the arbiter has decided (log 15). -/
def requestZone (s : State) (a : Arm) (b : Block) : State :=
  if s.blockNeedsZone a (s.arm a).cmd b && !s.holdsGrant a then s.zoneRequest a
  else s.setDue a .stepSix

/-- Steps 4 and 5 of a block with waypoints (R47). -/
def bindAndRequest (s : State) (a : Arm) (b : Block) : State :=
  let s1 := s.modExec a fun _ => (s.bind a b).1
  match (s.bind a b).2 with
  | some f => s1.blockFault a f
  | none =>
    let s2 := if b.slot.kind = some .probePoint then s1.blockDriftCheck a else s1
    s2.requestZone a (s.bind a b).1

/-- A block past the swap check (R47). -/
def passSwap (s : State) (a : Arm) : State :=
  match (s.arm a).exec with
  | none => s
  | some b =>
    let s1 := s.setPhase a .startCheck
    match b.slot.kind with
    | some .setFrame => s1.applyFrame a b.slot
    | some .setLatch => s1.applyLatch a b
    | some .dwell | some .waitStable | some .identify => s1.setDue a .stepSix
    | some .home => s1.requestZone a b
    | some .move | some .probePoint | some .qualify | some .changeProbe => s1.bindAndRequest a b
    | none => s1

/-! ## The swap (R19, R20) -/

/-- The arm counts as executing for the swap barrier (R19). -/
def executing (s : State) (a : Arm) : Bool := (s.arm a).exec.isSome && (s.arm a).phase != .waitSwap

/-- A pending swap finds neither arm executing (R20). -/
def swapReady (s : State) : Bool := s.corr.swapPending && !s.executing .A && !s.executing .B

/-- The swap takes effect (R20); the arms in WAIT_SWAP go on from the swap check as immediate work. -/
def doSwap (s : State) : State :=
  { s with corr := ⟨s.corr.staged, s.corr.active, false⟩ }.setNotice .swap

/-! ## Immediate work -/

/-- The arm waits in WAIT_SWAP and no swap is pending any more (R20). -/
def swapReleased (s : State) (a : Arm) : Bool :=
  (s.arm a).state == .active && (s.arm a).phase == .waitSwap && !s.corr.swapPending

/-- The arm becomes HELD mid-block; the hold began where HOLDING began, and here where it did not pass HOLDING (R41, R60,
R82). -/
def becomeHeld (s : State) (a : Arm) : State :=
  (s.modArm a fun r =>
    { r with state := .held, holding := false, holdPhase := some (r.holdPhase.getD r.phase) }).disarmCaptures a

/-- The next immediate work of one arm, if any: the end of a segment of length 0, becoming HELD at rest, the due work but
for a segment that waits for the next tick (R53). -/
def armWork (s : State) (a : Arm) : Option State :=
  let r := s.arm a
  if r.due = some .segEnd then some (s.beginDue a .segEnd)
  else if r.state = .active ∧ r.moving = false then
    if r.holdLevel = true ∧ (r.due ≠ none ∨ r.phase.begun = true) then some (s.becomeHeld a)
    else if r.due = some .nextLeg then none
    else r.due.map (s.beginDue a)
  else none

/-- The release of the arms that a swap lets go on; which of two goes first is a free value (R20, log 12). -/
def swapRelease (s : State) : Option State :=
  match s.swapReleased .A, s.swapReleased .B with
  | true, true =>
    some ({ s with free := s.free + 1 }.passSwap (if Config.releaseAFirst s.free then .A else .B))
  | true, false => some (s.passSwap .A)
  | false, true => some (s.passSwap .B)
  | false, false => none

/-- The barrier test between two arms' changes of standing in one event (R20): a ready swap takes effect, and the arm that it
releases goes on from its swap check. What step 6 then begins is immediate work of the event's end (DESIGN CHOICE, log 55). -/
def swapBetween (s : State) : State :=
  if s.swapReady then s.doSwap.swapRelease.getD s.doSwap else s

/-- The next immediate work of the part: a swap that is ready, the arms it releases, the work of the arms. -/
def immediate (s : State) : Option State :=
  if s.swapReady then some s.doSwap
  else
    match s.swapRelease with
    | some t => some t
    | none =>
      match s.armWork .A with
      | some t => some t
      | none => s.armWork .B

/-- Do the immediate work until none is left, at most `n` pieces. -/
def settleN : Nat → State → State
  | 0, s => s
  | n + 1, s =>
    match s.immediate with
    | none => s
    | some t => settleN n t

/-- All the immediate work that follows an event. One block gives rise to fewer than a hundred pieces: at most five
touches of at most ten segments of length 0. -/
def settle (s : State) : State := settleN 256 s

end State

end Sys2Proof.Machine
end

