-- ==== Sys2Proof/Machine/HeadLink.lean ====
section
/-! DEFINITION. The Head Link Controllers (07, R131 to R135) and what the blocks make of a transaction's end (07, R137;
08, R143 to R146). -/

namespace Sys2Proof.Machine

/-! ## Bytes and frames (R133, R134, 12.10) -/

/-- The command byte (12.10). -/
def LinkCmd.byte : LinkCmd → Nat
  | .lock => 0x3C
  | .unlock => 0x3D
  | .readId => 0x71

/-- The check byte of a command: 255 minus the command (R133). -/
def LinkCmd.check (c : LinkCmd) : Nat := 255 - c.byte

/-- The frame of a byte as eleven levels, bit 0 first: start low, data from the least significant bit, even parity, stop
high (R133). -/
def frameOf (b : Byte) : BitVec 11 :=
  let parity := (List.range 8).foldl (fun p i => p ^^ b.getLsbD i) false
  BitVec.ofNat 11 (b.toNat * 2 + bitAt parity 9 + 1024)

/-- The parity test of a received frame: the eight data bits and the parity bit hold an even number of ones (R133). -/
def parityEven (frame : BitVec 11) : Bool :=
  (List.range 9).foldl (fun p i => p ^^ frame.getLsbD (i + 1)) false == false

/-- The samples of a frame, tested in their order: the first failing test, or the byte (R134). -/
def readFrame (frame : BitVec 11) : Except LinkKind Byte :=
  if frame.getLsbD 0 then .error .framing
  else if parityEven frame = false then .error .parity
  else if frame.getLsbD 10 = false then .error .framing
  else .ok (frame.extractLsb' 1 8)

/-- The number of reply bytes expected (R131). -/
def LinkCmd.expected : LinkCmd → Nat
  | .readId => 32
  | .lock | .unlock => 1

/-- ACK (12.10). -/
def ackByte : Byte := 0xA5

/-- NAK (12.10). -/
def nakByte : Byte := 0x5A

/-- The sum of received bytes. -/
def byteSum : List Byte → Nat
  | [] => 0
  | b :: bs => b.toNat + byteSum bs

/-- A complete reply judged by its command: the failure kind, or nothing on success (R134). -/
def judge (c : LinkCmd) (buf : List Byte) : Option LinkKind :=
  match c with
  | .readId => if byteSum buf % 256 = 0 then none else some .checksum
  | .lock | .unlock =>
    match buf with
    | [b] => if b = ackByte then none else if b = nakByte then some .refused else some .framing
    | _ => some .framing

/-- The fault code of the second failure (R135). -/
def LinkKind.fault : LinkKind → FaultCode
  | .timeout => .linkTimeout
  | .rate => .rateFault
  | .refused => .linkRefused
  | .framing | .parity | .length | .checksum => .linkError

/-- The kind a LINK_ERROR carries (R135). -/
def LinkKind.carried (k : LinkKind) : Option LinkKind := if k.fault = .linkError then some k else none

/-- The bit period from a SYNC count (R132). -/
def bitPeriod (n : Nat) : Nat := (2 * n + 10) / 20

/-- What SEND puts on HDAT (R133): the frame of the command byte, then that of its check byte, as 22 levels in the order
of the bit periods, `false` for low. -/
def LinkCmd.levels (c : LinkCmd) : List Bool :=
  [c.byte, c.check].flatMap fun n => (List.range 11).map (frameOf (BitVec.ofNat 8 n)).getLsbD

/-- The part pulls HDAT low: throughout WAKE, and in a bit period of SEND, counted from 0, whose level is low; it releases
the line otherwise (R132, R133). -/
def Link.pullsLow (l : Link) (bit : Nat) : Bool :=
  match l.engine with
  | .wake => true
  | .send => l.cmd.levels.getD bit true == false
  | _ => false

namespace State

/-- Change an arm's link. -/
def modLink (s : State) (a : Arm) (f : Link → Link) : State := s.modArm a fun r => { r with link := f r.link }

/-- The engine of an arm's controller. -/
def engine (s : State) (a : Arm) : Engine := (s.arm a).link.engine

/-- What the block's result reports of a transaction that has ended (R137, R139). Where no attempt of it measured a B, the
reported B is the one the controller kept from before, 0 after a reset (R132; DESIGN CHOICE, log 53). -/
def noteLink (s : State) (a : Arm) (error : Option LinkKind) : State :=
  let l := (s.arm a).link
  s.modExec a fun b => { b with link := ⟨l.period, l.attempt - 1, l.firstKind, error⟩ }

/-- A failed transaction: block-level in IDENTIFY and for LINK_REFUSED, arm-level in CHANGING (R135, R137, R143 to
R145). -/
def transactionFailed (s : State) (a : Arm) (k : LinkKind) : State :=
  let s1 := (s.noteLink a k.carried).modLink a Link.idled
  match (s.arm a).phase with
  | .changing _ _ => if k.fault = .linkRefused then s1.blockFault a .linkRefused else s1.armFault a k.fault
  | _ => s1.blockFault a k.fault

/-- An attempt fails: the first is repeated after PAUSE, the second fails the transaction (R135). -/
def attemptFailed (s : State) (a : Arm) (k : LinkKind) : State :=
  if (s.arm a).link.attempt = 1 then s.modLink a fun l => { l with engine := .pause, firstKind := some k }
  else s.transactionFailed a k

/-- UNLOCK has succeeded: the stow where SEAT is high, the wait for it otherwise (R143). -/
def unlocked (s : State) (a : Arm) : State :=
  if (s.arm a).seatLow then s.modArm a fun r => { r with seatWait := .high (s.armSet a).seatTimeout } else s.stowMade a

/-- LOCK has succeeded: the fetch, and READ_ID is due (R144). The phase is IDENTIFY from the success on, also where a hold keeps
READ_ID from beginning (R149; DESIGN CHOICE, log 33). -/
def locked (s : State) (a : Arm) : State :=
  let s1 :=
    match s.changeOf a with
    | some g =>
      match g.target, g.fetchPort with
      | some q, some p => s.fetch a q p
      | _, _ => s
    | none => s
  (s1.setPhase a (.changing .identify .fetch)).setDue a (.transaction .readId)

/-- READ_ID has succeeded in a change: verification, or reconciliation with ID_MISMATCH to follow (R145, R146). The phase is
PORT_RETRACT from the success on, also in a hold (DESIGN CHOICE, log 33). -/
def changeIdentified (s : State) (a : Arm) (bytes : List Byte) : State :=
  let found := s.matched bytes
  let s1 := s.modExec a fun b =>
    { b with change := { b.change with serial := identSerial bytes, kindRead := byteAt bytes 1 } }
  let s2 :=
    match s.changeOf a, found with
    | some g, some q =>
      if g.target = some q then s1.verify a q
      else (s1.modExec a fun b => { b with change := { b.change with fault := some .idMismatch } }).reconcileArms a found
    | _, _ => (s1.modExec a fun b => { b with change := { b.change with fault := some .idMismatch } }).reconcileArms a found
  (s2.setPhase a (.changing .portRetract .fetch)).setDue a (.change .portRetract .fetch)

/-- READ_ID has succeeded in IDENTIFY: reconciliation, and the block completes DONE, OK (R137). -/
def identified (s : State) (a : Arm) (bytes : List Byte) : State :=
  let found := s.matched bytes
  ((s.modExec a fun b => { b with ident := ⟨bytes, found⟩ }).reconcileArms a found).completeDone a .ok

/-- A transaction has succeeded (R131). -/
def transactionDone (s : State) (a : Arm) : State :=
  let bytes := (s.arm a).link.buf
  let s1 := (s.noteLink a none).modLink a Link.idled
  match (s.arm a).phase with
  | .identifying => s1.identified a bytes
  | .changing .release _ => s1.unlocked a
  | .changing .engage _ => s1.locked a
  | .changing .identify _ => s1.changeIdentified a bytes
  | _ => s1

end State

/-! ## The commands of the link -/

/-- WAKE_END (R132). -/
def execWakeEnd (a : Arm) (s : State) : Host.Outcome State Fault Refusal :=
  .next (if s.engine a = .wake then s.modLink a fun l => { l with engine := .syncWait } else s)

/-- SYNC_FALL (R132). -/
def execSyncFall (a : Arm) (s : State) : Host.Outcome State Fault Refusal :=
  .next (if s.engine a = .syncWait then s.modLink a fun l => { l with engine := .sync } else s)

/-- SYNC_RISE (R132, R133): B from the count; below 13 the attempt fails with RATE, otherwise SEND follows. -/
def execSyncRise (a : Arm) (count : BitVec 16) (s : State) : Host.Outcome State Fault Refusal :=
  let b := bitPeriod count.toNat
  .next (if s.engine a = .sync then
      if b < 13 then ((s.modLink a fun l => { l with period := b }).attemptFailed a .rate).settle
      else s.modLink a fun l => { l with period := b, engine := .send }
    else s)

/-- SYNC_OVERFLOW (R132). -/
def execSyncOverflow (a : Arm) (s : State) : Host.Outcome State Fault Refusal :=
  .next (if s.engine a = .sync then (s.attemptFailed a .rate).settle else s)

/-- SYNC_TIMEOUT (R132). -/
def execSyncTimeout (a : Arm) (s : State) : Host.Outcome State Fault Refusal :=
  .next (if s.engine a = .syncWait then (s.attemptFailed a .timeout).settle else s)

/-- COMMAND_SENT (R133). -/
def execCommandSent (a : Arm) (s : State) : Host.Outcome State Fault Refusal :=
  .next (if s.engine a = .send then s.modLink a fun l => { l with engine := .replyWait } else s)

/-- REPLY_TIMEOUT (R134). -/
def execReplyTimeout (a : Arm) (s : State) : Host.Outcome State Fault Refusal :=
  .next (if s.engine a = .replyWait then (s.attemptFailed a .timeout).settle else s)

/-- A frame whose start bit begins in REPLY_WAIT or RECEIVE (R134). -/
def State.receiveFrame (s : State) (a : Arm) (frame : BitVec 11) : State :=
  let l := (s.arm a).link
  if l.cmd.expected ≤ l.buf.length then s.attemptFailed a .length
  else
    match readFrame frame with
    | .error k => s.attemptFailed a k
    | .ok b => s.modLink a fun l => { l with engine := .receive, buf := l.buf ++ [b] }

/-- REPLY_BYTE (R134). -/
def execReplyByte (a : Arm) (frame : BitVec 11) (s : State) : Host.Outcome State Fault Refusal :=
  .next (if s.engine a = .replyWait ∨ s.engine a = .receive then (s.receiveFrame a frame).settle else s)

/-- No start bit within 44 B: the reply is complete and judged, or bytes are missing (R134). -/
def State.replyGap (s : State) (a : Arm) : State :=
  let l := (s.arm a).link
  if l.buf.length < l.cmd.expected then s.attemptFailed a .timeout
  else
    match judge l.cmd l.buf with
    | some k => s.attemptFailed a k
    | none => s.transactionDone a

/-- REPLY_GAP_EXPIRY (R134). -/
def execReplyGapExpiry (a : Arm) (s : State) : Host.Outcome State Fault Refusal :=
  .next (if s.engine a = .receive then (s.replyGap a).settle else s)

/-- LINK_PAUSE_EXPIRY (R135): attempt 2 begins with WAKE and a cleared buffer. -/
def execLinkPauseExpiry (a : Arm) (s : State) : Host.Outcome State Fault Refusal :=
  .next (if s.engine a = .pause then s.modLink a fun l => { l with engine := .wake, attempt := 2, buf := [] } else s)

end Sys2Proof.Machine
end

