-- ==== Sys2Proof/Machine/Lines.lean ====
section
/-! DEFINITION. The input lines (11, R176): captures (05, R83, R84), the trigger watch (06, R97, R98), the rack cover and
the SEAT watch (07, R129, R130; 08, R141 to R148), the block timers (03, R49, R50; 04, R75). -/

namespace Sys2Proof.Machine

/-! ## Captures (R83) -/

/-- A change of a line that an edge matches (R83): `active` is the line's new standing. -/
def Edge.matches (e : Edge) (active : Bool) : Bool :=
  match e with
  | .rise => active
  | .fall => !active
  | .any => true

/-- A unit sees a matching change of its line: it fires, or counts an extra edge while FIRED (R83). -/
def LatchUnit.seeEdge (u : LatchUnit) (cap : Capture) : LatchUnit :=
  match u.state with
  | .idle => u
  | .armed => { u with state := .fired, cap := cap }
  | .fired => { u with extra := min (u.extra + 1) 255 }

/-- The unit of an arm watches a line and the change matches its edge (R83, R84). -/
def LatchUnit.watches (u : LatchUnit) (a : Arm) (input : CaptureInput) (active : Bool) : Bool :=
  u.mode == .capture && u.alloc == some a && u.input == input && u.edge.matches active

/-- What a change of a line makes of a unit (R83). -/
def LatchUnit.onEdge (a : Arm) (input : CaptureInput) (active : Bool) (cap : Capture) (u : LatchUnit) : LatchUnit :=
  if u.watches a input active then u.seeEdge cap else u

namespace State

/-- The capture record of a change at this instant (R83). -/
def captureNow (s : State) (a : Arm) (active : Bool) : Capture := ⟨s.counts a, s.tickNo, !active⟩

/-- A unit of an arm that a change fires and a block holds: what it hands to the arm (R83). -/
def firing (s : State) (a : Arm) (input : CaptureInput) (active : Bool) : Bool :=
  s.latches.toList.any fun u =>
    u.watches a input active && u.state == .armed &&
      match u.armedBy with
      | .block _ => true
      | _ => false

/-- A change of a line of an arm reaches the Latch Array, and the capture of a block's unit reaches the arm (R83). -/
def lineChange (s : State) (a : Arm) (input : CaptureInput) (active : Bool) : State :=
  let cap := s.captureNow a active
  let handed := s.firing a input active
  let s1 := { s with latches := mapTable (LatchUnit.onEdge a input active cap) s.latches }
  if handed then s1.takeCapture a cap else s1

end State

/-! ## The trigger watch (R97) -/

/-- The phases exempt from the trigger watch (R97). -/
def Phase.exempt : Phase → Bool
  | .approach | .search | .touchStop | .retract | .touch _ _ => true
  | .changing c _ =>
    match c with
    | .stowApproach | .fetchApproach => false
    | .dock | .release | .engage | .identify | .portRetract => true
  | _ => false

namespace State

/-- The trigger watch of an arm is on (R97). -/
def watchOn (s : State) (a : Arm) : Bool :=
  let r := s.arm a
  r.mounted != .none && r.moving && r.state != .held && !r.phase.exempt

/-- The standing of an arm's TRIG line after a change (R98). -/
def setTrig (s : State) (a : Arm) (active : Bool) : State :=
  { s with pins := { s.pins with trig := s.pins.trig.set a active } }

/-- A change of TRIG: the Latch Array and the trigger watch act on it independently (R98). -/
def trigChanged (s : State) (a : Arm) (active : Bool) : State :=
  let s1 := (s.setTrig a active).lineChange a .trig active
  if active && s.watchOn a then s1.armFault a .collision else s1

end State

/-- TRIG_CHANGE (R98). -/
def execTrigChange (a : Arm) (active : Bool) (s : State) : Host.Outcome State Fault Refusal :=
  .next (if s.pins.trig.get a = active then s else (s.trigChanged a active).settle)

/-- The standing of an arm's REFM line after a change. -/
def State.setRefm (s : State) (a : Arm) (x : Axis) (active : Bool) : State :=
  { s with pins := { s.pins with refm := s.pins.refm.set a ((s.pins.refm.get a).set x active) } }

/-- REFM_CHANGE (R83). -/
def execRefmChange (a : Arm) (x : Axis) (active : Bool) (s : State) : Host.Outcome State Fault Refusal :=
  .next (if (s.pins.refm.get a).get x = active then s
    else ((s.setRefm a x active).lineChange a (.refm x) active).settle)

/-- The standing of an external line after a change. -/
def State.setExt (s : State) (i : Fin 4) (active : Bool) : State :=
  { s with pins := { s.pins with ext := s.pins.ext.set i active } }

/-- EXT_IN_CHANGE (R83): units of either arm may watch the line; no block's unit does. -/
def execExtInChange (i : Fin 4) (active : Bool) (s : State) : Host.Outcome State Fault Refusal :=
  .next (if s.pins.ext[i] = active then s
    else ((s.setExt i active).lineChange .A (.ext i) active).lineChange .B (.ext i) active)

/-! ## The rack cover (R141) -/

/-- The standing of an arm's COVER_OPEN line after a change. -/
def State.setCover (s : State) (a : Arm) (active : Bool) : State :=
  { s with pins := { s.pins with coverOpen := s.pins.coverOpen.set a active } }

/-- COVER_OPEN has become active: a cover wait ends (R141). -/
def State.coverSeen (s : State) (a : Arm) : State :=
  match (s.arm a).coverTimer, (s.arm a).phase with
  | some _, .changing _ h => s.coverOpened a h
  | _, _ => s

/-- COVER_OPEN_CHANGE (R141). -/
def execCoverOpenChange (a : Arm) (active : Bool) (s : State) : Host.Outcome State Fault Refusal :=
  .next (if s.pins.coverOpen.get a = active then s
    else if active then ((s.setCover a active).coverSeen a).settle
    else s.setCover a active)

/-- COVER_FAULT (R141): the cover wait expires. -/
def execCoverFault (a : Arm) (s : State) : Host.Outcome State Fault Refusal :=
  .next (match (s.arm a).coverTimer with
    | some _ => (s.blockFault a .coverFault).settle
    | none => s)

/-! ## SEAT (R129, R130, R148) -/

/-- The level of an arm's HSEAT line after a change; the debounce runs while it differs from the debounced level, in RUN
(R129). -/
def State.setHseat (s : State) (a : Arm) (low : Bool) : State :=
  { s with pins := { s.pins with hseatLow := s.pins.hseatLow.set a low } }.modArm a fun r =>
    { r with debouncing := s.device == Device.run && low != r.seatLow }

/-- HSEAT_CHANGE (R129). -/
def execHseatChange (a : Arm) (low : Bool) (s : State) : Host.Outcome State Fault Refusal :=
  .next (if s.pins.hseatLow.get a = low then s else s.setHseat a low)

namespace State

/-- A SEAT rise with a verified probe mounted (R130): PROBE_LOST, and the loss is acted on at rest. -/
def probeLostAt (s : State) (a : Arm) : State :=
  let s1 := s.modArm a fun r => { r with probeLost := true }
  match (s.arm a).state with
  | .fault => s1.applyProbeLost a
  | _ => s1.armFault a .probeLost

/-- The arm is IDENTIFYING (R137). -/
def isIdentifying (s : State) (a : Arm) : Bool :=
  (s.arm a).phase == .identifying && ((s.arm a).state == .active || (s.arm a).state == .held)

/-- SEAT goes high outside CHANGING (R130, R137). An IDENTIFY that waits in WAIT_SWAP, or is HELD before step 6, goes on
(DEDUCED, log 33). -/
def seatRise (s : State) (a : Arm) : State :=
  match (s.arm a).mounted with
  | .probe _ => s.probeLostAt a
  | .none => s
  | .unverified | .foreign =>
    let s1 := s.setMounted a .none
    if s.isIdentifying a then s1.blockFault a .noProbe else s1

/-- SEAT goes low outside CHANGING; a change that has passed step 2 and not begun its first change phase meets a module
it does not know (R130, R140). -/
def seatFall (s : State) (a : Arm) : State :=
  match (s.arm a).mounted with
  | .none =>
    let s1 := s.setMounted a .unverified
    if s.runsBlock a .changeProbe then s1.blockFault a .mountUnknown else s1
  | _ => s

/-- SEAT goes high in a change phase (R148). While STOPPING, the loss of a verified probe in a phase that would take
PROBE_LOST is noted and acted on at rest (log 32). -/
def seatRiseChanging (s : State) (a : Arm) (c : ChangePhase) (h : Half) : State :=
  let r := s.arm a
  let stopping := r.state == .stopping
  let verified := match r.mounted with
    | .probe _ => true
    | _ => false
  match c, h with
  | .stowApproach, _ => if verified then s.probeLostAt a else s
  | .release, _ => if r.seatWait != .none then s.stowMade a else s
  | .portRetract, .stow =>
    match r.seatWait, r.exec with
    | .none, _ => s
    | _, some b => s.stowDone a b
    | _, none => s
  | .engage, _ => if stopping || r.seatWait != .none then s else s.blockFault a .noProbe
  | .identify, _ => if stopping then s else s.blockFault a .noProbe
  | .portRetract, .fetch =>
    if verified then s.probeLostAt a
    else if stopping then s
    else s.modExec a fun b => { b with change := { b.change with fault := some .noProbe } }
  | .dock, _ => s
  | .fetchApproach, _ => s

/-- SEAT goes low in a change phase: it ends ENGAGE's wait (R148). -/
def seatFallChanging (s : State) (a : Arm) (c : ChangePhase) : State :=
  match c with
  | .engage => if (s.arm a).seatWait != .none then s.engageSeated a else s
  | _ => s

/-- The debounced SEAT level has changed: the SEAT watch or the change phase acts on it (R130, R148). -/
def seatChanged (s : State) (a : Arm) (low : Bool) : State :=
  match (s.arm a).phase, low with
  | .changing c _, true => s.seatFallChanging a c
  | .changing c h, false => s.seatRiseChanging a c h
  | _, true => s.seatFall a
  | _, false => s.seatRise a

/-- The debounced level takes the line's value (R129). -/
def debounced (s : State) (a : Arm) : State :=
  s.modArm a fun r => { r with seatLow := s.pins.hseatLow.get a, debouncing := false }

end State

/-- SEAT_DEBOUNCE_EXPIRY (R130). -/
def execSeatDebounceExpiry (a : Arm) (s : State) : Host.Outcome State Fault Refusal :=
  .next (if (s.arm a).debouncing then ((s.debounced a).seatChanged a (s.pins.hseatLow.get a)).settle else s)

/-- An expiry that may arrive together with a change of SEAT: where a debounce runs, whether its change arrives with the
expiry is a free value (log 41). The expiry is taken first; the level then stands as changed, and nothing acts on the
change but the settlement, which finds it so (R143). -/
def State.seatTogether (s : State) (a : Arm) : State :=
  if (s.arm a).debouncing then
    let s1 := { s with free := s.free + 1 }
    if Config.seatWithTimeout s.free then s1.debounced a else s1
  else s

/-- SEAT_TIMEOUT (R142 to R144): a SEAT wait expires, by itself or taken first of an expiry and a SEAT change that arrive
together. -/
def execSeatTimeout (a : Arm) (s : State) : Host.Outcome State Fault Refusal :=
  .next (if (s.arm a).seatWait = .none then s else ((s.seatTogether a).armFault a .seatTimeout).settle)

/-! ## Block timers and the arbiter -/

/-- DWELL_EXPIRY (R49). -/
def execDwellExpiry (a : Arm) (s : State) : Host.Outcome State Fault Refusal :=
  .next (match (s.arm a).dwellTimer with
    | some _ => (s.completeDone a .ok).settle
    | none => s)

/-- WAIT_STABLE_TIMEOUT (R50). -/
def execWaitStableTimeout (a : Arm) (s : State) : Host.Outcome State Fault Refusal :=
  .next (match (s.arm a).stableTimer with
    | some _ => (s.completeDone a .unstable).settle
    | none => s)

/-- ZONE_ARBITER_DECISION (R73). -/
def execZoneArbiterDecision (s : State) : Host.Outcome State Fault Refusal := .next s.zoneDecide.settle

/-- ZONE_TIMEOUT (R75): a wait timer that was started expires. -/
def execZoneTimeout (a : Arm) (s : State) : Host.Outcome State Fault Refusal :=
  .next (match s.zone.waits.get a with
    | .waiting (_ + 1) => (s.blockFault a .zoneTimeout).settle
    | _ => s)

end Sys2Proof.Machine
end

