-- ==== Sys2Proof/Machine/Ticks.lean ====
section
/-! DEFINITION. The tick (03, R52 to R59; 05, R85, R89; 06, R93, R106): for each arm the commit point, the interpolator,
the setpoints and scale counts, the compare units, the following comparison and the end of a segment or a stop. -/

namespace Sys2Proof.Machine

/-! ## The commit point (R57 to R59) -/

namespace State

/-- The tick is the commit point of the executing block (R57): its last segment in progress, PASS, MOVING and not HOLDING,
not tested before, and the brake test with v_end = 0 holds. A segment that runs from rest to its end before a tick meets the
brake test has no commit point, and its block is not marked STARVED (DESIGN CHOICE, log 43). -/
def atCommitPoint (s : State) (a : Arm) (b : Block) : Bool :=
  let r := s.arm a
  r.state == .active && r.phase == .moving && r.moving && !r.holding && b.slot.pass && !b.passTested &&
    b.leg + 1 == b.targets.length && r.seg.mustBrake (s.accOf a) 0

/-- Conditions 1 to 3 and 5 of R57: the queue head as it would be bound at this moment. -/
def commitHead (s : State) (a : Arm) (b : Block) : Option Block :=
  match (s.arm a).queue with
  | [] => none
  | c :: _ =>
    if c.kind ≠ some .move ∨ s.corr.swapPending = true then none
    else
      match s.stepOne a c with
      | .error _ => none
      | .ok h =>
        match s.stepTwo a h with
        | .refuse _ => none
        | .already _ => none
        | .go h2 =>
          match s.bind a h2 with
          | (_, some _) => none
          | (h3, none) => if h3.target 0 = b.target b.leg then none else some h3

/-- Condition 4 of R57: the head needs no zone request from the executing block's last waypoint, or the arm holds the
grant (R72). -/
def commitZone (s : State) (a : Arm) (b h : Block) : Bool :=
  s.holdsGrant a || !s.blockNeedsZone a (b.target b.leg) h

/-- The commit point: the pass commits, or the block is marked STARVED (R57, R59). -/
def commitPoint (s : State) (a : Arm) (b : Block) : State :=
  match s.commitHead a b with
  | some h =>
    if s.commitZone a b h then
      ((s.modExec a fun b => { b with passTested := true }).modArm a fun r =>
        { r with
          queue := r.queue.tail
          committed := some h
          seg := { r.seg with vEnd := min r.seg.f2 (s.feedOf a (h.slot.nat 4)) } }).fill a
    else s.modExec a fun b => { b with passTested := true, flags := { b.flags with starved := true } }
  | none => s.modExec a fun b => { b with passTested := true, flags := { b.flags with starved := true } }

/-- The commit point is tested at the tick where it falls. -/
def commitTest (s : State) (a : Arm) : State :=
  match (s.arm a).exec with
  | none => s
  | some b => if s.atCommitPoint a b then s.commitPoint a b else s

/-- The segment that waits for this tick begins (R53); one of length 0 ends at once, and what follows it begins with it. -/
def beginNext (s : State) (a : Arm) : State :=
  if (s.arm a).state = .active ∧ (s.arm a).due = some .nextLeg then (s.setDue a .leg).settle else s

/-! ## A capture together with the end of its search (R94, R105, R116) -/

/-- The arm brakes from a capture of tick `tick`, and the next advance of its search, had there been no capture, reaches the
search's end: with A where the search was HOLDING, along R52 otherwise. -/
def captureNearEnd (s : State) (a : Arm) (tick : Word) : Bool :=
  let r := s.arm a
  let search := if r.holdPhase.isSome then r.seg.slowed (s.accOf a) else r.seg.step (s.accOf a)
  r.state == .active && r.moving && r.phase.brakes && search.atEnd &&
    match r.exec.bind Block.unit with
    | some u => s.latches[u].cap.tick == tick
    | none => false

/-- A capture since the last tick, and the search's end at this one: whether they fall together is a free value (log 42).
Where they do, the capture has been taken first and the arm stands in its stop phase at the end, to be at rest there at
once (R94, R105). -/
def captureAtEnd (s : State) (a : Arm) : State :=
  if s.captureNearEnd a (s.tickNo - 1) then
    let s1 := { s with free := s.free + 1 }
    if Config.captureWithEnd s.free then s1.modArm a fun r => { r with seg := { r.seg with pos := r.seg.total } } else s1
  else s

/-! ## The interpolator's tick (R52, R60, R62, R93, R106) -/

/-- A segment advances in this tick: one is in progress and the arm is ACTIVE or STOPPING. -/
def advances (s : State) (a : Arm) : Bool :=
  (s.arm a).moving && ((s.arm a).state == .active || (s.arm a).state == .stopping)

/-- The segment after its tick: steps 1 to 5 of R52, or a deceleration with A (HOLDING) or A_stop (STOPPING and the stop
phases). -/
def segAfter (s : State) (a : Arm) : Seg :=
  let r := s.arm a
  if r.state = .stopping ∨ r.phase.brakes = true then r.seg.slowed (s.stopAccOf a)
  else if r.holding = true then r.seg.slowed (s.accOf a)
  else r.seg.step (s.accOf a)

/-- The segment advances and the commanded position follows (R52 step 6). -/
def advance (s : State) (a : Arm) : State :=
  if s.advances a then
    let g := s.segAfter a
    s.modArm a fun r => { r with seg := g, cmd := g.position }
  else s

/-! ## Setpoints and scale counts (R54, R89) -/

end State

/-- An Axis Port at a tick: it takes the setpoint, and keeps the count of a reading, scale reading plus offset (R89). -/
def AxisPort.atTick (p : AxisPort) (setpoint : Int) (reading : Reading) : AxisPort :=
  { p with
    setpoint := setpoint
    count := match reading with
      | some r => r + p.offset
      | none => p.count }

/-- The three Axis Ports of an arm at a tick. -/
def portsAtTick (axes : Tri AxisPort) (cmd : Vec) (readings : Tri Reading) : Tri AxisPort :=
  ⟨axes.x.atTick cmd.x readings.x, axes.y.atTick cmd.y readings.y, axes.z.atTick cmd.z readings.z⟩

/-- A crossing of a compare value (R85). -/
def crosses (dir : Dir) (value previous count : Int) : Bool :=
  match dir with
  | .up => decide (previous < value) && decide (value ≤ count)
  | .down => decide (value < previous) && decide (count ≤ value)

/-- The counts a compare firing records: n on the compare axis, zero on the others (R85). -/
def LatchUnit.compareCapture (u : LatchUnit) (count : Int) (tick : Word) : Capture :=
  ⟨Vec.zero.set u.axis count, tick, u.dir == .down⟩

/-- The test of a compare unit at a tick, with the count its axis returned, if one was (R85). -/
def LatchUnit.compareTest (a : Arm) (readings : Tri Reading) (counts : Vec) (tick : Word) (u : LatchUnit) : LatchUnit :=
  match readings.get u.axis with
  | none => u
  | some _ =>
    if u.mode = .compare ∧ u.alloc = some a then
      let n := counts.get u.axis
      match u.state with
      | .idle => u
      | .armed =>
        if crosses u.dir u.value u.previous n then
          { u with state := .fired, cap := u.compareCapture n tick, previous := n }
        else { u with previous := n }
      | .fired =>
        if crosses u.dir u.value u.previous n then { u with extra := min (u.extra + 1) 255, previous := n }
        else { u with previous := n }
    else u

namespace State

/-- The setpoints go out, the scale counts come back, the compare units are tested (R54, R85). -/
def exchange (s : State) (a : Arm) (readings : Tri Reading) : State :=
  let s1 := s.modArm a fun r => { r with axes := portsAtTick r.axes r.cmd readings }
  { s1 with latches := mapTable (LatchUnit.compareTest a readings (s1.counts a) s1.tickNo) s1.latches }

/-! ## The following comparison (R55, R56, R66, R69) -/

/-- An axis returned a count beyond its following limit (R55). -/
def follows (s : State) (a : Arm) (readings : Tri Reading) : Bool :=
  [Axis.X, .Y, .Z].any fun x =>
    (readings.get x).isSome &&
      decide (((s.armSet a).axes.get x).following < ((((s.arm a).axes.get x).setpoint - ((s.arm a).axes.get x).count).natAbs : Int))

/-- An axis returned no count (R56). -/
def silent (readings : Tri Reading) : Bool := [Axis.X, .Y, .Z].any fun x => (readings.get x).isNone

/-- Which code is taken where both arise: the free value of R56, and the counter moved on where it was read. -/
def followingCode (s : State) (a : Arm) (readings : Tri Reading) : State × Option FaultCode :=
  match s.follows a readings, silent readings with
  | true, true =>
    ({ s with free := s.free + 1 }, some (if Config.followingFirst s.free then .following else .driveSilent))
  | true, false => (s, some .following)
  | false, true => (s, some .driveSilent)
  | false, false => (s, none)

/-- The setpoints stop where the axes are: the scale counts, clamped to the soft limits where the arm is referenced
(R55). -/
def setpointsToCounts (s : State) (a : Arm) : State :=
  let counts := s.counts a
  s.modArm a fun r =>
    { r with cmd := if r.referenced then Tri.map2 AxisSet.nearest (s.armSet a).axes counts else counts }

/-- FOLLOWING or DRIVE_SILENT is taken (R55, R56, R69). -/
def takeFollowing (s : State) (a : Arm) (code : FaultCode) : State :=
  ((s.setpointsToCounts a).followingZone a (s.counts a)).followingFault a code

/-! ## The end of a segment, of a hold and of a stop (R53, R60, R62) -/

/-- A committed pass at the segment end: the executing block completes and the committed block carries on with v
(R44, R53). -/
def passOver (s : State) (a : Arm) (h : Block) : State :=
  let s1 := s.writeExec a slotDone .ok none
  let s2 := s1.releaseTest a (s1.nextNeedsZone a)
  let f := s.feedOf a (h.slot.nat 4)
  (s2.modArm a fun r =>
    { r with
      exec := some h
      committed := none
      phase := .moving
      seg := Seg.between r.cmd (h.target 0) f f 0 r.seg.v }).fill a

/-- STOPPING crosses into the committed block's segment (R62). -/
def stopCrosses (s : State) (a : Arm) (h : Block) : State :=
  let f := s.feedOf a (h.slot.nat 4)
  s.modArm a fun r => { r with crossed := true, seg := Seg.between r.cmd (h.target 0) f f 0 r.seg.v }

/-- HOLDING after its tick: the segment's end as R53 gives, a search missed there with its unit still armed (R94, R107,
log 24); HELD mid-block where the arm comes to rest before it (R60, R96, R110). -/
def holdTick (s : State) (a : Arm) : State :=
  let r := s.arm a
  if r.seg.atEnd then
    match r.committed with
    | some h =>
      let s1 := s.passOver a h
      if (s1.arm a).seg.v = 0 then s1.becomeHeld a else s1
    | none => s.segEndAtTick a
  else if r.seg.v = 0 then s.becomeHeld a
  else s

/-- STOPPING after its tick (R62). -/
def stopTick (s : State) (a : Arm) : State :=
  let r := s.arm a
  if r.seg.v = 0 then s.endStopping a
  else if r.seg.atEnd then
    match r.committed, r.crossed with
    | some h, false => s.stopCrosses a h
    | _, _ => s.endStopping a
  else s

/-- An ACTIVE arm after its tick: the end of a stop phase or of a segment (R53, R93, R106). -/
def activeTick (s : State) (a : Arm) : State :=
  let r := s.arm a
  if r.phase.brakes then (if r.seg.v = 0 ∨ r.seg.atEnd = true then s.brakeEnd a else s)
  else if r.holding then s.holdTick a
  else if r.seg.atEnd then
    match r.committed with
    | some h => s.passOver a h
    | none => s.segEndAtTick a
  else s

/-- What the end of the tick's advance brings, for an arm whose segment advanced in this tick. -/
def motionEnd (s : State) (a : Arm) : State :=
  match (s.arm a).state with
  | .active => s.activeTick a
  | .stopping => s.stopTick a
  | _ => s

/-- The advance of this tick has an end: the two events of R53 and R55 may fall together. -/
def motionEnds (s : State) (a : Arm) : Bool :=
  let r := s.arm a
  r.seg.atEnd || (r.seg.v == 0 && (r.state == .stopping || r.phase.brakes || r.holding))

/-- The last part of an arm's tick: the following comparison and the end of the advance. Where a fault and an end fall
together the order is a free value (log 9). -/
def tickEnd (s : State) (a : Arm) (readings : Tri Reading) (advanced : Bool) : State :=
  let faulted := (s.arm a).state != .fault && (s.follows a readings || silent readings)
  let both := faulted && advanced && s.motionEnds a
  let s1 := if both then { s with free := s.free + 1 } else s
  let endFirst := both && Config.segmentEndFirst s.free
  let s2 := if advanced && (!faulted || endFirst) then s1.motionEnd a else s1
  if faulted && (s2.arm a).state != .fault then
    match s2.followingCode a readings with
    | (s3, some code) => s3.takeFollowing a code
    | (s3, none) => s3
  else s2

/-- One arm's tick (R52 to R57). -/
def tickArm (s : State) (a : Arm) (readings : Tri Reading) : State :=
  let s1 := ((s.beginNext a).commitTest a).captureAtEnd a
  ((s1.advance a).exchange a readings).tickEnd a readings (s1.advances a) |>.settle

/-- Both arms' tick, in the order the arms are taken. -/
def tickBoth (s : State) (first : Arm) (readings : Duo (Tri Reading)) : State :=
  (({ s with tickNo := s.tickNo + 1 }.tickArm first (readings.get first)).tickArm first.other (readings.get first.other))

end State

/-- TICK (R54): in RUN alone. -/
def execTick (first : Arm) (readings : Duo (Tri Reading)) (s : State) : Host.Outcome State Fault Refusal :=
  .next (if s.device = .run then s.tickBoth first readings else s)

end Sys2Proof.Machine
end

