-- ==== Sys2Proof/Machine/Service.lean ====
section
/-! DEFINITION. The service engine (09, R158, R160, R161) and the service requests (01, R17, R18; 02, R22, R35; 03, R67;
04, R79; 07, R123 to R127), with the scans and the history of the Thermal Unit (02). -/

namespace Sys2Proof.Machine

/-- What an owner answers to a request: DONE, status OK, with result words, or FAULTED with a fault code (R160). -/
inductive Answer where
  | done (words : List Word)
  | refused (code : FaultCode)
  deriving DecidableEq, Repr

/-- The completion that an answer writes. -/
def Answer.completion : Answer → Completion
  | .done _ => ⟨slotDone, .ok, none, {}⟩
  | .refused f => ⟨slotFaulted, .none, some f, {}⟩

/-- The result words of an answer (R178). -/
def Answer.words : Answer → List Word
  | .done ws => ws
  | .refused _ => []

namespace State

/-- With the engine IDLE the engine looks at the cursor slot and takes it if POSTED (R157, R160). -/
def svcLook (s : State) : State :=
  let l := s.svcLane
  if s.svc = none ∧ l.paused = false ∧ l.posted s.shm = true then
    { s with
      shm := l.takenShm s.shm
      svcLane := { l with cursor := l.nextCursor }
      svc := some ⟨l.takenCopy s.shm, false⟩ }
  else s

/-- The answer of a request arrives: the completion is written, the SERVICE notice set, the engine becomes IDLE and
looks again (R159, R160). -/
def svcAnswer (s : State) (ans : Answer) : State :=
  match s.svc with
  | none => s
  | some q =>
    ({ s with
      shm := writeSlot s.shm (s.svcLane.slotBase q.slot.index) q.slot ans.completion (some ans.words) s.tickNo
      svc := none }.setNotice .service).svcLook

/-- The request in execution is of a kind and not held. -/
def svcNow (s : State) (k : SvcKind) : Option SlotCopy :=
  match s.svc with
  | some q => if q.held = false ∧ q.slot.svcKind = some k then some q.slot else none
  | none => none

/-! ## Correction Unit (01) -/

/-- STAGE_SET's effect (R17). -/
def stageSet (s : State) (c : SlotCopy) : State :=
  let k := coeffSet c.int 4
  if k.ok then { s with corr := { s.corr with staged := k } }.svcAnswer (.done []) else s.svcAnswer (.refused .badField)

/-- An arm in WAIT_ZONE whose request has not been granted meets a pending swap: it withdraws, discards its conversion
and enters WAIT_SWAP (R19, R76). One whose request the arbiter has not decided has passed step 3 and goes on (R19). The
flags of the conversion go with it, FEED_CLAMPED and SEARCH_LIMITED among them (DESIGN CHOICE, log 44); DRIFTED stays, since
the block's drift check has been made (R99). -/
def leaveZoneWait (s : State) (a : Arm) : State :=
  let r := s.arm a
  if r.state = .active ∧ r.phase = .waitZone ∧ r.due = none then
    ((s.zoneWithdraw a).modExec a fun b => { b with targets := [], used := none, flags := { drifted := b.flags.drifted }, limitHit := none }).setPhase a
      .waitSwap
  else s

/-- SWAP_SET's effect (R18, R19). -/
def swapSet (s : State) : State :=
  if s.corr.swapPending then s.svcAnswer (.refused .swapPending)
  else
    ((({ s with corr := { s.corr with swapPending := true } }.leaveZoneWait .A).leaveZoneWait .B).svcAnswer
      (.done [])).settle

/-! ## Thermal Unit (02) -/

/-- A request of the Thermal Unit is applied, or refused where a check that is made at its application fails (R22,
R35). -/
def thermalApply (s : State) (c : SlotCopy) : State :=
  match s.therm.apply c with
  | some t => { s with therm := t }.svcAnswer (.done [])
  | none => s.svcAnswer (.refused .badField)

/-- SET_SENSOR and SET_GROUP: refused at once where a field is out of range, applied at once without a scan in progress,
held otherwise; SET_GROUP's test against the other groups is made at the application (R22, R35). -/
def thermalRequest (s : State) (c : SlotCopy) : State :=
  if Thermal.fieldsOk c = false then s.svcAnswer (.refused .badField)
  else if s.therm.scan = none then s.thermalApply c
  else { s with svc := s.svc.map fun q => { q with held := true } }

/-- The Thermal Unit applies the request it has been holding (R29 step 5). -/
def applyHeld (s : State) : State :=
  match s.svc with
  | some q => if q.held then s.thermalApply q.slot else s
  | none => s

/-- A scan end (R29, R34). -/
def scanEnd (s : State) : State :=
  let t := s.therm.scanEnded
  let s1 := { s with therm := t }
  (if Thermal.statesDiffer s.therm.snap t.snap then s1.setNotice .thermal else s1).applyHeld

/-- A scan begins; an empty scan list ends it at once (R24). -/
def scanBegin (s : State) : State :=
  if s.therm.scanList = [] then s.scanEnd else { s with therm := { s.therm with scan := some s.therm.scanList } }

/-- A sample of the scan in progress is processed; the last one ends the scan (R24, R25, R29). -/
def sampleDone (s : State) (code : Nat) : State :=
  let s1 := { s with therm := s.therm.sampled code }
  if s1.therm.scan = some [] then s1.scanEnd else s1

/-- The stability report to a waiting WAIT_STABLE of an arm (R37, R50). -/
def stabilityReport (s : State) (a : Arm) : State :=
  match (s.arm a).exec with
  | none => s
  | some b =>
    if (s.arm a).phase = .waitingStable ∧ s.stableNow b.slot = true then (s.completeDone a .ok).settle else s

/-! ## CLEAR_FAULT, REOPEN_LANE, SET_ZONE and the Probe Manager -/

/-- CLEAR_FAULT's tests in their order (R67). -/
def clearFaultCheck (s : State) (c : SlotCopy) : Except FaultCode Arm :=
  match arm? (c.nat 4) with
  | none => .error .badField
  | some a =>
    if s.unit.stop = .active then .error .lineActive
    else if (s.arm a).state ≠ .fault then .error .badField
    else .ok a

/-- CLEAR_FAULT's effect (R67). -/
def clearFault (s : State) (c : SlotCopy) : State :=
  match s.clearFaultCheck c with
  | .error f => s.svcAnswer (.refused f)
  | .ok a => ((s.modArm a fun r => { r with state := r.restState }).svcAnswer (.done [])).settle

/-- REOPEN_LANE's tests in their order (R161). -/
def reopenCheck (s : State) (c : SlotCopy) : Except FaultCode Arm :=
  match arm? (c.nat 4) with
  | none => .error .badField
  | some a =>
    let r := s.arm a
    if (s.lanes.get a).count ≤ c.nat 5 then .error .badField
    else if r.state = .fault ∨ r.exec ≠ none ∨ r.committed ≠ none ∨ r.queue ≠ [] then .error .wrongState
    else .ok a

/-- REOPEN_LANE's effect (R161); the fill follows the completion (log 28). -/
def reopenLane (s : State) (c : SlotCopy) : State :=
  match s.reopenCheck c with
  | .error f => s.svcAnswer (.refused f)
  | .ok a =>
    ({ s with lanes := s.lanes.set a { s.lanes.get a with cursor := c.nat 5, paused := false } }.svcAnswer
      (.done [])).fill a

/-- SET_ZONE's effect (R79). -/
def setZone (s : State) (c : SlotCopy) : State :=
  match s.zoneRequested c with
  | none => s.svcAnswer (.refused .badField)
  | some (a, b) =>
    if s.zoneQuiet a b then
      { s with zone := { s.zone with boxes := s.zone.boxes.set a b } }.svcAnswer (.done [])
    else s.svcAnswer (.refused .zoneBusy)

/-- SET_PROBE's effect (R123, R124). -/
def setProbe (s : State) (c : SlotCopy) : State :=
  match s.probeRequest c with
  | none => s.svcAnswer (.refused .badField)
  | some q =>
    match s.probeRefusal q with
    | some f => s.svcAnswer (.refused f)
    | none => { s with tables := s.tables.applyProbe q }.svcAnswer (.done [])

/-- READ_PROBE's effect (R125). -/
def readProbe (s : State) (c : SlotCopy) : State :=
  match index? 24 (c.nat 4) with
  | none => s.svcAnswer (.refused .badField)
  | some i => s.svcAnswer (.done s.tables.probes[i].words)

/-- SET_PORT's effect (R127). -/
def setPort (s : State) (c : SlotCopy) : State :=
  match portRequest c with
  | none => s.svcAnswer (.refused .badField)
  | some q =>
    if s.portInUse q.index then s.svcAnswer (.refused .probeInUse)
    else { s with tables := s.tables.applyPort q }.svcAnswer (.done [])

end State

/-! ## The commands -/

/-- Run a request's effect where the engine executes a request of its kind (log 4). -/
def serveKind (s : State) (k : SvcKind) (f : State → SlotCopy → State) : State :=
  match s.svcNow k with
  | some c => f s c
  | none => s

/-- STAGE_SET (R17). -/
def execStageSet (s : State) : Host.Outcome State Fault Refusal := .next (serveKind s .stageSet State.stageSet)

/-- SWAP_SET (R18). -/
def execSwapSet (s : State) : Host.Outcome State Fault Refusal :=
  .next (serveKind s .swapSet fun s _ => s.swapSet)

/-- SET_SENSOR (R22). -/
def execSetSensor (s : State) : Host.Outcome State Fault Refusal := .next (serveKind s .setSensor State.thermalRequest)

/-- SET_GROUP (R35). -/
def execSetGroup (s : State) : Host.Outcome State Fault Refusal := .next (serveKind s .setGroup State.thermalRequest)

/-- SET_ZONE (R79). -/
def execSetZone (s : State) : Host.Outcome State Fault Refusal := .next (serveKind s .setZone State.setZone)

/-- SET_PROBE (R123). -/
def execSetProbe (s : State) : Host.Outcome State Fault Refusal := .next (serveKind s .setProbe State.setProbe)

/-- READ_PROBE (R125). -/
def execReadProbe (s : State) : Host.Outcome State Fault Refusal := .next (serveKind s .readProbe State.readProbe)

/-- SET_PORT (R127). -/
def execSetPort (s : State) : Host.Outcome State Fault Refusal := .next (serveKind s .setPort State.setPort)

/-- CLEAR_FAULT (R67). -/
def execClearFault (s : State) : Host.Outcome State Fault Refusal := .next (serveKind s .clearFault State.clearFault)

/-- REOPEN_LANE (R161). -/
def execReopenLane (s : State) : Host.Outcome State Fault Refusal := .next (serveKind s .reopenLane State.reopenLane)

/-- SERVICE_BAD_KIND (R160): the slot's kind is not a service kind. -/
def execServiceBadKind (s : State) : Host.Outcome State Fault Refusal :=
  .next (match s.svc with
    | some q => if q.slot.svcKind = none then s.svcAnswer (.refused .badKind) else s
    | none => s)

/-- LANE_EXAMINE (R158): the lane leaves the post set; a motion lane is filled, the service engine looks. -/
def execLaneExamine (lane : Lane) (s : State) : Host.Outcome State Fault Refusal :=
  .next (match s.device, lane with
    | .run, .motionA =>
      if s.unit.posts.motionA then
        { s with unit := { s.unit with posts := { s.unit.posts with motionA := false } } }.fill .A
      else s
    | .run, .motionB =>
      if s.unit.posts.motionB then
        { s with unit := { s.unit with posts := { s.unit.posts with motionB := false } } }.fill .B
      else s
    | .run, .service =>
      if s.unit.posts.service then
        { s with unit := { s.unit with posts := { s.unit.posts with service := false } } }.svcLook
      else s
    | _, _ => s)

/-- SCAN_BEGIN (R24): the scan timer runs, and no scan is in progress. -/
def execScanBegin (s : State) : Host.Outcome State Fault Refusal :=
  .next (if s.therm.scanTimer ≠ none ∧ s.therm.scan = none then s.scanBegin else s)

/-- SAMPLE_COMPLETE (R25). -/
def execSampleComplete (code : BitVec 12) (s : State) : Host.Outcome State Fault Refusal :=
  .next (if s.therm.scan = none then s else s.sampleDone code.toNat)

/-- HISTORY_EXPIRY (R36, R37): the rings, then the report to each arm. -/
def execHistoryExpiry (first : Arm) (s : State) : Host.Outcome State Fault Refusal :=
  .next (if s.therm.historyTimer = none then s
    else ({ s with therm := s.therm.recorded }.stabilityReport first).stabilityReport first.other)

end Sys2Proof.Machine
end

