-- ==== Sys2Proof/Machine/Motion.lean ====
section
/-! DEFINITION. The block start (03, R45 to R47): the head of a Block Queue becomes the executing block and runs the block
start sequence. One command per motion kind. -/

namespace Sys2Proof.Machine

namespace State

/-- A block start is attempted: RUN, no executing and no committed block, IDLE or UNREFERENCED (R45). The head, where
there is one. -/
def startable (s : State) (a : Arm) : Option SlotCopy :=
  let r := s.arm a
  if s.device = .run ∧ r.exec = none ∧ r.committed = none ∧ (r.state = .idle ∨ r.state = .unreferenced) then r.queue.head?
  else none

/-- The head leaves the queue and becomes the executing block; a fill follows (R42, R45, log 13). -/
def takeHead (s : State) (a : Arm) (c : SlotCopy) : State :=
  (s.modArm a fun r =>
    { r with queue := r.queue.tail, exec := some (Block.fresh c), state := .active, phase := .startCheck }).fill a

/-- Step 3: the swap check (R19, R47). -/
def swapCheck (s : State) (a : Arm) : State := if s.corr.swapPending then s.setPhase a .waitSwap else s.passSwap a

/-- Steps 1 to 3 of the block start sequence, and on from there as far as no wait stops it (R45 to R47). -/
def startSequence (s : State) (a : Arm) (c : SlotCopy) : State :=
  match s.stepOne a c with
  | .error f => s.blockFault a f
  | .ok b =>
    match s.stepTwo a b with
    | .refuse f => s.blockFault a f
    | .already b2 =>
      (s.modExec a fun _ => { b2 with flags := { b2.flags with alreadyMounted := true } }).completeDone a .ok
    | .go b2 => (s.modExec a fun _ => b2).swapCheck a

/-- The block start of the head (R45). -/
def startHead (s : State) (a : Arm) (c : SlotCopy) : State := ((s.takeHead a c).startSequence a c).settle

/-- The block start of an arm whose head is of a kind (`none`: of no motion kind); otherwise the command's event does
not occur (log 1, 4). -/
def startKind (s : State) (a : Arm) (k : Option Kind) : State :=
  match s.startable a with
  | some c => if c.kind = k then s.startHead a c else s
  | none => s

end State

/-- MOVE (R48). -/
def execMove (a : Arm) (s : State) : Host.Outcome State Fault Refusal := .next (s.startKind a (some .move))

/-- DWELL (R49). -/
def execDwell (a : Arm) (s : State) : Host.Outcome State Fault Refusal := .next (s.startKind a (some .dwell))

/-- WAIT_STABLE (R50). -/
def execWaitStable (a : Arm) (s : State) : Host.Outcome State Fault Refusal := .next (s.startKind a (some .waitStable))

/-- SET_FRAME (R6). -/
def execSetFrame (a : Arm) (s : State) : Host.Outcome State Fault Refusal := .next (s.startKind a (some .setFrame))

/-- SET_LATCH (R88). -/
def execSetLatch (a : Arm) (s : State) : Host.Outcome State Fault Refusal := .next (s.startKind a (some .setLatch))

/-- HOME (R91). -/
def execHome (a : Arm) (s : State) : Host.Outcome State Fault Refusal := .next (s.startKind a (some .home))

/-- PROBE_POINT (R101). -/
def execProbePoint (a : Arm) (s : State) : Host.Outcome State Fault Refusal := .next (s.startKind a (some .probePoint))

/-- QUALIFY (R113). -/
def execQualify (a : Arm) (s : State) : Host.Outcome State Fault Refusal := .next (s.startKind a (some .qualify))

/-- IDENTIFY (R137). -/
def execIdentify (a : Arm) (s : State) : Host.Outcome State Fault Refusal := .next (s.startKind a (some .identify))

/-- CHANGE_PROBE (R139). -/
def execChangeProbe (a : Arm) (s : State) : Host.Outcome State Fault Refusal := .next (s.startKind a (some .changeProbe))

/-- MOTION_BAD_KIND (R45): the head's kind is none of the ten. -/
def execMotionBadKind (a : Arm) (s : State) : Host.Outcome State Fault Refusal := .next (s.startKind a none)

end Sys2Proof.Machine
end

