-- ==== Sys2Proof/Machine/StartRecord.lean ====
section
/-! DEFINITION. The Start Record (10, R168; 12.7): its fields, the test of each field index, and the settings a successful
START takes from it. -/

namespace Sys2Proof.Machine

/-- The working copy of the Start Record (R167). -/
abbrev StartCopy := List Word

namespace StartCopy

/-- A word as a natural number. -/
def nat (r : StartCopy) (i : Nat) : Nat := (r.getD i 0).toNat

/-- A word as a signed integer. -/
def int (r : StartCopy) (i : Nat) : Int := (r.getD i 0).toInt

/-- The first word of axis `n` (12.7). -/
def axisWord (n : Nat) : Nat := 16 + 5 * n

/-- The first word of an arm (12.7). -/
def armWord : Arm → Nat
  | .A => 48
  | .B => 64

/-- The number of an arm's X axis (00, Names). -/
def firstAxis : Arm → Nat
  | .A => 0
  | .B => 3

/-- One axis (12.7). -/
def axis (r : StartCopy) (n : Nat) : AxisSet :=
  ⟨r.int (axisWord n), r.int (axisWord n + 1), r.int (axisWord n + 2), r.nat (axisWord n + 3) == 1, r.int (axisWord n + 4)⟩

/-- The three axes of an arm. -/
def axesOf (r : StartCopy) (a : Arm) : Tri AxisSet :=
  ⟨r.axis (firstAxis a), r.axis (firstAxis a + 1), r.axis (firstAxis a + 2)⟩

/-- The zone box of an arm (12.7). -/
def zoneBox (r : StartCopy) (a : Arm) : Box :=
  ⟨r.int (armWord a + 5), r.int (armWord a + 6), r.int (armWord a + 7), r.int (armWord a + 8)⟩

/-- The word of a motion lane's default frame (12.7). -/
def frameWord : Arm → Nat
  | .A => 80
  | .B => 81

/-- One arm's settings (12.7). -/
def armSet (r : StartCopy) (a : Arm) : ArmSet where
  axes := r.axesOf a
  maxFeed := r.nat (armWord a)
  acc := r.nat (armWord a + 1)
  stopAcc := r.nat (armWord a + 2)
  homeFeed := r.nat (armWord a + 3)
  searchDist := r.nat (armWord a + 4)
  seatTimeout := r.nat (armWord a + 9)
  replyTimeout := r.nat (armWord a + 10)
  frame := if r.nat (frameWord a) = 2 then .part else .machine

/-- A lane with its cursor at 0 (R155, 12.7). -/
def lane (r : StartCopy) (n : Nat) : LaneRec := ⟨r.nat (3 + 2 * n), r.nat (4 + 2 * n), 0, false⟩

/-- The initial coefficient set (12.7). -/
def coeffs (r : StartCopy) : CoeffSet := coeffSet r.int 86

/-- Every setting that no other record holds (R170). -/
def settings (r : StartCopy) : Settings := ⟨r.nat 2, ⟨r.armSet .A, r.armSet .B⟩, r.nat 84⟩

/-! ## The tests by index (R168) -/

/-- A lane's base and slot count (indices 3 to 5). -/
def laneOk (r : StartCopy) (n : Nat) : Bool :=
  let l := r.lane n
  decide (2 ≤ l.count) && decide (l.count ≤ 512) && decide (2048 ≤ l.base) && decide (l.base + 32 * l.count ≤ 65536)

/-- Two lanes share no word. -/
def lanesApart (l m : LaneRec) : Bool := decide (l.base + 32 * l.count ≤ m.base) || decide (m.base + 32 * m.count ≤ l.base)

/-- No word belongs to two lanes (index 6). -/
def lanesOk (r : StartCopy) : Bool :=
  lanesApart (r.lane 0) (r.lane 1) && lanesApart (r.lane 0) (r.lane 2) && lanesApart (r.lane 1) (r.lane 2)

/-- The tests of axis `n` (indices 7 + 4n to 10 + 4n). -/
def axisTest (r : StartCopy) (n : Nat) : Nat → Bool
  | 0 => decide ((r.axis n).lo < (r.axis n).hi) && decide (-536870912 ≤ (r.axis n).lo) && decide ((r.axis n).hi ≤ 536870912)
  | 1 => (r.axis n).inside (r.axis n).reference
  | 2 => decide (r.nat (axisWord n + 3) ≤ 1)
  | 3 => decide (1 ≤ (r.axis n).following) && decide ((r.axis n).following ≤ 536870912)
  | _ => true

/-- The tests of an arm (indices 31 to 39 for A, 40 to 48 for B). -/
def armTest (r : StartCopy) (a : Arm) : Nat → Bool
  | 0 => decide (1 ≤ r.nat (armWord a)) && decide (r.nat (armWord a) ≤ 2147483647)
  | 1 => decide (1 ≤ r.nat (armWord a + 1)) && decide (r.nat (armWord a + 1) ≤ 2147483647)
  | 2 => decide (r.nat (armWord a + 1) ≤ r.nat (armWord a + 2)) && decide (r.nat (armWord a + 2) ≤ 2147483647)
  | 3 => decide (1 ≤ perTickAcc (r.nat 2) (r.nat (armWord a + 1)))
  | 4 => decide (1 ≤ r.nat (armWord a + 3)) && decide (r.nat (armWord a + 3) ≤ r.nat (armWord a))
  | 5 => decide (1 ≤ r.nat (armWord a + 4)) && decide (r.nat (armWord a + 4) ≤ 536870912)
  | 6 => (r.zoneBox a).fits (r.axesOf a)
  | 7 => decide (50 ≤ r.nat (armWord a + 9)) && decide (r.nat (armWord a + 9) ≤ 2000)
  | 8 => decide (1 ≤ r.nat (armWord a + 10)) && decide (r.nat (armWord a + 10) ≤ 255)
  | _ => true

/-- The tests of indices 49 to 54. -/
def commonTest (r : StartCopy) : Nat → Bool
  | 49 => r.nat 80 == 1 || r.nat 80 == 2
  | 50 => r.nat 81 == 1 || r.nat 81 == 2
  | 51 => decide (100 ≤ r.nat 82) && decide (r.nat 82 ≤ 10000)
  | 52 => decide (1 ≤ r.nat 83) && decide (r.nat 83 ≤ 600)
  | 53 => decide (10 ≤ r.nat 84) && decide (r.nat 84 ≤ 1000)
  | 54 => decide (r.nat 85 ≤ 65535)
  | _ => true

/-- The test of one field index (R168). -/
def test (r : StartCopy) (i : Nat) : Bool :=
  if i = 1 then r.nat 1 == 1
  else if i = 2 then decide (100 ≤ r.nat 2) && decide (r.nat 2 ≤ 2000)
  else if i = 3 then r.laneOk 0
  else if i = 4 then r.laneOk 1
  else if i = 5 then r.laneOk 2
  else if i = 6 then r.lanesOk
  else if i ≤ 30 then r.axisTest ((i - 7) / 4) ((i - 7) % 4)
  else if i ≤ 39 then r.armTest .A (i - 31)
  else if i ≤ 48 then r.armTest .B (i - 40)
  else if i ≤ 54 then r.commonTest i
  else coeffOk (r.int (86 + (i - 55)))

/-- The first failing index from 1 to 61, if any (R168). -/
def firstFailure (r : StartCopy) : Option Nat := (List.range' 1 61).find? fun i => !r.test i

end StartCopy

end Sys2Proof.Machine
end

