-- ==== Sys2Proof/Machine/Page.lean ====
section
/-! DEFINITION. The Condition Page (09, R164, R165; 12.8). -/

namespace Sys2Proof.Machine

/-- The codes of the arm states (12.8). -/
def ArmState.code : ArmState → Nat
  | .unreferenced => 0
  | .idle => 1
  | .active => 2
  | .held => 3
  | .stopping => 4
  | .fault => 5

/-- The phase codes (12.8). -/
def Phase.code : Phase → Nat
  | .none => 0
  | .startCheck => 1
  | .waitSwap => 2
  | .waitZone => 3
  | .moving => 4
  | .dwelling => 5
  | .waitingStable => 6
  | .approach => 7
  | .search => 8
  | .touchStop => 9
  | .retract => 10
  | .homeSearch _ => 11
  | .homeStop _ => 12
  | .limitReturn => 13
  | .touch _ _ => 14
  | .transit => 15
  | .changing _ _ => 16
  | .identifying => 17

/-- The phase detail (12.8); LIMIT_RETURN's is a free value (log 26), that of a phase to which 12.8 gives none is 0 (DESIGN
CHOICE, log 45). -/
def Phase.detail : Phase → Nat
  | .homeSearch x => x.code
  | .homeStop x => x.code
  | .limitReturn => Config.limitReturnDetail.toNat
  | .touch k _ => k
  | .changing c _ => c.code
  | _ => 0

/-- The half reported with a change phase (12.8), and 0 with any other (DESIGN CHOICE, log 45). -/
def Phase.halfBit : Phase → Nat
  | .changing _ h => h.code
  | _ => 0

/-- The code of HOLDING (12.8). -/
def holdingCode : Nat := 18

/-- The state codes of a channel (12.8). -/
def ChanState.code : ChanState → Nat
  | .off => 0
  | .valid => 1
  | .suspect => 2
  | .lost => 3

/-- The phase that the page reports where the arm is not HOLDING (R41): in HELD mid-block that in which the hold began. -/
def ArmRec.shownPhase (r : ArmRec) : Phase := if r.state = .held then r.holdPhase.getD r.phase else r.phase

/-- The first word of an arm's entry: state, phase, detail, half (12.8). In HOLDING, and in a STOPPING that began in it,
the phase is HOLDING (R41, log 35), with detail and half 0 (log 33). The bits that 12.8 does not name are 0 (log 45). -/
def ArmRec.standWord (r : ArmRec) : Word :=
  if r.holding then natWord (r.state.code + holdingCode * 256)
  else
    let p := r.shownPhase
    natWord (r.state.code + p.code * 256 + p.detail * 65536 + p.halfBit * 16777216)

/-- The tag of the executing block, or 0 (R165). -/
def ArmRec.execTag (r : ArmRec) : Nat :=
  match r.exec with
  | some b => b.slot.tag
  | none => 0

namespace State

/-- Word +3 of an arm's entry (12.8); the bits it does not name are 0 (log 45). -/
def mountWord (s : State) (a : Arm) : Word :=
  let r := s.arm a
  natWord (r.mounted.code + orNoArm s.zone.holder * 256 + bitAt r.referenced 12 + bitAt r.axes.x.referenced 13 +
    bitAt r.axes.y.referenced 14 + bitAt r.axes.z.referenced 15 + faultCodeOf r.lastFault * 65536)

/-- The part-frame position and its mark, absent without a verified mounted probe (R10, R165). -/
def partWords (s : State) (a : Arm) : List Word :=
  match (s.chain a).toPart (s.counts a) with
  | some v => vecWords v ++ [1]
  | none => [0, 0, 0, 0]

/-- An arm's entry, gathered at one moment (R165, 12.8); the bits it does not name are 0 (log 45). -/
def armEntry (s : State) (a : Arm) : List Word :=
  let r := s.arm a
  let l := s.lanes.get a
  [r.standWord, natWord (r.execTag + r.queue.length * 65536 + bitAt l.paused 20), natWord l.cursor, s.mountWord a] ++
    vecWords (r.axes.map AxisPort.setpoint) ++ vecWords (s.counts a) ++ vecWords ((s.chain a).toMachine (s.counts a)) ++
    s.partWords a

/-- The device words 513 to 515 (12.8). The bits of a page word that 12.8 does not name are 0 here and below (DESIGN CHOICE,
log 45), and so are bits 16 to 24 of word 513 while the service engine is IDLE, for which it gives no value (DESIGN CHOICE,
log 50). -/
def deviceWords (s : State) : List Word :=
  let slot := match s.svc with
    | some q => bitAt true 9 + q.slot.index * 65536
    | none => 0
  [natWord (bitAt s.corr.swapPending 8 + slot), s.tickNo, natWord s.svcLane.cursor]

/-- A group's word (12.8); the bits it does not name are 0 (log 45). -/
def groupWord (g : GroupPub) : Word := natWord (low16 g.temp + g.state.code * 65536)

/-- A channel's word (12.8); the bits it does not name are 0 (log 45). -/
def chanWord (c : ChanPub) : Word := natWord (low16 c.value + c.state.code * 65536)

/-- Consecutive words with their offsets. -/
def placed (base : Nat) : List Word → List (Nat × Word)
  | [] => []
  | w :: ws => (base, w) :: placed (base + 1) ws

/-- The contents of a refresh in the order the model writes them (R165, 12.8, log 16). -/
def pageContents (s : State) : List (Nat × Word) :=
  placed 513 s.deviceWords ++ placed 520 (s.armEntry .A) ++ placed 552 (s.armEntry .B) ++
    placed 600 (s.therm.snap.groups.toList.map groupWord) ++ placed 616 (s.therm.snap.chans.toList.map chanWord)

/-- Write words at their offsets. -/
def writePlaced (m : Shm) : List (Nat × Word) → Shm
  | [] => m
  | (i, w) :: rest => writePlaced (m.write i w) rest

/-- The next odd page count above a count, modulo 2^32 (R164). -/
def nextOdd (w : Word) : Word := if w.getLsbD 0 then w + 2 else w + 1

/-- A refresh written whole: the odd count, the contents, the even count; none is due any more (R164, R165). -/
def refresh (s : State) : State :=
  let odd := nextOdd (s.shm.get 512)
  { s with
    shm := (writePlaced (s.shm.write 512 odd) s.pageContents).write 512 (odd + 1)
    refreshDue := false }

/-- A refresh abandoned by a reset after `n` of its content words: the odd count stands (R164). -/
def refreshCut (s : State) (n : Nat) : State :=
  { s with shm := writePlaced (s.shm.write 512 (nextOdd (s.shm.get 512))) (s.pageContents.take n) }

end State

/-- REFRESH_TIMER_EXPIRY (R164): the timer restarts, and the refresh is written (log 17). -/
def execRefreshTimerExpiry (s : State) : Host.Outcome State Fault Refusal :=
  .next (if s.device = .run ∧ s.refreshTimer ≠ none then s.refresh else s)

/-- PENDING_REFRESH (R164): a refresh that is due is written. -/
def execPendingRefresh (s : State) : Host.Outcome State Fault Refusal :=
  .next (if s.device = .run ∧ s.refreshDue = true then s.refresh else s)

end Sys2Proof.Machine
end

