-- ==== Sys2Proof/Machine/Device.lean ====
section
/-! DEFINITION. The device (10): START, the end of its check, the resets; the register window (09, R153, R162, R163; 12.9),
Shared Memory writes (R154), holds and aborts (03, R60 to R62), and the stop line (11, R173 to R175). -/

namespace Sys2Proof.Machine

/-! ## Resets (R171) -/

namespace State

/-- The line's level as the stop state (R173). -/
def stopFromLine (s : State) : StopState := if s.pins.stopLow then .active else .released

/-- Every block in its reset state; Shared Memory as given. The lines, the waiting commands, the counter of free values,
the messages sent and the word last read are not the part's to reset. The tick number is 0 (DESIGN CHOICE, log 7). -/
def resetWith (s : State) (m : Shm) : State :=
  { State.reset with
    shm := m
    unit := { State.reset.unit with stop := s.stopFromLine, messages := s.unit.messages, readData := s.unit.readData }
    arms := ⟨ArmRec.reset s.pins.hseatLow.a, ArmRec.reset s.pins.hseatLow.b⟩
    pins := s.pins
    free := s.free
    pending := s.pending }

/-- A refresh may be in progress (R164): in RUN, for the refresh that is due or for an expiry of the running timer. -/
def mayRefresh (s : State) : Bool := s.device == .run && (s.refreshDue || s.refreshTimer.isSome)

/-- A host reset keeps Shared Memory, with a refresh that it abandons after `cut` content words (R164, R171, log 16). -/
def hostReset (s : State) (cut : Option Nat) : State :=
  match cut with
  | some n => if s.mayRefresh then s.resetWith (s.refreshCut n).shm else s.resetWith s.shm
  | none => s.resetWith s.shm

end State

/-- POWER_ON_RESET (R171). -/
def execPowerOnReset (s : State) : Host.Outcome State Fault Refusal := .next (s.resetWith [])

/-- RESET (R171). -/
def execReset (cut : Option Nat) (s : State) : Host.Outcome State Fault Refusal := .next (s.hostReset cut)

/-! ## START (R167 to R170, R174) -/

/-- The Start Result word: the outcome code and the field index (12.7); its other bits are written 0 (DESIGN CHOICE,
log 36). -/
def startResult (outcome index : Nat) : Word := natWord (outcome + index * 65536)

/-- START (R167): in STOPPED alone. -/
def execStart (s : State) : Host.Outcome State Fault Refusal :=
  .next (if s.device = .stopped then
      let s1 := s.putWord 0 (startResult 1 0)
      { s1 with device := .checking, copied := s1.shm.readList 0 512 }
    else s)

/-- An Axis Port at a START that succeeds: offset 0, the flag clear, the count of the reading, or the last count where
the drive returns none (R89, R170). -/
def AxisPort.started (p : AxisPort) (reading : Reading) : AxisPort :=
  { p with offset := 0, referenced := false, count := reading.getD p.count }

/-- An arm at a START that succeeds (R40, R128, R129, R170): the hold level is kept, the commanded position is taken from
the scale counts, the mounted value from the debounced level, which is the line's. -/
def ArmRec.started (r : ArmRec) (seatLow : Bool) (readings : Tri Reading) : ArmRec :=
  let ports : Tri AxisPort := ⟨r.axes.x.started readings.x, r.axes.y.started readings.y, r.axes.z.started readings.z⟩
  { ArmRec.reset seatLow with
    state := if r.holdLevel then .held else .unreferenced
    holdLevel := r.holdLevel
    cmd := ports.map AxisPort.count
    mounted := if seatLow then .unverified else .none
    axes := ports }

namespace State

/-- The run-time state of a START that succeeds, before the Start Result and the stop line (R170). -/
def runTime (s : State) (r : StartCopy) (readings : Duo (Tri Reading)) : State :=
  { s with
    tickNo := 0
    settings := r.settings
    unit := { s.unit with posts := ⟨false, false, false⟩, stop := s.stopFromLine, releaseTimer := false }
    lanes := ⟨r.lane 0, r.lane 1⟩
    svcLane := r.lane 2
    svc := none
    refreshTimer := some (r.nat 84)
    corr := ⟨r.coeffs, r.coeffs, false⟩
    therm := { Thermal.reset with scanTimer := some (r.nat 82), historyTimer := some (r.nat 83) }
    latches := Vector.replicate 16 LatchUnit.reset
    zone := { Zone.reset with boxes := ⟨r.zoneBox .A, r.zoneBox .B⟩, limit := r.nat 85 }
    tables := .reset
    arms := ⟨s.arms.a.started s.pins.hseatLow.a readings.a, s.arms.b.started s.pins.hseatLow.b readings.b⟩ }

/-- RUN is entered: the STARTED notice, and the stop line where it is active (R169, R170, R174). -/
def enterRun (s : State) : State :=
  let s1 := { s with device := .run, refreshDue := true }.setNotice .started
  if s1.unit.stop = .active then ((s1.setNotice .stopLine).stopLineArm .A).stopLineArm .B else s1

/-- The check ends at a failing index (R169). -/
def startFailed (s : State) (index : Nat) : State :=
  { s.putWord 0 (startResult 3 index) with device := .stopped }.setNotice .started

/-- The check ends after index 61 (R169). -/
def startPassed (s : State) (readings : Duo (Tri Reading)) : State :=
  ((s.runTime s.copied readings).putWord 0 (startResult 2 0)).enterRun

end State

/-- START_VALIDATION_END (R169). -/
def execStartValidationEnd (readings : Duo (Tri Reading)) (s : State) : Host.Outcome State Fault Refusal :=
  .next (if s.device = .checking then
      match StartCopy.firstFailure s.copied with
      | some i => s.startFailed i
      | none => s.startPassed readings
    else s)

/-! ## Hold and abort (R60 to R62) -/

namespace State

/-- An arm in RUN meets its hold level becoming set (R60); what it does at rest is immediate work. -/
def holdArm (s : State) (a : Arm) : State :=
  let s1 := s.modArm a fun r => { r with holdLevel := true }
  match (s.arm a).state with
  | .idle => s1.modArm a fun r => { r with state := .held }
  | .unreferenced => s1.modArm a fun r => { r with state := .held }
  | .active =>
    if (s.arm a).moving = true ∧ (s.arm a).phase.brakes = false then
      (s1.modArm a fun r => { r with holding := true, holdPhase := some r.phase }).settle
    else s1.settle
  | _ => s1

/-- An arm in RUN meets its hold level becoming clear (R61). -/
def releaseArm (s : State) (a : Arm) : State :=
  let s1 := s.modArm a fun r => { r with holdLevel := false, holdPhase := none }
  match (s.arm a).state, (s.arm a).exec with
  | .held, none => s1.modArm a fun r => { r with state := r.restState }
  | .held, some _ => ((s1.modArm a fun r => { r with state := .active }).resume a).settle
  | .active, _ => s1.modArm a fun r => { r with holding := false }
  | _, _ => s1

end State

/-- HOLD_SET (R60). -/
def execHoldSet (a : Arm) (s : State) : Host.Outcome State Fault Refusal :=
  .next (if (s.arm a).holdLevel then s
    else if s.device = .run then s.holdArm a
    else s.modArm a fun r => { r with holdLevel := true })

/-- HOLD_CLEAR (R61). -/
def execHoldClear (a : Arm) (s : State) : Host.Outcome State Fault Refusal :=
  .next (if (s.arm a).holdLevel = false then s
    else if s.device = .run then s.releaseArm a
    else s.modArm a fun r => { r with holdLevel := false })

/-- ABORT (R62): outside RUN it has no effect (R166). -/
def execAbort (a : Arm) (s : State) : Host.Outcome State Fault Refusal :=
  .next (if s.device = .run then (s.abortArm a).settle else s)

/-! ## The register window (R153, R158, R162, R163) -/

/-- POST (R158): a value above 2 is ignored. -/
def execPost (value : Word) (s : State) : Host.Outcome State Fault Refusal :=
  let p := s.unit.posts
  let set (q : PostSet) : State := { s with unit := { s.unit with posts := q } }
  .next (if value = 0 then set { p with motionA := true }
    else if value = 1 then set { p with motionB := true }
    else if value = 2 then set { p with service := true }
    else s)

/-- NOTICE_READ (R162): the set is returned and emptied; bits 10 to 31 read 0 (DESIGN CHOICE, log 45). -/
def execNoticeRead (s : State) : Host.Outcome State Fault Refusal :=
  .next { s with unit := { s.unit.withNotices 0 s.unit.mask with readData := s.unit.notices.setWidth 32 } }

/-- NOTICE_MASK_WRITE (R163): bits above 9 are not kept. -/
def execNoticeMaskWrite (value : Word) (s : State) : Host.Outcome State Fault Refusal :=
  .next { s with unit := s.unit.withNotices s.unit.notices (value.setWidth 10) }

/-- REGISTER_WRITE_IGNORED (R153): nothing changes, whatever the offset and the value. -/
def execRegisterWriteIgnored (_offset : Nat) (_value : Word) (s : State) : Host.Outcome State Fault Refusal := .next s

/-- SHARED_MEMORY_WRITE (R154): a word offset outside the window does not exist. -/
def execSharedMemoryWrite (address : Nat) (value : Word) (s : State) : Host.Outcome State Fault Refusal :=
  if addressOk address then .next (s.putWord address value) else .fault (.noSuchWord address)

/-- IDENT (R172, 12.9). -/
def identWord : Word := 0x0A726002

/-- The device state codes (12.9). -/
def Device.code : Device → Nat
  | .stopped => 0
  | .checking => 1
  | .run => 2

/-- STATUS, formed at the read (R153, R172, 12.9); the bits 12.9 does not name read 0 (DESIGN CHOICE, log 45). -/
def State.statusWord (s : State) : Word :=
  natWord (s.device.code + bitAt s.unit.posts.motionA 4 + bitAt s.unit.posts.motionB 5 + bitAt s.unit.posts.service 6 +
    bitAt (s.unit.stop == .active) 8 + s.arms.a.state.code * 65536 + s.arms.b.state.code * 1048576)

/-- CONTROL as it reads: the hold levels alone (R153); the bits 12.9 does not name read 0 (DESIGN CHOICE, log 45). -/
def State.controlWord (s : State) : Word := natWord (bitAt s.arms.a.holdLevel 2 + bitAt s.arms.b.holdLevel 3)

/-- What a host read of the register window returns (R153); the read of NOTICE also has the effect of NOTICE_READ. -/
def State.readRegister (s : State) (offset : Nat) : Word :=
  if offset = 0x00 then identWord
  else if offset = 0x04 then s.controlWord
  else if offset = 0x08 then s.statusWord
  else if offset = 0x10 then s.unit.notices.setWidth 32
  else if offset = 0x14 then s.unit.mask.setWidth 32
  else 0

/-- The commands of one write to CONTROL (R153, R171): with RESET nothing else is acted on; otherwise the hold levels, a
START, the aborts, in this order (log 27). -/
def controlCommands (value : Word) : List Instr :=
  if value.getLsbD 1 then [.reset none]
  else
    [if value.getLsbD 2 then .holdSet .A else .holdClear .A, if value.getLsbD 3 then .holdSet .B else .holdClear .B] ++
      (if value.getLsbD 0 then [.start] else []) ++ (if value.getLsbD 4 then [.abort .A] else []) ++
      (if value.getLsbD 5 then [.abort .B] else [])

/-- The commands of one host write to the register window (R153). -/
def writeCommands (offset : Nat) (value : Word) : List Instr :=
  if offset = 0x04 then controlCommands value
  else if offset = 0x0C then [.post value]
  else if offset = 0x14 then [.noticeMaskWrite value]
  else [.registerWriteIgnored offset value]

/-! ## The stop line (R173 to R175) -/

namespace State

/-- The level of STOP_IN after a change. -/
def setStop (s : State) (low : Bool) : State := { s with pins := { s.pins with stopLow := low } }

/-- Change the stop state and the release timer. -/
def setStopState (s : State) (st : StopState) (timer : Bool) : State :=
  { s with unit := { s.unit with stop := st, releaseTimer := timer } }

/-- The stop state becomes ACTIVE: in RUN the notice is set and both arms act on it, one after the other (R63, R173, R174). The
swap barrier is tested after each (R20): where the first arm's end leaves both arms not executing, a pending swap takes effect
and releases the other arm from WAIT_SWAP before that arm acts on the line. -/
def stopActivated (s : State) (first : Arm) : State :=
  let s1 := s.setStopState .active false
  if s.device = .run then
    ((((s1.setNotice .stopLine).stopLineArm first).swapBetween).stopLineArm first.other).settle
  else s1

end State

/-- STOP_IN_FALL (R173): a running release timer is cancelled; from RELEASED the stop state becomes ACTIVE. -/
def execStopInFall (first : Arm) (s : State) : Host.Outcome State Fault Refusal :=
  .next (if s.pins.stopLow then s
    else if s.unit.stop = .released then (s.setStop true).stopActivated first
    else (s.setStop true).setStopState .active false)

/-- STOP_IN_RISE (R173): with the stop state ACTIVE the release timer starts. -/
def execStopInRise (s : State) : Host.Outcome State Fault Refusal :=
  .next (if s.pins.stopLow = false then s
    else if s.unit.stop = .active then (s.setStop false).setStopState .active true
    else s.setStop false)

/-- STOP_RELEASE (R175): the release timer expires; no arm is changed. -/
def execStopRelease (s : State) : Host.Outcome State Fault Refusal :=
  .next (if s.unit.releaseTimer then s.setStopState .released false else s)

end Sys2Proof.Machine
end

