-- ==== Sys2Proof/Machine/Dispatch.lean ====
section
/-! DEFINITION. The dispatch: one arm for each command, one direct call of its meaning. -/

namespace Sys2Proof.Machine

def exec (i : Instr) (s : State) : Host.Outcome State Fault Refusal :=
  match i with
  | .powerOnReset => Sys2Proof.Machine.execPowerOnReset s
  | .reset cut => Sys2Proof.Machine.execReset cut s
  | .start => Sys2Proof.Machine.execStart s
  | .startValidationEnd readings => Sys2Proof.Machine.execStartValidationEnd readings s
  | .holdSet arm => Sys2Proof.Machine.execHoldSet arm s
  | .holdClear arm => Sys2Proof.Machine.execHoldClear arm s
  | .abort arm => Sys2Proof.Machine.execAbort arm s
  | .post value => Sys2Proof.Machine.execPost value s
  | .noticeRead => Sys2Proof.Machine.execNoticeRead s
  | .noticeMaskWrite value => Sys2Proof.Machine.execNoticeMaskWrite value s
  | .registerWriteIgnored offset value => Sys2Proof.Machine.execRegisterWriteIgnored offset value s
  | .sharedMemoryWrite address value => Sys2Proof.Machine.execSharedMemoryWrite address value s
  | .laneExamine lane => Sys2Proof.Machine.execLaneExamine lane s
  | .stageSet => Sys2Proof.Machine.execStageSet s
  | .swapSet => Sys2Proof.Machine.execSwapSet s
  | .setSensor => Sys2Proof.Machine.execSetSensor s
  | .setGroup => Sys2Proof.Machine.execSetGroup s
  | .setZone => Sys2Proof.Machine.execSetZone s
  | .setProbe => Sys2Proof.Machine.execSetProbe s
  | .readProbe => Sys2Proof.Machine.execReadProbe s
  | .setPort => Sys2Proof.Machine.execSetPort s
  | .clearFault => Sys2Proof.Machine.execClearFault s
  | .reopenLane => Sys2Proof.Machine.execReopenLane s
  | .serviceBadKind => Sys2Proof.Machine.execServiceBadKind s
  | .move arm => Sys2Proof.Machine.execMove arm s
  | .dwell arm => Sys2Proof.Machine.execDwell arm s
  | .waitStable arm => Sys2Proof.Machine.execWaitStable arm s
  | .setFrame arm => Sys2Proof.Machine.execSetFrame arm s
  | .setLatch arm => Sys2Proof.Machine.execSetLatch arm s
  | .home arm => Sys2Proof.Machine.execHome arm s
  | .probePoint arm => Sys2Proof.Machine.execProbePoint arm s
  | .qualify arm => Sys2Proof.Machine.execQualify arm s
  | .identify arm => Sys2Proof.Machine.execIdentify arm s
  | .changeProbe arm => Sys2Proof.Machine.execChangeProbe arm s
  | .motionBadKind arm => Sys2Proof.Machine.execMotionBadKind arm s
  | .zoneArbiterDecision => Sys2Proof.Machine.execZoneArbiterDecision s
  | .zoneTimeout arm => Sys2Proof.Machine.execZoneTimeout arm s
  | .tick first readings => Sys2Proof.Machine.execTick first readings s
  | .dwellExpiry arm => Sys2Proof.Machine.execDwellExpiry arm s
  | .waitStableTimeout arm => Sys2Proof.Machine.execWaitStableTimeout arm s
  | .trigChange arm active => Sys2Proof.Machine.execTrigChange arm active s
  | .refmChange arm axis active => Sys2Proof.Machine.execRefmChange arm axis active s
  | .extInChange input active => Sys2Proof.Machine.execExtInChange input active s
  | .coverOpenChange arm active => Sys2Proof.Machine.execCoverOpenChange arm active s
  | .coverFault arm => Sys2Proof.Machine.execCoverFault arm s
  | .hseatChange arm low => Sys2Proof.Machine.execHseatChange arm low s
  | .seatDebounceExpiry arm => Sys2Proof.Machine.execSeatDebounceExpiry arm s
  | .seatTimeout arm => Sys2Proof.Machine.execSeatTimeout arm s
  | .wakeEnd arm => Sys2Proof.Machine.execWakeEnd arm s
  | .syncFall arm => Sys2Proof.Machine.execSyncFall arm s
  | .syncRise arm count => Sys2Proof.Machine.execSyncRise arm count s
  | .syncOverflow arm => Sys2Proof.Machine.execSyncOverflow arm s
  | .syncTimeout arm => Sys2Proof.Machine.execSyncTimeout arm s
  | .commandSent arm => Sys2Proof.Machine.execCommandSent arm s
  | .replyTimeout arm => Sys2Proof.Machine.execReplyTimeout arm s
  | .replyByte arm frame => Sys2Proof.Machine.execReplyByte arm frame s
  | .replyGapExpiry arm => Sys2Proof.Machine.execReplyGapExpiry arm s
  | .linkPauseExpiry arm => Sys2Proof.Machine.execLinkPauseExpiry arm s
  | .scanBegin => Sys2Proof.Machine.execScanBegin s
  | .sampleComplete code => Sys2Proof.Machine.execSampleComplete code s
  | .historyExpiry first => Sys2Proof.Machine.execHistoryExpiry first s
  | .refreshTimerExpiry => Sys2Proof.Machine.execRefreshTimerExpiry s
  | .pendingRefresh => Sys2Proof.Machine.execPendingRefresh s
  | .stopInFall first => Sys2Proof.Machine.execStopInFall first s
  | .stopInRise => Sys2Proof.Machine.execStopInRise s
  | .stopRelease => Sys2Proof.Machine.execStopRelease s

end Sys2Proof.Machine
end

