-- ==== Sys2Proof/Safety.lean ====
section
/-! DEFINITION. What the statements speak of: the laws that hold between two steps, and the standings in which a command
has its effect at once. -/

namespace Sys2Proof.Machine

/-! ## Laws -/

/-- A property of both arms. -/
def bothArms (p : Arm → Bool) : Bool := p .A && p .B

/-- A Block Queue holds at most 8 entries (R42). -/
def State.queuesBounded (s : State) : Bool := bothArms fun a => decide ((s.arm a).queue.length ≤ 8)

/-- A unit is IDLE exactly while nothing holds its arming (R82). -/
def LatchUnit.lawful (u : LatchUnit) : Bool := (u.state == .idle) == (u.armedBy == .none)

/-- Every latch unit keeps the law of arming (R82). -/
def State.latchesLawful (s : State) : Bool := s.latches.toList.all LatchUnit.lawful

/-- The arm that holds the grant is the last holder, and an arm waits only while the other arm holds the grant (R73). -/
def State.zoneLawful (s : State) : Bool :=
  bothArms fun a =>
    (s.zone.holder != some a || s.zone.last == some a) && (s.zone.waits.get a == .idle || s.zone.holder == some a.other)

/-- The release timer runs only with the stop state ACTIVE and the line high, and the stop state is RELEASED only with
the line high (R173). -/
def State.stopLineLawful (s : State) : Bool :=
  (!s.unit.releaseTimer || (s.unit.stop == .active && !s.pins.stopLow)) && (s.unit.stop == .active || !s.pins.stopLow)

/-! ## Standings -/

/-- No immediate work is left: every command that can give rise to some does it before it ends. -/
def State.settled (s : State) : Bool := s.immediate.isNone

/-- Neither a swap nor immediate work is waiting. -/
def State.calm (s : State) : Bool := s.settled && !s.corr.swapPending

/-- The arm stands at a block boundary with `c` at the head of its queue: a block start is attempted (R45), no swap is
pending, and the arm is at rest with its hold level clear. -/
def State.boundary (s : State) (a : Arm) (c : SlotCopy) : Bool :=
  let r := s.arm a
  s.calm && s.device == .run && (r.state == .idle || r.state == .unreferenced) && r.exec == none && r.committed == none &&
    r.queue.head? == some c && !r.moving && r.due == none && !r.holdLevel

/-- The block of `c` once steps 1 and 2 have passed, in the frame it resolved to (R3, R45, R46). -/
def State.startedBlock (s : State) (a : Arm) (c : SlotCopy) (f : Frame) : Block :=
  { Block.fresh c with frame := f, passed := true, before := (s.arm a).mounted }

/-- The service engine executes a request of a kind, held by no scan (R160). -/
def State.serving (s : State) (k : SvcKind) (c : SlotCopy) : Bool := s.svcNow k == some c

/-- The other arm does not wait for a grant that the arm holds, so that a release of it leaves the holder FREE (R73). -/
def State.unasked (s : State) (a : Arm) : Bool := !s.holdsGrant a || s.zone.waits.get a.other == .idle

/-- The arm executes a block and stands at rest, neither STOPPING nor in FAULT, and the other arm does not wait for its
grant. -/
def State.restingBlock (s : State) (a : Arm) : Bool :=
  let r := s.arm a
  r.exec.isSome && !r.moving && (r.state == .active || r.state == .held) && s.unasked a

/-- The arm in STOPPING for a cause, still on its segment with its block: its queue is emptied, every wait and what was due
are withdrawn, a transaction is abandoned (R62, R63). -/
def ArmRec.stopping (r : ArmRec) (cause : Cause) : ArmRec :=
  { r with
    state := .stopping
    cause := some cause
    queue := []
    due := none
    dwellTimer := none
    stableTimer := none
    coverTimer := none
    seatWait := .none
    link := { r.link with engine := .idle } }

/-- The head link attempt of an arm fails with a kind at a command: SYNC does not begin, runs over or is too short, no reply
begins, a frame beyond the expected bytes, a frame that fails a test, a reply that stops short, a checksum, a NAK, a byte
that is neither ACK nor NAK (R132, R134). -/
def State.linkFails (s : State) (a : Arm) (c : Instr) (k : LinkKind) : Prop :=
  let l := (s.arm a).link
  (c = .syncTimeout a ∧ l.engine = .syncWait ∧ k = .timeout) ∨ (c = .syncOverflow a ∧ l.engine = .sync ∧ k = .rate) ∨
    (∃ n : BitVec 16, c = .syncRise a n ∧ l.engine = .sync ∧ (2 * n.toNat + 10) / 20 < 13 ∧ k = .rate) ∨
    (c = .replyTimeout a ∧ l.engine = .replyWait ∧ k = .timeout) ∨
    (∃ f, c = .replyByte a f ∧ (l.engine = .replyWait ∨ l.engine = .receive) ∧
      ((l.cmd.expected ≤ l.buf.length ∧ k = .length) ∨ (l.buf.length < l.cmd.expected ∧ readFrame f = .error k))) ∨
    (c = .replyGapExpiry a ∧ l.engine = .receive ∧
      ((l.buf.length < l.cmd.expected ∧ k = .timeout) ∨
        (l.cmd = .readId ∧ l.buf.length = 32 ∧ byteSum l.buf % 256 ≠ 0 ∧ k = .checksum) ∨
        (l.cmd ≠ .readId ∧ l.buf = [0x5A] ∧ k = .refused) ∨
        (l.cmd ≠ .readId ∧ (∃ x, l.buf = [x] ∧ x ≠ 0xA5 ∧ x ≠ 0x5A) ∧ k = .framing)))

/-- The state with the B of a SYNC_RISE recorded, before it is judged (R132); every other command measures none. -/
def State.measured (s : State) (a : Arm) (c : Instr) : State :=
  match c with
  | .syncRise _ n => s.modLink a fun l => { l with period := (2 * n.toNat + 10) / 20 }
  | _ => s

/-- A READ_ID reply is complete and its checksum holds (R134). -/
def State.identityRead (s : State) (a : Arm) : Prop :=
  let l := (s.arm a).link
  l.cmd = .readId ∧ l.buf.length = 32 ∧ byteSum l.buf % 256 = 0

/-- The identity in the reply is readable and has the serial and kind of record `q` (R136, R138). -/
def State.names (s : State) (a : Arm) (q : Fin 24) : Prop :=
  identity? (s.arm a).link.buf = some (s.tables.probes[q].serial, s.tables.probes[q].kind)

/-- The identity in the reply names record `q`, whose serial no other record has (R123, R138). -/
def State.identifies (s : State) (a : Arm) (q : Fin 24) : Prop :=
  s.names a q ∧ ∀ j : Fin 24, j ≠ q → s.tables.probes[j].serial ≠ s.tables.probes[q].serial

/-- The command that starts a block whose head is of a kind, or of no motion kind (R45). -/
def startCommand (a : Arm) : Option Kind → Instr
  | some .move => .move a
  | some .dwell => .dwell a
  | some .waitStable => .waitStable a
  | some .setFrame => .setFrame a
  | some .setLatch => .setLatch a
  | some .home => .home a
  | some .probePoint => .probePoint a
  | some .qualify => .qualify a
  | some .identify => .identify a
  | some .changeProbe => .changeProbe a
  | none => .motionBadKind a

/-- The state an arm takes with no executing block and its hold level clear (R41). -/
def ArmRec.free (r : ArmRec) : ArmState := if r.referenced then .idle else .unreferenced

/-! ## A tick with no event (R52, R54) -/

/-- Each axis returns a count, within its following limit of the setpoint (R55, R56). -/
def State.tracks (s : State) (a : Arm) (cmd : Vec) (readings : Tri Reading) : Bool :=
  let ok (x : Axis) : Bool :=
    match readings.get x with
    | none => false
    | some r =>
      decide ((((cmd.get x - (r + ((s.arm a).axes.get x).offset)).natAbs : Nat) : Int) ≤ ((s.armSet a).axes.get x).following)
  ok .X && ok .Y && ok .Z

/-- A segment is in progress and the arm is ACTIVE or STOPPING, so that a tick advances it (R52, R60, R62). -/
def State.runs (s : State) (a : Arm) : Bool :=
  (s.arm a).moving && ((s.arm a).state == .active || (s.arm a).state == .stopping)

/-- The arm decelerates toward rest: in STOPPING, in a stop phase, or in HOLDING (R60, R62, R93, R106). -/
def ArmRec.slowing (r : ArmRec) : Bool := r.state == .stopping || r.phase.brakes || r.holding

/-- The segment after its tick: with A_stop in STOPPING and the stop phases and with A in HOLDING, v becomes the larger of
v less that and 0, and s advances by it, not past the end; otherwise R52 (R60, R62, R93, R106). -/
def State.tickedSeg (s : State) (a : Arm) : Seg :=
  let r := s.arm a
  let slowed (acc : Nat) : Seg :=
    { r.seg with v := r.seg.v - acc, pos := min (r.seg.pos + (r.seg.v - acc)) r.seg.total }
  if r.state = .stopping ∨ r.phase.brakes = true then slowed (s.stopAccOf a)
  else if r.holding = true then slowed (s.accOf a)
  else r.seg.step (s.accOf a)

/-- The arm runs along a segment, in any phase, and the next tick is no commit point, brings neither the segment's end nor,
where the arm decelerates toward rest, rest, and does not bring together a capture and the end of its search. -/
def State.underway (s : State) (a : Arm) : Bool :=
  let r := s.arm a
  let g := s.tickedSeg a
  s.runs a && !r.exec.any (s.atCommitPoint a) && !s.captureNearEnd a s.tickNo && !g.atEnd && !(r.slowing && g.v == 0)

/-- The arm record after the tick of its segment and the exchange, before what the tick's end brings (R52, R54). -/
def State.advancedArm (s : State) (a : Arm) (readings : Tri Reading) : ArmRec :=
  let r := s.arm a
  let g := s.tickedSeg a
  { r with seg := g, cmd := g.position, axes := portsAtTick r.axes g.position readings }

/-- The arm record after a tick with no event: the segment's tick where the arm is underway, and the exchange. -/
def State.tickedArm (s : State) (a : Arm) (readings : Tri Reading) : ArmRec :=
  let r := s.arm a
  if s.underway a then s.advancedArm a readings else { r with axes := portsAtTick r.axes r.cmd readings }

/-- The arm meets a tick with no event: it is underway or no segment of it runs, none waits for the tick, and its axes
follow, or it is in FAULT. -/
def State.plainTick (s : State) (a : Arm) (readings : Tri Reading) : Bool :=
  (s.underway a || !s.runs a) && !((s.arm a).state == .active && (s.arm a).due == some .nextLeg) &&
    ((s.arm a).state == .fault || s.tracks a (s.tickedArm a readings).cmd readings)

/-! ## A tick at which something of an arm begins or ends (R53, R57, R60, R62, R93, R106) -/

/-- A tick of an arm between whose parts nothing else comes: RUN, no swap and no immediate work waiting, the other arm
with no event, and its axes following the position it advances to. -/
def State.loneTick (s : State) (a : Arm) (cmd : Vec) (readings : Duo (Tri Reading)) : Bool :=
  s.calm && s.device == .run && s.plainTick a.other (readings.get a.other) && s.tracks a cmd (readings.get a)

/-- The arm runs along a segment and meets such a tick, and no capture falls together with the end of its search. -/
def State.meetsTick (s : State) (a : Arm) (readings : Duo (Tri Reading)) : Bool :=
  s.loneTick a (s.tickedSeg a).position readings && s.runs a && (s.arm a).due == none && !s.captureNearEnd a s.tickNo

/-- What a tick leaves of the part beside its own arm: the tick number counts, and the other arm has its tick (R54). -/
def State.ticked (s t : State) (a : Arm) (readings : Duo (Tri Reading)) : Prop :=
  t.tickNo = s.tickNo + 1 ∧ t.arm a.other = s.tickedArm a.other (readings.get a.other)

/-- The arm is at rest with no block, in a standing, at a position, its drives as exchanged. -/
def ArmRec.rests (r : ArmRec) (state : ArmState) (cmd : Vec) (axes : Tri AxisPort) : Prop :=
  r.exec = none ∧ r.committed = none ∧ r.moving = false ∧ r.state = state ∧ r.cmd = cmd ∧ r.axes = axes

/-- The state an arm takes with no executing block (R41). -/
def ArmRec.between (r : ArmRec) : ArmState := if r.holdLevel then .held else r.free

/-- A slot of an arm's lane lies inside the window of a memory in canonical form, and no entry of the arm's queue is a
copy of it (R42, R154, R155). -/
def State.slotFits (s : State) (a : Arm) (c : SlotCopy) : Prop :=
  s.shm.wf = true ∧ (s.lanes.get a).slotBase c.index + 32 ≤ 65536 ∧ ∀ q ∈ (s.arm a).queue, q.index ≠ c.index

/-- The header of a slot: its state beside the kind and the tag of its copy, the status with the fault code and the flags,
and the tick number (R159, 12.1). -/
def State.slotSays (t : State) (a : Arm) (c : SlotCopy) (slotState info : Nat) (tick : Word) : Prop :=
  let base := (t.lanes.get a).slotBase c.index
  t.shm.get base = natWord (slotState + c.kindCode * 256 + c.tag * 65536) ∧ t.shm.get (base + 2) = natWord info ∧
    t.shm.get (base + 3) = tick

/-- The result words of a slot, from word 20 on (12.5). -/
def State.slotGives (t : State) (a : Arm) (c : SlotCopy) (words : List Word) : Prop :=
  ∀ k, k < words.length → t.shm.get ((t.lanes.get a).slotBase c.index + 20 + k) = words.getD k 0

/-- A capture unit of an arm that its executing block names (R92, R105). -/
def State.captureUnitOf (s : State) (a : Arm) (b : Block) (u : Fin 16) : Prop :=
  b.unit = some u ∧ s.latches[u].alloc = some a ∧ s.latches[u].mode = .capture

/-! ## The release test (R73, R77, R78) -/

/-- A position lies outside the arm's zone box; Z is not examined (R70). -/
def State.clears (s : State) (a : Arm) (v : Vec) : Prop :=
  let box := s.zone.boxes.get a
  v.x < box.xlo ∨ box.xhi < v.x ∨ v.y < box.ylo ∨ box.yhi < v.y

/-- Whether the next block of a queue needs the zone, where its kind alone tells: with none it does not, a HOME does, a
kind that never requests and no motion kind do not; `none` for a moving kind, whose sweep box decides (R71, R77). -/
def queueNeeds : List SlotCopy → Option Bool
  | [] => some false
  | c :: _ =>
    match c.kind with
    | some .home => some true
    | some .move | some .probePoint | some .qualify | some .changeProbe => none
    | some .dwell | some .waitStable | some .setFrame | some .setLatch | some .identify | none => some false

/-- What the release test of an arm at a position leaves, the other arm not waiting for the grant: the holder becomes FREE
where the arm held the grant, stands outside its box and its next block does not need the zone, and is as before where one
of these fails; the last holder is as before (R73, R77, R78). -/
def State.tested (s t : State) (a : Arm) (v : Vec) (needs : Option Bool) : Prop :=
  t.zone.last = s.zone.last ∧
    (s.zone.holder = some a → s.clears a v → needs = some false → t.zone.holder = none) ∧
    (s.zone.holder ≠ some a ∨ ¬ s.clears a v ∨ needs = some true → t.zone.holder = s.zone.holder)

/-- The segment that a MOVE is to begin, from where its arm stands (R48, R51). -/
def State.legOf (s : State) (a : Arm) (b : Block) : Seg :=
  let feed := perTickFeed s.settings.period (min (b.slot.nat 4) (s.armSet a).maxFeed)
  Seg.between (s.arm a).cmd (b.target b.leg) feed feed 0 0

/-- The arm waits in WAIT_ZONE with a MOVE whose first segment has a length, its hold level clear (R74). -/
def State.waitsToMove (s : State) (a : Arm) (b : Block) : Prop :=
  let r := s.arm a
  r.state = .active ∧ r.phase = .waitZone ∧ r.exec = some b ∧ b.slot.kind = some .move ∧ r.moving = false ∧ r.due = none ∧
    r.holdLevel = false ∧ s.zone.waits.get a ≠ .idle ∧ (s.legOf a b).len ≠ 0

/-- The grant has passed from an arm to the other, which waited for it with a MOVE and stood as `r`: it is the holder and
the last holder, its wait is over, and step 6 has begun its first segment (R73). -/
def State.passedOn (s t : State) (a : Arm) (b : Block) (r : ArmRec) : Prop :=
  t.zone.holder = some a.other ∧ t.zone.last = some a.other ∧ t.zone.waits.get a.other = .idle ∧
    t.arm a.other = { r with phase := .moving, moving := true, seg := s.legOf a.other b }

/-- A tick at which an arm may release the grant: the other arm does not wait for it, or waits with a MOVE and has had its
tick when the release comes. -/
def State.mayRelease (s : State) (first a : Arm) : Prop :=
  s.unasked a = true ∨ (first = a.other ∧ ∃ b, s.waitsToMove a.other b)

/-- What a tick at which an arm makes its release test leaves beside the arm: the tick number counts, and the other arm
has its tick; the holder is that of the test, or the grant has passed to the other arm where it waited (R54, R73, R77,
R78). -/
def State.tickedTest (s t : State) (a : Arm) (readings : Duo (Tri Reading)) (v : Vec) (needs : Option Bool) : Prop :=
  t.tickNo = s.tickNo + 1 ∧
    (s.unasked a = true → t.arm a.other = s.tickedArm a.other (readings.get a.other) ∧ s.tested t a v needs) ∧
    ∀ b, s.waitsToMove a.other b → s.holdsGrant a = true →
      (s.clears a v → needs = some false → s.passedOn t a b (s.tickedArm a.other (readings.get a.other))) ∧
        (¬ s.clears a v ∨ needs = some true → t.zone.holder = some a)

/-- The unit's settings, record and extra-edge count with its arming taken away (R82). -/
def LatchUnit.unarmed (u : LatchUnit) : LatchUnit := { u with state := .idle, armedBy := .none }

/-- The capture unit of a block as its search arms it on a line, edge RISE (R82, R92, R105). -/
def LatchUnit.searching (u : LatchUnit) (input : CaptureInput) (slot : Nat) : LatchUnit :=
  { u with
    mode := .capture, input := input, edge := .rise, state := .armed, armedBy := .block slot, extra := 0,
    cap := ⟨⟨0, 0, 0⟩, 0, false⟩ }

end Sys2Proof.Machine
end

