-- ==== Sys2Proof/Certificates/Slice0/Obligations.lean ====
section
/-! DEFINITION. The statements for the provers. OBLIGATIONS.json says for each what it states and what it rests on. -/

section Statements
open Sys2Proof Sys2Proof.Machine

/-! ## The machine as a whole -/

/-- One step takes the command at the front of the queue and executes it with the queue's rest. The model's own readings in
it: log 1. -/
def Obligations.StepRunsFrontCommand : Prop :=
  ∀ (c : Instr) (rest : List Instr) (s : State), s.pending = c :: rest → step s = exec c { s with pending := rest }

/-- The values that the owning rules give for power-on reset. -/
def Obligations.PowerOnValues : Prop :=
  let s := State.reset
  s.device = .stopped ∧ (∀ i, s.shm.get i = 0) ∧
    s.lanes = ⟨⟨0, 0, 0, true⟩, ⟨0, 0, 0, true⟩⟩ ∧ s.svcLane = ⟨0, 0, 0, true⟩ ∧ s.svc = none ∧
    s.unit.posts = ⟨false, false, false⟩ ∧ s.unit.notices = 0 ∧ s.unit.mask = 0 ∧ s.unit.releaseTimer = false ∧
    s.corr = ⟨⟨⟨⟨0, 0, 0⟩, ⟨0, 0, 0⟩⟩, 0⟩, ⟨⟨⟨0, 0, 0⟩, ⟨0, 0, 0⟩⟩, 0⟩, false⟩ ∧
    (∀ i : Fin 32, s.therm.chans[i].listed = false ∧ s.therm.chans[i].state = .off ∧ s.therm.chans[i].value = 2560) ∧
    (∀ i : Fin 10, s.therm.groups[i].members = [] ∧ s.therm.groups[i].state = .empty ∧ s.therm.groups[i].temp = 2560 ∧
      s.therm.groups[i].ring = []) ∧
    s.therm.scan = none ∧ s.therm.scanTimer = none ∧ s.therm.historyTimer = none ∧
    (∀ i : Fin 16, s.latches[i].alloc = none ∧ s.latches[i].state = .idle ∧ s.latches[i].armedBy = .none) ∧
    s.zone.holder = none ∧ s.zone.last = none ∧ s.zone.waits = ⟨.idle, .idle⟩ ∧ s.zone.limit = 0 ∧
    (∀ i : Fin 24, s.tables.probes[i].loc = .absent ∧ s.tables.probes[i].serial = 0) ∧
    (∀ i : Fin 12, s.tables.ports[i].state = .disabled) ∧
    (∀ a, (s.arm a).state = .unreferenced ∧ (s.arm a).phase = .none ∧ (s.arm a).exec = none ∧
      (s.arm a).committed = none ∧ (s.arm a).queue = [] ∧ (s.arm a).referenced = false ∧ (s.arm a).cmd = ⟨0, 0, 0⟩ ∧
      (s.arm a).frameOffset = ⟨0, 0, 0⟩ ∧ (s.arm a).mounted = .none ∧ (s.arm a).lastFault = none ∧
      (s.arm a).link.engine = .idle ∧ (s.arm a).axes.x.offset = 0 ∧ (s.arm a).axes.y.offset = 0 ∧
      (s.arm a).axes.z.offset = 0)

/-- The five laws hold right after reset. The model's own readings in it: log 5, 6. -/
def Obligations.LawsHoldAtReset : Prop :=
  State.reset.shm.wf = true ∧ State.reset.queuesBounded = true ∧ State.reset.latchesLawful = true ∧
    State.reset.zoneLawful = true ∧ State.reset.stopLineLawful = true

/-- Every step keeps the canonical form of Shared Memory. The model's own readings in it: log 5. -/
def Obligations.StepKeepsMemoryForm : Prop :=
  ∀ s t : State, s.shm.wf = true → step s = .next t → t.shm.wf = true

/-- Every step keeps both Block Queues within 8 entries. -/
def Obligations.StepKeepsQueuesBounded : Prop :=
  ∀ s t : State, s.queuesBounded = true → step s = .next t → t.queuesBounded = true

/-- Every step keeps the law of arming: a unit is IDLE exactly while nothing holds its arming. -/
def Obligations.StepKeepsLatchLaw : Prop :=
  ∀ s t : State, s.latchesLawful = true → step s = .next t → t.latchesLawful = true

/-- Every step keeps the arbiter's law: the holder is the last holder, and an arm waits only while the other holds. -/
def Obligations.StepKeepsZoneLaw : Prop :=
  ∀ s t : State, s.zoneLawful = true → step s = .next t → t.zoneLawful = true

/-- Every step keeps the stop line's law. -/
def Obligations.StepKeepsStopLineLaw : Prop :=
  ∀ s t : State, s.stopLineLawful = true → step s = .next t → t.stopLineLawful = true

/-- The device state changes at a reset, at an accepted START and at the end of the check alone. -/
def Obligations.DeviceStateMoves : Prop :=
  ∀ (c : Instr) (s t : State), exec c s = .next t → t.device ≠ s.device →
    (c = .powerOnReset ∧ t.device = .stopped) ∨ ((∃ cut, c = .reset cut) ∧ t.device = .stopped) ∨
      (c = .start ∧ s.device = .stopped ∧ t.device = .checking) ∨
      ((∃ rd, c = .startValidationEnd rd) ∧ s.device = .checking ∧ (t.device = .run ∨ t.device = .stopped))

/-- But for the resets and the end of the check, the active coefficient set changes only by the exchange with the staged
set, which clears swap-pending. -/
def Obligations.ActiveSetOnlyExchanged : Prop :=
  ∀ (c : Instr) (s t : State), exec c s = .next t → c ≠ .powerOnReset → (∀ cut, c ≠ .reset cut) →
    (∀ rd, c ≠ .startValidationEnd rd) →
    t.corr.active = s.corr.active ∨ (t.corr.active = s.corr.staged ∧ t.corr.staged = s.corr.active ∧
      t.corr.swapPending = false)

/-! ## Shared Memory and the register window -/

/-- A host write reaches its one word; a word outside the window does not exist. The model's own readings in it: log 5. -/
def Obligations.HostWriteReachesOneWord : Prop :=
  (∀ (s : State) (i : Nat) (w : Word), s.shm.wf = true → i < 65536 →
    ∃ t, exec (.sharedMemoryWrite i w) s = .next t ∧ t.shm.get i = w ∧ (∀ j, j ≠ i → t.shm.get j = s.shm.get j) ∧
      t = { s with shm := t.shm }) ∧
  (∀ (s : State) (i : Nat) (w : Word), 65536 ≤ i → exec (.sharedMemoryWrite i w) s = .fault (.noSuchWord i))

/-- POST adds its lane to the post set, in any device state, and ignores a value above 2. Writes that the window ignores
change nothing; IDENT, CONTROL, STATUS, NOTICE_MASK and the offsets that name no register read as they should. -/
def Obligations.RegisterWindowBehaves : Prop :=
  (∀ s : State,
     exec (.post 0) s = .next { s with unit := { s.unit with posts := { s.unit.posts with motionA := true } } } ∧
     exec (.post 1) s = .next { s with unit := { s.unit with posts := { s.unit.posts with motionB := true } } } ∧
     exec (.post 2) s = .next { s with unit := { s.unit with posts := { s.unit.posts with service := true } } } ∧
     ∀ v : Word, 2 < v.toNat → exec (.post v) s = .next s) ∧
  ((∀ (s : State) (o : Nat) (v : Word), exec (.registerWriteIgnored o v) s = .next s) ∧
   (∀ s : State, s.readRegister 0x00 = 0x0A726002 ∧ s.readRegister 0x0C = 0 ∧ ∀ o, 0x14 < o → s.readRegister o = 0) ∧
   (∀ s : State, field (s.readRegister 0x04) 0 2 = 0 ∧ field (s.readRegister 0x04) 2 1 = bitAt (s.arm .A).holdLevel 0 ∧
     field (s.readRegister 0x04) 3 1 = bitAt (s.arm .B).holdLevel 0 ∧ field (s.readRegister 0x04) 4 2 = 0 ∧
     s.readRegister 0x14 = s.unit.mask.setWidth 32) ∧
   (∀ s : State, s.readRegister 0x08 = s.statusWord ∧ field s.statusWord 0 2 = s.device.code ∧
     field s.statusWord 4 1 = bitAt s.unit.posts.motionA 0 ∧
     field s.statusWord 5 1 = bitAt s.unit.posts.motionB 0 ∧ field s.statusWord 6 1 = bitAt s.unit.posts.service 0 ∧
     field s.statusWord 8 1 = bitAt (s.unit.stop == .active) 0 ∧ field s.statusWord 16 4 = (s.arm .A).state.code ∧
     field s.statusWord 20 4 = (s.arm .B).state.code))

/-- A read of NOTICE empties the set; a mask write and the setting of a kind send one interrupt message exactly when the
masked set goes from empty to non-empty. The model's own readings in it: log 7, 45. -/
def Obligations.NoticesAndMessages : Prop :=
  ∀ s : State,
    exec .noticeRead s = .next { s with unit := { s.unit with notices := 0, readData := s.unit.notices.setWidth 32 } } ∧
    (∀ v : Word, exec (.noticeMaskWrite v) s = .next { s with unit := { s.unit with
      mask := v.setWidth 10
      messages := s.unit.messages +
        if s.unit.notices &&& s.unit.mask = 0 ∧ s.unit.notices &&& v.setWidth 10 ≠ 0 then 1 else 0 } }) ∧
    (∀ n : Notice, (s.setNotice n).unit = { s.unit with
      notices := s.unit.notices ||| n.one
      messages := s.unit.messages + if s.unit.notices &&& s.unit.mask = 0 ∧ n.one &&& s.unit.mask ≠ 0 then 1 else 0 })

/-! ## Resets and START -/

/-- Both resets put every block in its reset state; power-on reset clears Shared Memory, a host reset keeps it. The model's
own readings in it: log 6, 7, 11. -/
def Obligations.ResetsRestoreBlocks : Prop :=
  ∀ s : State,
    let cleared (m : Shm) : State := { State.reset with
      shm := m
      unit := { State.reset.unit with
        stop := if s.pins.stopLow then .active else .released
        messages := s.unit.messages
        readData := s.unit.readData }
      arms := ⟨ArmRec.reset s.pins.hseatLow.a, ArmRec.reset s.pins.hseatLow.b⟩
      pins := s.pins
      free := s.free
      pending := s.pending }
    exec .powerOnReset s = .next (cleared []) ∧ exec (.reset none) s = .next (cleared s.shm)

/-- A host reset that abandons a Condition Page refresh, one that is due or that the timer brought, leaves an odd page
count, and nothing outside the page. The model's own readings in it: log 16. -/
def Obligations.ResetLeavesOddPageCount : Prop :=
  ∀ (s : State) (n : Nat), s.shm.wf = true → s.device = .run → (s.refreshDue = true ∨ s.refreshTimer ≠ none) → n ≤ 79 →
    ∃ t, exec (.reset (some n)) s = .next t ∧ t.device = .stopped ∧ (t.shm.get 512).getLsbD 0 = true ∧
      (t.shm.get 512 = s.shm.get 512 + 1 ∨ t.shm.get 512 = s.shm.get 512 + 2) ∧
      ∀ j, j < 512 ∨ 647 < j → t.shm.get j = s.shm.get j

/-- START in STOPPED enters CHECKING with PENDING written and words 0 to 511 copied, and elsewhere is ignored. The check
ends at the first failing index: FAILED with that index, STOPPED, the STARTED notice. The model's own readings in it:
log 36. -/
def Obligations.StartChecksTheRecord : Prop :=
  (∀ s : State,
     (s.device = .stopped → exec .start s = .next { s with
       device := .checking
       shm := s.shm.write 0 1
       copied := (s.shm.write 0 1).readList 0 512 }) ∧
     (s.device ≠ .stopped → exec .start s = .next s)) ∧
  (∀ (s : State) (rd : Duo (Tri Reading)) (i : Nat), s.device = .checking → 1 ≤ i → i ≤ 61 →
     StartCopy.test s.copied i = false → (∀ j, 1 ≤ j → j < i → StartCopy.test s.copied j = true) →
     exec (.startValidationEnd rd) s = .next ({ s with
       device := .stopped
       shm := s.shm.write 0 (natWord (3 + i * 65536)) }.setNotice .started))

/-- A START that passes every index, with the stop line high, enters RUN with the run-time state, the settings of the copy
among it. The model's own readings in it: log 36. -/
def Obligations.StartEstablishesRun : Prop :=
  ∀ (s : State) (rd : Duo (Tri Reading)), s.device = .checking → (∀ j, 1 ≤ j → j ≤ 61 → StartCopy.test s.copied j = true) →
    s.pins.stopLow = false →
    let word (i : Nat) : Nat := StartCopy.nat s.copied i
    ∃ t, exec (.startValidationEnd rd) s = .next t ∧ t.device = .run ∧ t.tickNo = 0 ∧ t.shm = s.shm.write 0 2 ∧
      t.lanes = ⟨⟨word 3, word 4, 0, false⟩, ⟨word 5, word 6, 0, false⟩⟩ ∧ t.svcLane = ⟨word 7, word 8, 0, false⟩ ∧
      t.svc = none ∧ t.corr = ⟨coeffSet (StartCopy.int s.copied) 86, coeffSet (StartCopy.int s.copied) 86, false⟩ ∧
      t.therm = { Thermal.reset with scanTimer := some (word 82), historyTimer := some (word 83) } ∧
      t.refreshTimer = some (word 84) ∧
      (let at_ (i : Nat) : Int := StartCopy.int s.copied i
       let axis (n : Nat) : AxisSet :=
         ⟨at_ (16 + 5 * n), at_ (17 + 5 * n), at_ (18 + 5 * n), word (19 + 5 * n) == 1, at_ (20 + 5 * n)⟩
       let arm (n w frame : Nat) : ArmSet := ⟨⟨axis n, axis (n + 1), axis (n + 2)⟩, word w, word (w + 1), word (w + 2),
         word (w + 3), word (w + 4), word (w + 9), word (w + 10), if word frame = 2 then .part else .machine⟩
       t.settings = ⟨word 2, ⟨arm 0 48 80, arm 3 64 81⟩, word 84⟩ ∧ t.zone = ⟨none, none, ⟨⟨at_ 53, at_ 54, at_ 55, at_ 56⟩, ⟨at_ 69, at_ 70, at_ 71, at_ 72⟩⟩, ⟨.idle, .idle⟩,
         ⟨false, false⟩, word 85⟩) ∧
      t.latches = Vector.replicate 16 LatchUnit.reset ∧
      t.tables = Tables.reset ∧ t.refreshDue = true ∧ t.unit.notices = s.unit.notices ||| Notice.started.one ∧
      t.unit.mask = s.unit.mask ∧ t.unit.posts = ⟨false, false, false⟩ ∧ t.unit.stop = .released ∧
      ∀ a, (t.arm a).state = (if (s.arm a).holdLevel then .held else .unreferenced) ∧ (t.arm a).exec = none ∧
        (t.arm a).committed = none ∧ (t.arm a).queue = [] ∧ (t.arm a).referenced = false ∧
        (t.arm a).lastFault = none ∧ (t.arm a).frameOffset = ⟨0, 0, 0⟩ ∧ (t.arm a).holdLevel = (s.arm a).holdLevel ∧
        (t.arm a).mounted = (if s.pins.hseatLow.get a then .unverified else .none) ∧
        (t.arm a).seatLow = s.pins.hseatLow.get a ∧ (t.arm a).link.engine = .idle ∧ (t.arm a).link.buf = [] ∧
        (t.arm a).link.period = 0 ∧
        ∀ x, (t.arm a).cmd.get x = (((rd.get a).get x).getD ((s.arm a).axes.get x).count) ∧
          ((t.arm a).axes.get x).offset = 0 ∧ ((t.arm a).axes.get x).referenced = false ∧
          ((t.arm a).axes.get x).count = (t.arm a).cmd.get x

/-- A START that passes with the stop line low puts both arms in FAULT with STOP_LINE. -/
def Obligations.StartUnderStopLineFaults : Prop :=
  ∀ (s : State) (rd : Duo (Tri Reading)), s.device = .checking → (∀ j, 1 ≤ j → j ≤ 61 → StartCopy.test s.copied j = true) →
    s.pins.stopLow = true →
    ∃ t, exec (.startValidationEnd rd) s = .next t ∧ t.device = .run ∧ t.unit.stop = .active ∧ t.lanes.a.paused = true ∧
      t.lanes.b.paused = true ∧
      t.unit.notices = s.unit.notices ||| Notice.started.one ||| Notice.stopLine.one ||| Notice.armAFault.one |||
        Notice.armBFault.one ∧
      ∀ a, (t.arm a).state = .fault ∧ (t.arm a).lastFault = some .stopLine ∧ (t.arm a).exec = none

/-! ## The stop line -/

/-- A fall of STOP_IN in RUN, arm by arm: arms that stand between blocks enter FAULT with STOP_LINE; an arm that moves
enters STOPPING with the stop line as its cause; an arm that executes a block at rest completes it FAULTED with STOP_LINE
and enters FAULT. The lanes pause and the queues are emptied at once. The swap barrier is tested after each arm: a SET_FRAME
that the first arm's end lets go from WAIT_SWAP completes before its own arm acts on the line. The model's own readings in it:
log 45, 55. -/
def Obligations.StopLineFaultsStandingArms : Prop :=
  (∀ (s : State) (first : Arm), s.calm = true → s.device = .run → s.unit.stop = .released → s.pins.stopLow = false →
    (∀ a, (s.arm a).exec = none ∧ (s.arm a).probeLost = false ∧
      ((s.arm a).state = .idle ∨ (s.arm a).state = .unreferenced ∨ (s.arm a).state = .held) ∧
      ((s.lanes.get a).paused = true → (s.arm a).queue = [])) →
    ∃ t, exec (.stopInFall first) s = .next t ∧ t.unit.stop = .active ∧ t.unit.releaseTimer = false ∧
      t.pins.stopLow = true ∧ t.unit.notices &&& Notice.stopLine.one ≠ 0 ∧
      ∀ a, (t.arm a).state = .fault ∧ (t.arm a).lastFault = some .stopLine ∧ (t.arm a).queue = [] ∧
        (t.lanes.get a).paused = true ∧ (t.arm a).cmd = (s.arm a).cmd ∧ (t.arm a).referenced = (s.arm a).referenced ∧
        (t.arm a).frameOffset = (s.arm a).frameOffset ∧ (t.arm a).mounted = (s.arm a).mounted) ∧
  (∀ (s : State) (first a : Arm), s.settled = true → s.device = .run → s.unit.stop = .released →
    s.pins.stopLow = false → (s.arm a).exec ≠ none → (s.arm a).state = .active → (s.arm a).moving = true →
    0 < (s.arm a).seg.v → (s.arm a).phase ≠ .waitSwap → (s.lanes.get a).paused = false →
    ∃ t, exec (.stopInFall first) s = .next t ∧ t.unit.stop = .active ∧ t.unit.notices &&& Notice.stopLine.one ≠ 0 ∧
      (t.lanes.get a).paused = true ∧ t.arm a = (s.arm a).stopping .stopLine) ∧
  (∀ (s : State) (first a : Arm) (b : Block), s.calm = true → s.device = .run → s.unit.stop = .released →
    s.pins.stopLow = false → s.restingBlock a = true → (s.arm a).exec = some b → (s.arm a).committed = none →
    s.shm.wf = true → (s.lanes.get a).slotBase b.slot.index + 32 ≤ 65536 → (s.arm a.other).exec = none →
    (s.arm a.other).committed = none → (s.arm a.other).queue = [] → (s.arm a.other).state ≠ .stopping →
    (s.arm a.other).due = none →
    ∃ t, exec (.stopInFall first) s = .next t ∧ (t.arm a).state = .fault ∧ (t.arm a).lastFault = some .stopLine ∧
      (t.arm a).exec = none ∧ (t.arm a).cmd = (s.arm a).cmd ∧ (t.lanes.get a).paused = true ∧
      (s.zone.holder ≠ some a.other → s.tested t a (s.arm a).cmd (some false)) ∧
      ((s.lanes.get a).paused = false → (t.arm a).queue = []) ∧
      t.shm.get ((s.lanes.get a).slotBase b.slot.index) =
        natWord (slotFaulted + b.slot.kindCode * 256 + b.slot.tag * 65536) ∧
      t.shm.get ((s.lanes.get a).slotBase b.slot.index + 2) =
        natWord (FaultCode.stopLine.code * 256 + b.flags.bits) ∧
      t.shm.get ((s.lanes.get a).slotBase b.slot.index + 3) = s.tickNo) ∧
  (∀ (s : State) (first : Arm) (b : Block), s.device = .run → s.unit.stop = .released → s.pins.stopLow = false →
    s.corr.swapPending = true → s.restingBlock first = true → (s.arm first.other).state = .active →
    (s.arm first.other).phase = .waitSwap → (s.arm first.other).exec = some b → b.slot.kind = some .setFrame →
    ∃ t, exec (.stopInFall first) s = .next t ∧ t.corr = ⟨s.corr.staged, s.corr.active, false⟩ ∧
      t.unit.notices &&& Notice.swap.one ≠ 0 ∧ (t.arm first.other).frameOffset = ⟨b.slot.int 4, b.slot.int 5, b.slot.int 6⟩ ∧
      ∀ a, (t.arm a).state = .fault ∧ (t.arm a).lastFault = some .stopLine ∧ (t.arm a).exec = none)

/-- A rise of STOP_IN with the stop state ACTIVE starts the release timer, a fall before it expires cancels it, its
expiry releases; nothing else changes. -/
def Obligations.StopLineReleaseIsFiltered : Prop :=
  ∀ s : State,
    (s.pins.stopLow = true → exec .stopInRise s = .next { s with
      pins := { s.pins with stopLow := false }
      unit := { s.unit with releaseTimer := s.unit.stop == .active || s.unit.releaseTimer } }) ∧
    (∀ first, s.pins.stopLow = false → s.unit.stop = .active → exec (.stopInFall first) s = .next { s with
      pins := { s.pins with stopLow := true }
      unit := { s.unit with releaseTimer := false } }) ∧
    (s.unit.releaseTimer = true → exec .stopRelease s = .next { s with
      unit := { s.unit with stop := .released, releaseTimer := false } })

/-! ## Hold and abort -/

/-- The hold level becoming set: HELD at a block boundary and in a wait of a block, its capture units disarmed, HOLDING
along a segment, the level alone in the start sequence, in a stop phase, in STOPPING, in FAULT and outside RUN. Becoming
clear: a HELD arm with no block is IDLE or UNREFERENCED, a MOVE held mid-block resumes its segment or begins its first
one, a wait goes on, HOLDING is left; a search arms its unit afresh and resumes, and with TRIG active a touch is lost and
its retract begins. The model's own readings in it: log 35. -/
def Obligations.HoldLevelActsByStanding : Prop :=
  (∀ (s : State) (a : Arm), (s.arm a).holdLevel = false →
     let levelAlone : Prop := exec (.holdSet a) s = .next (s.modArm a fun r => { r with holdLevel := true })
     (s.device = .run → ((s.arm a).state = .idle ∨ (s.arm a).state = .unreferenced) →
       exec (.holdSet a) s = .next (s.modArm a fun r => { r with holdLevel := true, state := .held })) ∧
     (s.device = .run → s.settled = true → (s.arm a).state = .active → (s.arm a).moving = true →
       ((s.arm a).phase.brakes = false → exec (.holdSet a) s =
         .next (s.modArm a fun r => { r with holdLevel := true, holding := true, holdPhase := some r.phase })) ∧
       ((s.arm a).phase.brakes = true → levelAlone)) ∧
     (s.device = .run → s.settled = true → (s.arm a).state = .active → (s.arm a).moving = false → (s.arm a).due = none →
       ((s.arm a).phase = .startCheck ∨ (s.arm a).phase = .waitSwap ∨ (s.arm a).phase = .waitZone → levelAlone) ∧
       ((s.arm a).phase = .dwelling ∨ (s.arm a).phase = .waitingStable ∨ (s.arm a).phase = .identifying ∨
         (∃ c h, (s.arm a).phase = .changing c h) →
         ∃ t, exec (.holdSet a) s = .next t ∧ t = { s with arms := t.arms, latches := t.latches } ∧
           t.arm a.other = s.arm a.other ∧ t.arm a = { s.arm a with
             holdLevel := true
             state := .held
             holding := false
             holdPhase := some ((s.arm a).holdPhase.getD (s.arm a).phase) } ∧
           ∀ u : Fin 16,
             let ours : Prop :=
               s.latches[u].alloc = some a ∧ s.latches[u].mode = .capture ∧ ∃ n, s.latches[u].armedBy = .block n
             (ours → t.latches[u] = s.latches[u].unarmed) ∧ (¬ ours → t.latches[u] = s.latches[u]))) ∧
     (s.device ≠ .run ∨ (s.arm a).state = .fault ∨ (s.arm a).state = .stopping → levelAlone)) ∧
  (∀ (s : State) (a : Arm), s.device = .run → (s.arm a).holdLevel = true →
     let released (r : ArmRec) : ArmRec := { r with holdLevel := false, holdPhase := none, state := .active }
     ((s.arm a).state = .held → (s.arm a).exec = none →
       exec (.holdClear a) s =
         .next (s.modArm a fun r => { r with holdLevel := false, holdPhase := none, state := r.free })) ∧
     ((s.arm a).state = .active →
       exec (.holdClear a) s =
         .next (s.modArm a fun r => { r with holdLevel := false, holdPhase := none, holding := false })) ∧
     (s.settled = true → (s.arm a).state = .held →
       ((s.arm a).exec ≠ none → (s.arm a).phase = .moving → (s.arm a).moving = true →
         exec (.holdClear a) s = .next (s.modArm a released)) ∧
       ((s.arm a).exec ≠ none → (s.arm a).moving = false → (s.arm a).due = none →
         (s.arm a).phase = .dwelling ∨ (s.arm a).phase = .waitingStable ∨ (s.arm a).phase = .identifying ∨
           (∃ c h, (s.arm a).phase = .changing c h) →
         exec (.holdClear a) s = .next (s.modArm a released)) ∧
       (∀ b : Block, (s.arm a).exec = some b → b.slot.kind = some .move → (s.arm a).moving = false →
         (s.arm a).due = some .stepSix → (s.arm a).phase ≠ .waitSwap → (s.legOf a b).len ≠ 0 →
         exec (.holdClear a) s = .next (s.modArm a fun r =>
           { released r with phase := .moving, due := none, seg := s.legOf a b, moving := true })) ∧
       ∀ (b : Block) (u : Fin 16), (s.arm a).exec = some b → (s.arm a).moving = true → b.unit = some u →
         (∀ x : Axis, (s.arm a).phase = .homeSearch x →
           exec (.holdClear a) s = .next ((s.setUnit u (s.latches[u].searching (.refm x) b.slot.index)).modArm a released)) ∧
         ((s.arm a).phase = .search ∨ (∃ k, (s.arm a).phase = .touch k .search) →
           (s.pins.trig.get a = false → exec (.holdClear a) s =
             .next ((s.setUnit u (s.latches[u].searching .trig b.slot.index)).modArm a released)) ∧
           (s.pins.trig.get a = true →
             let feed (n : Nat) : Nat := perTickFeed s.settings.period (min n (s.armSet a).maxFeed)
             let lost (phase : Phase) (seg : Seg) : State := (s.setUnit u s.latches[u].unarmed).modArm a fun r =>
               { released r with
                 phase := phase
                 seg := seg
                 exec := some { b with touch := { b.touch with missed := true }, qual := { b.qual with missed := true } } }
             let back := Seg.between (s.arm a).cmd (b.target 0) (feed (b.slot.nat 13)) (feed (b.slot.nat 12))
               (b.slot.nat 11 * 65536) 0
             let touchBack := Seg.between (s.arm a).cmd (b.target (3 * b.qual.k + 1)) (feed (b.slot.nat 10))
               (feed (b.slot.nat 10)) 0 0
             (b.slot.kind = some .probePoint → (s.arm a).due = none → back.len ≠ 0 →
               exec (.holdClear a) s = .next (lost .retract back)) ∧
             (b.slot.kind = some .qualify → (s.arm a).due = none → touchBack.len ≠ 0 →
               exec (.holdClear a) s = .next (lost (.touch b.qual.k .retract) touchBack))))))

/-- ABORT with no executing block pauses the lane and flushes the queue, each removed slot written FLUSHED; it does nothing
outside RUN, in STOPPING and in FAULT; an arm that executes a block at rest completes it DONE, ABORTED at once; an arm that
moves enters STOPPING with the abort as its cause. The model's own readings in it: log 45. -/
def Obligations.AbortActsByStanding : Prop :=
  (∀ (s : State) (a : Arm),
     (s.device ≠ .run → exec (.abort a) s = .next s) ∧
     (s.settled = true → ((s.arm a).state = .fault ∨ (s.arm a).state = .stopping) → exec (.abort a) s = .next s) ∧
     (s.device = .run → s.settled = true → (s.arm a).state ≠ .fault → (s.arm a).state ≠ .stopping →
       (s.arm a).exec = none → (s.lanes.get a).paused = false → s.shm.wf = true →
       ∃ t, exec (.abort a) s = .next t ∧ (t.lanes.get a).paused = true ∧ (t.lanes.get a).cursor = (s.lanes.get a).cursor ∧
         t.arm a = { s.arm a with queue := [] } ∧ t.arm a.other = s.arm a.other ∧ t.lanes.get a.other = s.lanes.get a.other ∧
         t.latches = s.latches ∧ t.corr = s.corr ∧ t.zone = s.zone ∧ t.tables = s.tables ∧ t.therm = s.therm ∧
         (∀ j, (∀ c ∈ (s.arm a).queue, j < (s.lanes.get a).slotBase c.index ∨ (s.lanes.get a).slotBase c.index + 4 ≤ j) →
           t.shm.get j = s.shm.get j) ∧
         ((s.arm a).queue ≠ [] → t.unit.notices &&& (laneNotice a).one ≠ 0) ∧
         (((s.arm a).queue.map SlotCopy.index).Nodup → ∀ c ∈ (s.arm a).queue,
           let base := (s.lanes.get a).slotBase c.index
           base + 4 ≤ 65536 → t.shm.get base = natWord (5 + c.kindCode * 256 + c.tag * 65536) ∧
             t.shm.get (base + 1) = c.word 1 ∧ t.shm.get (base + 2) = 0 ∧ t.shm.get (base + 3) = s.tickNo))) ∧
  (∀ (s : State) (a : Arm) (b : Block), s.calm = true → s.device = .run → s.restingBlock a = true →
     (s.arm a).exec = some b → (s.arm a).committed = none → s.shm.wf = true →
     (s.lanes.get a).slotBase b.slot.index + 32 ≤ 65536 →
     ∃ t, exec (.abort a) s = .next t ∧ (t.arm a).exec = none ∧
       (t.arm a).state = (if (s.arm a).holdLevel then .held else (s.arm a).free) ∧ (t.lanes.get a).paused = true ∧
       ((s.lanes.get a).paused = false → (t.arm a).queue = [] ∧ s.tested t a (s.arm a).cmd (some false)) ∧
       (t.arm a).cmd = (s.arm a).cmd ∧ t.arm a.other = s.arm a.other ∧
       t.unit.notices &&& (laneNotice a).one ≠ 0 ∧
       t.shm.get ((s.lanes.get a).slotBase b.slot.index) =
         natWord (slotDone + b.slot.kindCode * 256 + b.slot.tag * 65536) ∧
       t.shm.get ((s.lanes.get a).slotBase b.slot.index + 2) = natWord (4 + b.flags.bits) ∧
       t.shm.get ((s.lanes.get a).slotBase b.slot.index + 3) = s.tickNo) ∧
  (∀ (s : State) (a : Arm), s.settled = true → s.device = .run → (s.arm a).exec ≠ none → (s.arm a).state = .active →
     (s.arm a).moving = true → 0 < (s.arm a).seg.v → (s.lanes.get a).paused = false →
     ∃ t, exec (.abort a) s = .next t ∧ t.arm a = (s.arm a).stopping .abort ∧ (t.lanes.get a).paused = true ∧
       t.arm a.other = s.arm a.other ∧ t.lanes.get a.other = s.lanes.get a.other ∧ t.latches = s.latches ∧
       t.corr = s.corr ∧ t.tables = s.tables ∧ t.therm = s.therm ∧ t.zone.holder = s.zone.holder)

/-! ## Lanes, slots and the service engine -/

/-- The examination of a posted lane in RUN: it leaves the post set, then a motion lane is filled and the service engine
looks at its cursor slot. Outside RUN nothing is examined. The model's own readings in it: log 4. -/
def Obligations.LaneExaminationActs : Prop :=
  ∀ s : State,
    (s.device = .run → s.unit.posts.motionA = true → exec (.laneExamine .motionA) s =
      .next ({ s with unit := { s.unit with posts := { s.unit.posts with motionA := false } } }.fill .A)) ∧
    (s.device = .run → s.unit.posts.motionB = true → exec (.laneExamine .motionB) s =
      .next ({ s with unit := { s.unit with posts := { s.unit.posts with motionB := false } } }.fill .B)) ∧
    (s.device = .run → s.unit.posts.service = true → s.svcLane.paused = false → s.svc = none →
      exec (.laneExamine .service) s =
        if s.svcLane.posted s.shm then
          .next { s with
            unit := { s.unit with posts := { s.unit.posts with service := false } }
            shm := s.svcLane.takenShm s.shm
            svcLane := { s.svcLane with cursor := s.svcLane.nextCursor }
            svc := some ⟨s.svcLane.takenCopy s.shm, false⟩ }
        else .next { s with unit := { s.unit with posts := { s.unit.posts with service := false } } }) ∧
    (∀ l, s.device ≠ .run → exec (.laneExamine l) s = .next s)

/-- A fill with room for one entry takes the POSTED slot at the cursor; a fill of a PAUSED lane, of a full queue or with no
POSTED slot at the cursor takes nothing. The model's own readings in it: log 14. -/
def Obligations.FillTakesPostedSlot : Prop :=
  ∀ (s : State) (a : Arm),
    let l := s.lanes.get a
    (l.paused = true ∨ 8 ≤ (s.arm a).queue.length ∨ l.posted s.shm = false → s.fill a = s) ∧
    (l.paused = false → (s.arm a).queue.length = 7 → l.posted s.shm = true → s.holdsSlot a l.cursor = false →
      s.shm.wf = true → l.base + 32 * l.cursor + 32 ≤ 65536 →
      (s.fill a).arm a = { s.arm a with
        queue := (s.arm a).queue ++ [⟨l.cursor, s.shm.readList (l.base + 32 * l.cursor) 32⟩] } ∧
      (s.fill a).lanes = s.lanes.set a { l with cursor := if l.cursor + 1 < l.count then l.cursor + 1 else 0 } ∧
      field ((s.fill a).shm.get (l.base + 32 * l.cursor)) 0 8 = 2 ∧
      field ((s.fill a).shm.get (l.base + 32 * l.cursor)) 8 24 = field (s.shm.get (l.base + 32 * l.cursor)) 8 24 ∧
      ∀ j, j ≠ l.base + 32 * l.cursor → (s.fill a).shm.get j = s.shm.get j)

/-- A completion writes the twelve result words and the header of its slot, sets the lane's notice and changes nothing
else. The model's own readings in it: log 45. -/
def Obligations.CompletionWritesSlot : Prop :=
  ∀ (s : State) (a : Arm) (copy : SlotCopy) (c : Completion) (ws : List Word), s.shm.wf = true → ws.length ≤ 12 →
    (s.lanes.get a).slotBase copy.index + 32 ≤ 65536 →
    let base := (s.lanes.get a).slotBase copy.index
    let t := s.completeMotionSlot a copy c (some ws)
    t.shm.get base = natWord (c.slotState + copy.kindCode * 256 + copy.tag * 65536) ∧ t.shm.get (base + 1) = copy.word 1 ∧
      t.shm.get (base + 2) = natWord (c.status.code + faultCodeOf c.fault * 256 + c.flags.bits) ∧
      t.shm.get (base + 3) = s.tickNo ∧ (∀ k, k < 12 → t.shm.get (base + 20 + k) = ws.getD k 0) ∧
      (∀ j, (j < base ∨ base + 4 ≤ j) → (j < base + 20 ∨ base + 32 ≤ j) → t.shm.get j = s.shm.get j) ∧
      t.unit.notices = s.unit.notices ||| (laneNotice a).one ∧ t.arms = s.arms ∧ t.lanes = s.lanes ∧ t.svc = s.svc ∧
      t.latches = s.latches ∧ t.zone = s.zone ∧ t.corr = s.corr ∧ t.therm = s.therm ∧ t.tables = s.tables

/-- A block-level fault ends the block FAULTED with its code, pauses the lane, empties the queue and leaves the arm
between blocks. Its release test gives the grant up where the arm stands outside its box: to the other arm where that
waits, whose step 6 is then due, and otherwise to none; the other arm is otherwise not changed. The model's own readings
in it: log 45. -/
def Obligations.BlockFaultEndsBlock : Prop :=
  ∀ (s : State) (a : Arm) (b : Block) (f : FaultCode), (s.arm a).exec = some b →
    (s.lanes.get a).paused = false → s.shm.wf = true → (s.lanes.get a).slotBase b.slot.index + 32 ≤ 65536 →
    (∀ c ∈ (s.arm a).queue, c.index ≠ b.slot.index) →
    let base := (s.lanes.get a).slotBase b.slot.index
    let t := s.blockFault a f
    (t.arm a).exec = none ∧ (t.arm a).committed = none ∧ (t.arm a).queue = [] ∧
      (t.arm a).state = (if (s.arm a).holdLevel then .held else (s.arm a).free) ∧ (t.lanes.get a).paused = true ∧
      (t.arm a).cmd = (s.arm a).cmd ∧ (t.arm a).frameOffset = (s.arm a).frameOffset ∧
      (t.arm a).axes = (s.arm a).axes ∧ t.zone.waits.get a = .idle ∧
      (s.unasked a = true → t.arm a.other = s.arm a.other ∧ s.tested t a (s.arm a).cmd (some false)) ∧
      (s.unasked a = false → s.clears a (s.arm a).cmd → t.zone.holder = some a.other ∧ t.zone.last = some a.other ∧
        t.zone.waits.get a.other = .idle ∧ t.arm a.other = { s.arm a.other with due := some .stepSix }) ∧
      (s.unasked a = false → ¬ s.clears a (s.arm a).cmd → t.arm a.other = s.arm a.other ∧ t.zone.holder = s.zone.holder) ∧
      t.shm.get base = natWord (slotFaulted + b.slot.kindCode * 256 + b.slot.tag * 65536) ∧
      t.shm.get (base + 2) = natWord (f.code * 256 + b.flags.bits) ∧ t.corr = s.corr ∧ t.therm = s.therm

/-- The answer of a service request: the completion is written, the SERVICE notice set, the engine idle, no slot taken
where the cursor slot is not POSTED, and nothing else changes. The model's own readings in it: log 45. -/
def Obligations.ServiceAnswerCompletes : Prop :=
  ∀ (s : State) (q : SvcReq) (ans : Answer), s.svc = some q → s.shm.wf = true →
    s.svcLane.slotBase q.slot.index + 32 ≤ 65536 → s.svcLane.posted s.shm = false → ans.words.length ≤ 12 →
    let base := s.svcLane.slotBase q.slot.index
    let t := s.svcAnswer ans
    t = { s with shm := t.shm, svc := none }.setNotice .service ∧
      t.shm.get base = natWord ((match ans with
        | .done _ => 3
        | .refused _ => 4) + q.slot.kindCode * 256 + q.slot.tag * 65536) ∧
      t.shm.get (base + 2) = natWord (match ans with
        | .done _ => 1
        | .refused f => f.code * 256) ∧
      t.shm.get (base + 3) = s.tickNo ∧ (∀ k, k < 12 → t.shm.get (base + 20 + k) = ans.words.getD k 0) ∧
      ∀ j, (j < base ∨ base + 4 ≤ j) → (j < base + 20 ∨ base + 32 ≤ j) → t.shm.get j = s.shm.get j

/-! ## Service requests -/

/-- STAGE_SET replaces the staged set where all seven coefficients are in range, and is refused with BAD_FIELD, the sets
unchanged, otherwise; it does not look at swap-pending or at the arms. -/
def Obligations.StageSetChecksThenStages : Prop :=
  ∀ (s : State) (c : SlotCopy), s.serving .stageSet c = true →
    ((∀ k, k < 7 → -131072 ≤ c.int (4 + k) ∧ c.int (4 + k) ≤ 131071) →
      exec .stageSet s = .next ({ s with corr := { s.corr with
        staged := ⟨⟨⟨c.int 4, c.int 5, c.int 6⟩, ⟨c.int 7, c.int 8, c.int 9⟩⟩, c.int 10⟩ } }.svcAnswer (.done []))) ∧
    ((∃ k, k < 7 ∧ (c.int (4 + k) < -131072 ∨ 131071 < c.int (4 + k))) →
      exec .stageSet s = .next (s.svcAnswer (.refused .badField)))

/-- SWAP_SET: refused while a swap is pending; with both arms between blocks the swap takes effect as the request
completes; with an arm executing a block outside its waits the swap stays pending. An arm in WAIT_ZONE withdraws: behind
an executing arm it enters WAIT_SWAP, and where the other arm has no block the swap takes effect. While a swap is pending,
a block start that passes its checks enters WAIT_SWAP; the completion of the other arm's block brings the swap and
releases it, shown of a DWELL. The model's own readings in it: log 44. -/
def Obligations.SwapSetPendsOrSwaps : Prop :=
  (∀ (s : State) (c : SlotCopy), s.serving .swapSet c = true →
    (s.corr.swapPending = true → exec .swapSet s = .next (s.svcAnswer (.refused .swapPending))) ∧
    (s.calm = true → (∀ a, (s.arm a).exec = none ∧ (s.arm a).state ≠ .active) →
      ∃ t, exec .swapSet s = .next t ∧ t.corr = ⟨s.corr.staged, s.corr.active, false⟩ ∧ t.arms = s.arms ∧
        t.shm = (s.svcAnswer (.done [])).shm ∧ t.unit.notices &&& Notice.swap.one ≠ 0) ∧
    (∀ a, s.calm = true → (s.arm a).exec ≠ none → (∀ x, (s.arm x).phase ≠ .waitSwap ∧ (s.arm x).phase ≠ .waitZone) →
      exec .swapSet s = .next ({ s with corr := { s.corr with swapPending := true } }.svcAnswer (.done []))) ∧
    (∀ (a : Arm) (b : Block), s.calm = true → (s.arm a).exec = some b → (s.arm a).state = .active →
      (s.arm a).phase = .waitZone → (s.arm a).due = none →
      (s.executing a.other = true → (s.arm a.other).phase ≠ .waitZone →
        exec .swapSet s = .next (({ s with
          corr := { s.corr with swapPending := true }
          zone := { s.zone with request := s.zone.request.set a false, waits := s.zone.waits.set a .idle } }.modArm a fun r =>
            { r with
              phase := .waitSwap
              exec := some { b with
                targets := [], used := none, limitHit := none, flags := { drifted := b.flags.drifted } } }).svcAnswer
                  (.done []))) ∧
      ((s.arm a.other).exec = none →
        ∃ t, exec .swapSet s = .next t ∧ t.corr = ⟨s.corr.staged, s.corr.active, false⟩ ∧
          t.unit.notices &&& Notice.swap.one ≠ 0))) ∧
  (∀ (s : State) (a : Arm) (c : SlotCopy) (b b2 : Block), s.settled = true → s.corr.swapPending = true →
    s.startable a = some c → (s.arm a).due = none → s.executing a.other = true → s.stepOne a c = .ok b →
    s.stepTwo a b = .go b2 →
    exec (startCommand a c.kind) s =
      .next ((s.takeHead a c).modArm a fun r => { r with exec := some b2, phase := .waitSwap })) ∧
  (∀ (s : State) (a : Arm) (b : Block) (n : Nat), s.settled = true → s.corr.swapPending = true →
    (s.arm a).dwellTimer = some n → s.unasked a = true → (s.arm a.other).state = .active →
    (s.arm a.other).phase = .waitSwap → (s.arm a.other).exec = some b → b.slot.kind = some .dwell → b.slot.nat 4 ≠ 0 →
    (s.arm a.other).due = none → (s.arm a.other).moving = false → (s.arm a.other).holdLevel = false →
    let t : State := s.completeDone a .ok
    exec (.dwellExpiry a) s =
      .next (({ t with corr := ⟨s.corr.staged, s.corr.active, false⟩ }.setNotice .swap).modArm a.other fun r =>
        { r with phase := .dwelling, dwellTimer := some (b.slot.nat 4) }))

/-- SET_SENSOR and SET_GROUP: applied at once with no scan in progress, held while one is. A SET_GROUP that names a
channel of another group is refused when it would be applied. -/
def Obligations.SensorAndGroupApplied : Prop :=
  (∀ (s : State) (c : SlotCopy) (i : Fin 32), s.serving .setSensor c = true → c.nat 4 = i.val → c.nat 5 = 1 →
    c.sensorSettingsOk = true → s.therm.scan = none →
    let new : Channel := { s.therm.chans[i] with
      listed := true, offset := c.int 6, gain := c.int 7, codeLo := c.int 8, codeHi := c.int 9, stepLimit := c.int 10,
      shift := c.nat 11, holdLimit := c.nat 12, sampleTime := c.nat 13, state := .lost, bad := 0 }
    exec .setSensor s =
      .next ({ s with therm := { s.therm with chans := s.therm.chans.set i new } }.svcAnswer (.done []))) ∧
  (∀ (s : State) (c : SlotCopy) (i : Fin 32), s.serving .setSensor c = true → c.nat 4 = i.val → c.nat 5 = 0 →
    s.therm.scan = none →
    let new : Channel := { s.therm.chans[i] with listed := false, state := .off, value := 2560, bad := 0 }
    exec .setSensor s =
      .next ({ s with therm := { s.therm with chans := s.therm.chans.set i new } }.svcAnswer (.done []))) ∧
  (∀ (s : State) (c : SlotCopy) (g : Fin 10) (ms : List (Fin 32)), s.serving .setGroup c = true → c.nat 4 = g.val →
    c.groupMembers = some ms → ms.Nodup → 1 ≤ c.nat 10 → c.nat 10 ≤ 255 →
    (∀ h : Fin 10, h ≠ g → ∀ m ∈ ms, m ∉ s.therm.groups[h].members) → s.therm.scan = none →
    let new : Sys2Proof.Machine.Group := { s.therm.groups[g] with
      members := ms, holdLimit := c.nat 10, held := 0, ring := [] }
    exec .setGroup s =
      .next ({ s with therm := { s.therm with groups := s.therm.groups.set g new } }.svcAnswer (.done []))) ∧
  (∀ (s : State) (c : SlotCopy), s.serving .setSensor c = true → 32 ≤ c.nat 4 →
    exec .setSensor s = .next (s.svcAnswer (.refused .badField))) ∧
  (∀ (s : State) (c : SlotCopy) (i : Fin 32) (l : List (Fin 32)), s.serving .setSensor c = true → c.nat 4 = i.val →
    c.nat 5 = 0 → s.therm.scan = some l → exec .setSensor s = .next { s with svc := some ⟨c, true⟩ }) ∧
  (∀ (s : State) (c : SlotCopy) (g : Fin 10) (ms : List (Fin 32)), s.serving .setGroup c = true → c.nat 4 = g.val →
    c.groupMembers = some ms → ms.Nodup → 1 ≤ c.nat 10 → c.nat 10 ≤ 255 →
    (∀ l, s.therm.scan = some l → exec .setGroup s = .next { s with svc := some ⟨c, true⟩ }) ∧
    (s.therm.scan = none → (∃ h : Fin 10, h ≠ g ∧ ∃ m ∈ ms, m ∈ s.therm.groups[h].members) →
      exec .setGroup s = .next (s.svcAnswer (.refused .badField))))

/-- SET_ZONE replaces the named arm's box when the field checks and the quiet checks pass, and is refused otherwise. -/
def Obligations.SetZoneReplacesBox : Prop :=
  ∀ (s : State) (c : SlotCopy), s.serving .setZone c = true →
    (2 ≤ c.nat 4 → exec .setZone s = .next (s.svcAnswer (.refused .badField))) ∧
    ∀ a : Arm, c.nat 4 = a.code →
      let b : Box := ⟨c.int 5, c.int 6, c.int 7, c.int 8⟩
      let ax := (s.armSet a).axes
      let fields : Prop := b.xlo ≤ b.xhi ∧ b.ylo ≤ b.yhi ∧ ax.x.lo < b.xlo ∧ b.xhi < ax.x.hi ∧ ax.y.lo < b.ylo ∧
        b.yhi < ax.y.hi
      let quiet : Prop := s.zone.holder = none ∧ s.zone.waits = ⟨.idle, .idle⟩ ∧ (s.arm a).exec = none ∧
        ((s.arm a).referenced = false ∨
          ¬ (b.xlo ≤ (s.arm a).cmd.x ∧ (s.arm a).cmd.x ≤ b.xhi ∧ b.ylo ≤ (s.arm a).cmd.y ∧ (s.arm a).cmd.y ≤ b.yhi))
      (fields → quiet → exec .setZone s =
        .next ({ s with zone := { s.zone with boxes := s.zone.boxes.set a b } }.svcAnswer (.done []))) ∧
      (fields → ¬ quiet → exec .setZone s = .next (s.svcAnswer (.refused .zoneBusy))) ∧
      (¬ fields → exec .setZone s = .next (s.svcAnswer (.refused .badField)))

/-- SET_PROBE is refused with BAD_FIELD, PROBE_IN_USE or PORT_STATE in this order; otherwise it writes its record, and the
two tables keep step: the new port is OCCUPIED, the old one EMPTY, no other port changes. SET_PORT is refused with BAD_FIELD
or PROBE_IN_USE; otherwise it writes its port, and the probe that stood in a port whose state it replaces is UNKNOWN.
READ_PROBE copies a record. Each field stands in the word that 12.6 gives it. The model's own readings in it: log 30, 46. -/
def Obligations.ProbeAndPortRequests : Prop :=
  (∀ (s : State) (c : SlotCopy), s.serving .setProbe c = true →
    let arm := field (c.word 6) 8 8
    let place := field (c.word 6) 16 8
    let onRack (p : Nat) : Prop := p < 12 ∧ p / 6 = arm
    let refused (f : FaultCode) : Prop := exec .setProbe s = .next (s.svcAnswer (.refused f))
    (24 ≤ c.nat 4 ∨ c.nat 5 = 0 ∨ (∃ j : Fin 24, j.val ≠ c.nat 4 ∧ s.tables.probes[j].serial = c.nat 5) ∨
      (field (c.word 6) 0 8 ≠ 1 ∧ field (c.word 6) 0 8 ≠ 2) ∨ 2 ≤ arm ∨ (place ≠ 0 ∧ place ≠ 1 ∧ place ≠ 3) ∨
      (place = 1 ∧ ¬ onRack (field (c.word 6) 24 8)) ∨ (place ≠ 1 ∧ c.nat 15 ≠ 255 ∧ ¬ onRack (c.nat 15)) ∨
      16777216 < (c.int 7).natAbs ∨ 16777216 < (c.int 8).natAbs ∨ 16777216 < (c.int 9).natAbs ∨ 16777216 < c.nat 10 ∨
      c.int 11 < -131072 ∨ 131071 < c.int 11 ∨ c.nat 12 < 1 ∨ 10240 < c.nat 12 ∨
      (c.nat 14 = 1 ∧ (c.int 13 < -2560 ∨ 7680 < c.int 13)) ∨ 1 < c.nat 14 → refused .badField) ∧
    (s.probeRequest c = none → refused .badField) ∧
    ∀ q : ProbeRequest, s.probeRequest c = some q →
      let i := q.index
      let new := s.tables.applyProbe q
      let used : Prop := (∃ o, s.tables.probes[i].loc = Location.mounted o) ∨
        ∃ (o : Arm) (b : Block), (s.arm o).exec = some b ∧ b.passed = true ∧ b.slot.kind = some .changeProbe ∧
          (b.change.target = some i ∨ b.change.stowed = some i ∨
            ∃ p, q.record.lastPort = some p ∧ (b.change.fetchPort = some p ∨ b.change.stowPort = some p))
      let fits : Prop := ∀ p : Fin 12, q.record.loc = Location.inPort p →
        s.tables.ports[p].state = .empty ∨ s.tables.ports[p].state = .occupied i
      (i.val = c.nat 4 ∧ q.record.serial = c.nat 5 ∧ q.record.tip = ⟨c.int 7, c.int 8, c.int 9⟩ ∧
        q.record.radius = c.int 10 ∧ q.record.alpha = c.int 11 ∧ q.record.driftLimit = c.int 12 ∧
        (c.nat 14 = 0 → q.record.qual = .new ∧ q.record.tq = 2560) ∧
        (c.nat 14 = 1 → q.record.qual = .qualified ∧ q.record.tq = c.int 13) ∧
        (q.record.kind = if field (c.word 6) 0 8 = 1 then .touch else .scanningTouch) ∧
        (q.record.arm = if arm = 0 then .A else .B) ∧ (place = 0 → q.record.loc = .absent) ∧
        (place = 1 → ∃ p : Fin 12, p.val = field (c.word 6) 24 8 ∧ q.record.loc = .inPort p ∧ q.record.lastPort = some p) ∧
        (place = 3 → q.record.loc = .unknown) ∧ (place ≠ 1 → c.nat 15 = 255 → q.record.lastPort = none) ∧
        (∀ p : Fin 12, place ≠ 1 → c.nat 15 = p.val → q.record.lastPort = some p) ∧
        ∀ p, q.record.loc = Location.inPort p → q.record.lastPort = some p) ∧
      (used → refused .probeInUse) ∧ (¬ used → ¬ fits → refused .portState) ∧
      (¬ used → fits → exec .setProbe s = .next ({ s with tables := new }.svcAnswer (.done []))) ∧
      new.probes = s.tables.probes.set i q.record ∧
      ∀ p : Fin 12, (new.ports[p] : Port) = { s.tables.ports[p] with
        state :=
          if q.record.loc = Location.inPort p then .occupied i
          else if s.tables.probes[i].loc = Location.inPort p then .empty
          else s.tables.ports[p].state }) ∧
  (∀ (s : State) (c : SlotCopy), s.serving .setPort c = true →
    let refused (f : FaultCode) : Prop := exec .setPort s = .next (s.svcAnswer (.refused f))
    (12 ≤ c.nat 4 ∨ 4 ≤ c.nat 5 ∨ (∃ k, k < 6 ∧ 536870912 < (c.int (6 + k)).natAbs) ∨ 16 ≤ c.nat 12 ∨ 3 ≤ c.nat 13 ∨
      536870912 < (c.int 14).natAbs ∨ 2 ≤ c.nat 15 → refused .badField) ∧
    (portRequest c = none → refused .badField) ∧
    ∀ q : PortRequest, portRequest c = some q →
      let i := q.index
      let new := s.tables.applyPort q
      let used : Prop := ∃ (o : Arm) (b : Block), (s.arm o).exec = some b ∧ b.passed = true ∧
        b.slot.kind = some .changeProbe ∧ (b.change.fetchPort = some i ∨ b.change.stowPort = some i)
      i.val = c.nat 4 ∧ (used → refused .probeInUse) ∧
      (¬ used → exec .setPort s = .next ({ s with tables := new }.svcAnswer (.done []))) ∧
      (new.ports[i].approach = ⟨c.int 6, c.int 7, c.int 8⟩ ∧ new.ports[i].dock = ⟨c.int 9, c.int 10, c.int 11⟩ ∧
        new.ports[i].coverUnit.val = c.nat 12 ∧ new.ports[i].coverAxis.code = c.nat 13 ∧
        new.ports[i].coverValue = c.int 14 ∧ (new.ports[i].coverDir = .up ↔ c.nat 15 = 0)) ∧
      (c.nat 5 = 0 → new.ports[i].state = s.tables.ports[i].state ∧ new.probes = s.tables.probes) ∧
      (c.nat 5 = 1 → new.ports[i].state = .disabled) ∧ (c.nat 5 = 2 → new.ports[i].state = .empty) ∧
      (c.nat 5 = 3 → new.ports[i].state = .unknown) ∧
      (∀ m, c.nat 5 ≠ 0 → s.tables.ports[i].state = .occupied m →
        new.probes = s.tables.probes.set m { s.tables.probes[m] with loc := .unknown }) ∧
      ((∀ m, s.tables.ports[i].state ≠ .occupied m) → new.probes = s.tables.probes) ∧
      ∀ p : Fin 12, p ≠ i → (new.ports[p] : Port) = s.tables.ports[p]) ∧
  (∀ (s : State) (c : SlotCopy) (i : Fin 24), s.serving .readProbe c = true → c.nat 4 = i.val →
    let p : Probe := s.tables.probes[i]
    let place : Nat := match p.loc with
      | .absent => 0
      | .inPort q => 1 * 65536 + q.val * 16777216
      | .mounted .A => 2 * 65536
      | .mounted .B => 2 * 65536 + 16777216
      | .unknown => 3 * 65536
    let kind : Nat := match p.kind with
      | .touch => 1
      | .scanningTouch => 2
    let arm : Nat := match p.arm with
      | .A => 0
      | .B => 256
    exec .readProbe s = .next (s.svcAnswer (.done [natWord p.serial, natWord (kind + arm + place), intWord p.tip.x,
      intWord p.tip.y, intWord p.tip.z, intWord p.radius, intWord p.alpha, intWord p.driftLimit, intWord p.tq,
      natWord (match p.qual with
        | .new => 0
        | .qualified => 1
        | .drifted => 2),
      natWord (match p.lastPort with
        | none => 255
        | some q => q.val)]))) ∧
  (∀ (s : State) (c : SlotCopy), s.serving .readProbe c = true → 24 ≤ c.nat 4 →
    exec .readProbe s = .next (s.svcAnswer (.refused .badField)))

/-- CLEAR_FAULT makes its tests in their order and returns the arm; REOPEN_LANE makes its tests in their order, sets the
cursor, opens the lane and asks for a fill. The model's own readings in it: log 28. -/
def Obligations.ClearFaultAndReopen : Prop :=
  (∀ (s : State) (c : SlotCopy), 2 ≤ c.nat 4 →
    (s.serving .clearFault c = true → exec .clearFault s = .next (s.svcAnswer (.refused .badField))) ∧
    (s.serving .reopenLane c = true → exec .reopenLane s = .next (s.svcAnswer (.refused .badField)))) ∧
  (∀ (s : State) (c : SlotCopy) (a : Arm), s.serving .clearFault c = true → c.nat 4 = a.code → s.settled = true →
    (s.unit.stop = .active → exec .clearFault s = .next (s.svcAnswer (.refused .lineActive))) ∧
    (s.unit.stop = .released → (s.arm a).state ≠ .fault →
      exec .clearFault s = .next (s.svcAnswer (.refused .badField))) ∧
    (s.unit.stop = .released → (s.arm a).state = .fault →
      exec .clearFault s = .next ((s.modArm a fun r => { r with
        state := if r.holdLevel then .held else if r.referenced then .idle else .unreferenced }).svcAnswer (.done [])))) ∧
  (∀ (s : State) (c : SlotCopy) (a : Arm), s.serving .reopenLane c = true → c.nat 4 = a.code →
    ((s.lanes.get a).count ≤ c.nat 5 → exec .reopenLane s = .next (s.svcAnswer (.refused .badField))) ∧
    (c.nat 5 < (s.lanes.get a).count →
      (s.arm a).state = .fault ∨ (s.arm a).exec ≠ none ∨ (s.arm a).committed ≠ none ∨ (s.arm a).queue ≠ [] →
      exec .reopenLane s = .next (s.svcAnswer (.refused .wrongState))) ∧
    (c.nat 5 < (s.lanes.get a).count → (s.arm a).state ≠ .fault → (s.arm a).exec = none → (s.arm a).committed = none →
      (s.arm a).queue = [] →
      let lane : LaneRec := { s.lanes.get a with cursor := c.nat 5, paused := false }
      exec .reopenLane s = .next (({ s with lanes := s.lanes.set a lane }.svcAnswer (.done [])).fill a)))

/-! ## Block starts -/

/-- A head refused at step 1, at step 2 or by the limit check of step 4 completes FAULTED with the fault, one of no motion
kind with BAD_KIND; the refusals of step 2 come in their order. A request of no service kind is refused with BAD_KIND.
That a PROBE_POINT refused with OUT_OF_LIMITS has made no drift check is the model's reading (log 31). The model's own
readings in it: log 13, 19, 29, 31. -/
def Obligations.BadKindsRefused : Prop :=
  (∀ (s : State) (a : Arm) (c : SlotCopy), s.boundary a c = true → s.unasked a = true →
     (c.kind = none → exec (.motionBadKind a) s = .next ((s.takeHead a c).blockFault a .badKind)) ∧
     let refused (f : FaultCode) : Prop := exec (startCommand a c.kind) s = .next ((s.takeHead a c).blockFault a f)
     (∀ f, s.stepOne a c = .error f → refused f) ∧
     (∀ (b : Block) (k : Kind), s.stepOne a c = .ok b → c.kind = some k →
       let probed : Prop := k = .probePoint ∨ k = .qualify ∨ (k = .move ∧ b.frame = .part)
       let moves : Prop := k = .move ∨ k = .probePoint ∨ k = .qualify ∨ k = .changeProbe
       let passed : Prop := s.commonCheck a k b.frame = none
       (∀ f, s.stepTwo a b = .refuse f → refused f) ∧
       (moves → (s.arm a).referenced = false → refused .notReferenced) ∧
       (probed → (s.arm a).referenced = true →
         ((s.arm a).mounted = .none → refused .noProbe) ∧
         ((s.arm a).mounted = .unverified ∨ (s.arm a).mounted = .foreign → refused .mountUnknown) ∧
         ∀ i : Fin 24, (s.arm a).mounted = .probe i → k = .probePoint → s.tables.probes[i].qual = .new →
           refused .notQualified) ∧
       (∀ u : Fin 16, c.captureUnit k = some u → passed →
         (s.latches[u].alloc ≠ some a → refused .latchNotOwned) ∧
         (s.latches[u].alloc = some a → s.latches[u].state ≠ .idle → refused .latchBusy) ∧
         (s.latches[u].alloc = some a → s.latches[u].state = .idle → k ≠ .home → s.pins.trig.get a = true →
           refused .probeEngaged)) ∧
       (k = .identify → (s.arm a).mounted = .none → refused .noProbe) ∧
       (k = .changeProbe → passed →
         ((s.arm a).mounted = .unverified ∨ (s.arm a).mounted = .foreign → refused .mountUnknown) ∧
         ∀ i : Fin 24, c.nat 4 = i.val → (s.arm a).mounted = .none → (∀ p, s.tables.probes[i].loc ≠ Location.inPort p) →
           refused .portState) ∧
       ∀ (b2 : Block) (f : FaultCode), s.stepTwo a b = .go b2 → (s.bind a b2).2 = some f →
         f = .outOfLimits ∧ (s.bind a b2).1.limitHit ≠ none ∧
         exec (startCommand a c.kind) s = .next (((s.takeHead a c).modArm a fun r =>
           { r with exec := some (s.bind a b2).1 }).blockFault a .outOfLimits))) ∧
  (∀ (s : State) (q : SvcReq), s.svc = some q → (∀ k ∈ [0x11, 0x12, 0x13, 0x14, 0x15, 0x16, 0x17, 0x18, 0x19, 0x1A],
     q.slot.kindCode ≠ k) → exec .serviceBadKind s = .next (s.svcAnswer (.refused .badKind)))

/-- MOVE: bound and within its limits, it begins its first segment where it needs no grant or holds it, and presents its
request otherwise. A first segment of length 0 ends at once; where it is the only one, the block completes. A further
segment begins, and takes its first step, at the tick after the one before it ended. At its commit point a MOVE with PASS
commits the head of the queue, whose first segment needs no grant or finds it held, or is STARVED; at the end of its
segment a committed block takes over with the velocity kept. The model's own readings in it: log 8, 9, 10, 15, 34, 43, 45. -/
def Obligations.MoveBeginsSegmentsAndPasses : Prop :=
  (∀ (s : State) (a : Arm) (c : SlotCopy) (f : Frame), s.boundary a c = true → c.kind = some .move →
    resolveFrame (s.armSet a).frame .move c.selector = some f → c.moveOk = true → s.commonCheck a .move f = none →
    (s.bind a (s.startedBlock a c f)).2 = none →
    let b := (s.bind a (s.startedBlock a c f)).1
    let feed := perTickFeed s.settings.period (min (c.nat 4) (s.armSet a).maxFeed)
    let seg := Seg.between (s.arm a).cmd (b.target 0) feed feed 0 0
    ((s.blockNeedsZone a (s.arm a).cmd b = false ∨ s.holdsGrant a = true) → seg.len ≠ 0 →
      exec (.move a) s = .next ((s.takeHead a c).modArm a fun r =>
        { r with exec := some b, phase := .moving, seg := seg, moving := true })) ∧
    (s.blockNeedsZone a (s.arm a).cmd b = true → s.holdsGrant a = false →
      exec (.move a) s = .next (((s.takeHead a c).modArm a fun r => { r with exec := some b }).zoneRequest a)) ∧
    (s.blockNeedsZone a (s.arm a).cmd b = false → s.unasked a = true → seg.len = 0 → c.moveCount = 1 →
      exec (.move a) s = .next (((s.takeHead a c).modArm a fun r =>
        { r with exec := some b, phase := .moving, seg := seg }).completeDone a .ok))) ∧
  (∀ (s : State) (first a : Arm) (rd : Duo (Tri Reading)) (b : Block), (s.arm a).state = .active → (s.arm a).exec = some b →
     b.slot.kind = some .move →
     let feed (n : Nat) : Nat := perTickFeed s.settings.period (min n (s.armSet a).maxFeed)
     ((s.arm a).due = some .nextLeg → (s.arm a).moving = false → (s.arm a).holding = false → (s.arm a).holdLevel = false →
       b.slot.pass = false →
       let seg := Seg.between (s.arm a).cmd (b.target b.leg) (feed (b.slot.nat 4)) (feed (b.slot.nat 4)) 0 0
       let g := seg.step (s.accOf a)
       seg.len ≠ 0 → g.atEnd = false → s.loneTick a g.position rd = true →
       ∃ t, exec (.tick first rd) s = .next t ∧ s.ticked t a rd ∧ t.arm a = { s.arm a with
         phase := .moving
         due := none
         moving := true
         seg := g
         cmd := g.position
         axes := portsAtTick (s.arm a).axes g.position (rd.get a) }) ∧
     (s.atCommitPoint a b = true →
       (s.meetsTick a rd = true → (s.tickedSeg a).atEnd = false →
         ((s.arm a).queue = [] ∨ (∃ c q, (s.arm a).queue = c :: q ∧ (c.kind ≠ some .move ∨ (∃ f, s.stepOne a c = .error f) ∨
           ∃ h, s.stepOne a c = .ok h ∧ ((∃ f, s.stepTwo a h = .refuse f) ∨ ∃ h2, s.stepTwo a h = .go h2 ∧
             ((s.bind a h2).2 ≠ none ∨ (s.bind a h2).1.target 0 = b.target b.leg ∨
               (s.blockNeedsZone a (b.target b.leg) (s.bind a h2).1 = true ∧ s.holdsGrant a = false)))))) →
         ∃ t, exec (.tick first rd) s = .next t ∧ s.ticked t a rd ∧ t.arm a = { s.advancedArm a (rd.get a) with
           exec := some { b with passTested := true, flags := { b.flags with starved := true } } }) ∧
       (∀ (c : SlotCopy) (q : List SlotCopy) (h h2 : Block), (s.arm a).queue = c :: q → c.kind = some .move →
         s.stepOne a c = .ok h → s.stepTwo a h = .go h2 → (s.bind a h2).2 = none →
         (s.bind a h2).1.target 0 ≠ b.target b.leg →
         (s.blockNeedsZone a (b.target b.leg) (s.bind a h2).1 = false ∨ s.holdsGrant a = true) →
         let p : State := s.modArm a fun r =>
           { r with seg := { r.seg with vEnd := min r.seg.f2 (feed (c.nat 4)) } }
         p.meetsTick a rd = true → (p.tickedSeg a).atEnd = false →
         ∃ t, exec (.tick first rd) s = .next t ∧ s.ticked t a rd ∧
           t.arm a = { p.advancedArm a (rd.get a) with
             exec := some { b with passTested := true }, committed := some (s.bind a h2).1, queue := (t.arm a).queue } ∧
           ((s.lanes.get a).posted s.shm = false → (t.arm a).queue = q))) ∧
     (∀ h : Block, s.meetsTick a rd = true → (s.arm a).phase = .moving → (s.arm a).holding = false →
       (s.arm a).committed = some h → s.atCommitPoint a b = false → (s.tickedSeg a).atEnd = true → b.passed = true →
       b.limitHit = none → b.leg + 1 = b.targets.length → s.slotFits a b.slot → s.mayRelease first a →
       let r := s.advancedArm a (rd.get a)
       ∃ t, exec (.tick first rd) s = .next t ∧ s.tickedTest t a rd r.cmd (some (s.blockNeedsZone a r.cmd h)) ∧
         t.arm a = { r with
           exec := some h
           committed := none
           queue := (t.arm a).queue
           seg := Seg.between r.cmd (h.target 0) (feed (h.slot.nat 4)) (feed (h.slot.nat 4)) 0 r.seg.v } ∧
         t.unit.notices &&& (laneNotice a).one ≠ 0 ∧
         t.slotSays a b.slot slotDone (1 + b.flags.bits) (s.tickNo + 1) ∧
         t.slotGives a b.slot [intWord (b.target b.leg).x, intWord (b.target b.leg).y, intWord (b.target b.leg).z]))

/-- DWELL and WAIT_STABLE enter their wait with their timer; a time of 0, and a group already stable, complete at once with
OK; a WAIT_STABLE with a timeout of 0 whose group is not stable completes at once with UNSTABLE. -/
def Obligations.WaitsBeginOrCompleteAtOnce : Prop :=
  ∀ (s : State) (a : Arm) (c : SlotCopy) (f : Frame), s.boundary a c = true →
    (c.kind = some .dwell → resolveFrame (s.armSet a).frame .dwell c.selector = some f → c.nat 4 ≤ 600000 →
      (c.nat 4 ≠ 0 → exec (.dwell a) s = .next ((s.takeHead a c).modArm a fun r =>
        { r with exec := some (s.startedBlock a c f), phase := .dwelling, dwellTimer := some (c.nat 4) })) ∧
      (c.nat 4 = 0 → s.unasked a = true → exec (.dwell a) s = .next (((s.takeHead a c).modArm a fun r =>
        { r with exec := some (s.startedBlock a c f), phase := .dwelling }).completeDone a .ok))) ∧
    (c.kind = some .waitStable → resolveFrame (s.armSet a).frame .waitStable c.selector = some f → c.nat 4 ≤ 9 →
      c.nat 5 ≤ 10240 → c.nat 6 ≤ 3600 →
      (s.stableNow c = false → c.nat 6 ≠ 0 → exec (.waitStable a) s = .next ((s.takeHead a c).modArm a fun r =>
        { r with exec := some (s.startedBlock a c f), phase := .waitingStable, stableTimer := some (c.nat 6) })) ∧
      (s.stableNow c = true → s.unasked a = true →
        exec (.waitStable a) s = .next (((s.takeHead a c).modArm a fun r =>
          { r with exec := some (s.startedBlock a c f), phase := .waitingStable }).completeDone a .ok)) ∧
      (s.stableNow c = false → c.nat 6 = 0 → s.unasked a = true →
        exec (.waitStable a) s = .next (((s.takeHead a c).modArm a fun r =>
          { r with exec := some (s.startedBlock a c f), phase := .waitingStable }).completeDone a .unstable)))

/-- SET_FRAME in the MACHINE frame sets the frame offset and completes with the previous offset as its result. -/
def Obligations.SetFrameReplacesOffset : Prop :=
  ∀ (s : State) (a : Arm) (c : SlotCopy), s.boundary a c = true → s.unasked a = true → c.kind = some .setFrame →
    resolveFrame (s.armSet a).frame .setFrame c.selector = some .machine → (c.vec 4).coordOk = true →
    exec (.setFrame a) s = .next (((s.takeHead a c).modArm a fun r =>
      { r with exec := some (s.startedBlock a c .machine), frameOffset := ⟨c.int 4, c.int 5, c.int 6⟩ }).completeWith a
        [intWord (s.arm a).frameOffset.x, intWord (s.arm a).frameOffset.y, intWord (s.arm a).frameOffset.z])

/-- SET_LATCH makes its action's change of the unit and completes with the unit's record as it then stands. The model's own
readings in it: log 19, 30. -/
def Obligations.SetLatchActsOnUnit : Prop :=
  ∀ (s : State) (a : Arm) (c : SlotCopy) (f : Frame) (u : Fin 16) (act : LatchAction), s.boundary a c = true →
    s.unasked a = true → c.kind = some .setLatch → resolveFrame (s.armSet a).frame .setLatch c.selector = some f →
    c.setLatchOk = true → c.nat 4 = u.val → latchAction? (c.nat 5) = some act → s.latchCheck a c = none →
    let old : LatchUnit := s.latches[u]
    let new : LatchUnit := match act with
      | .allocate => { (c.latchSettings old).getD old with alloc := some a, cap := ⟨⟨0, 0, 0⟩, 0, false⟩, extra := 0 }
      | .release => { old with alloc := none }
      | .arm => { old with
          state := .armed
          armedBy := .standing
          extra := 0
          cap := ⟨⟨0, 0, 0⟩, 0, false⟩
          previous := if old.mode = .compare then ((s.arm a).axes.get old.axis).count else old.previous }
      | .disarm => { old with state := .idle, armedBy := .none }
      | .read => old
    exec (.setLatch a) s = .next ((((s.takeHead a c).modArm a fun r =>
      { r with exec := some (s.startedBlock a c f) }).setUnit u new).completeWith a new.words)

/-- HOME with the grant held begins the search of Z: the arm and its axes are unreferenced, the unit is armed on REFM of
Z; without the grant it presents its request. At rest after a capture the axis is shifted and referenced, and the search
of X after Z and of Y after X begins; after Y the arm runs back inside its limits, or is referenced and the block
completes. A search that reaches its end is HOME_MISSED. The arm may hold the grant throughout; the completion and
HOME_MISSED make the release test, which passes the grant to an arm that waits. The model's own readings in it: log 8, 9,
10, 15, 19, 33, 34, 45. -/
def Obligations.HomeSearchesAndReferences : Prop :=
  (∀ (s : State) (a : Arm) (c : SlotCopy) (u : Fin 16), s.boundary a c = true → c.kind = some .home →
    c.selector ≠ 3 → c.nat 4 = u.val → s.unitCheck a u = none →
    let feed := perTickFeed s.settings.period (min (s.armSet a).homeFeed (s.armSet a).maxFeed)
    let seg := Seg.between (s.arm a).cmd (s.homeEnd a .Z) feed feed 0 0
    (s.holdsGrant a = true → seg.len ≠ 0 →
      let armed := (s.takeHead a c).setUnit u (s.latches[u].searching (.refm .Z) c.index)
      exec (.home a) s = .next (armed.modArm a fun r => { r with
          exec := some (s.startedBlock a c .machine)
          phase := .homeSearch .Z
          referenced := false
          axes := r.axes.map fun p => { p with referenced := false }
          seg := seg
          moving := true })) ∧
    (s.holdsGrant a = false →
      exec (.home a) s = .next (((s.takeHead a c).modArm a fun r =>
        { r with exec := some (s.startedBlock a c .machine) }).zoneRequest a))) ∧
  (∀ (s : State) (first a : Arm) (rd : Duo (Tri Reading)) (b : Block) (u : Fin 16), s.meetsTick a rd = true →
     (s.arm a).state = .active → (s.arm a).holding = false → (s.arm a).holdLevel = false → (s.arm a).exec = some b →
     (s.arm a).committed = none → b.slot.kind = some .home → b.limitHit = none → s.captureUnitOf a b u →
     let r := s.advancedArm a (rd.get a)
     let set := s.armSet a
     let feed := perTickFeed s.settings.period (min set.homeFeed set.maxFeed)
     let completes (t : State) (cmd : Vec) (axes : Tri AxisPort) : Prop :=
       s.tickedTest t a rd cmd (queueNeeds (s.arm a).queue) ∧ (t.arm a).rests .idle cmd axes ∧ (t.arm a).referenced = true ∧
         (t.lanes.get a).paused = (s.lanes.get a).paused ∧ t.unit.notices &&& (laneNotice a).one ≠ 0 ∧
         t.slotSays a b.slot slotDone (1 + b.flags.bits) (s.tickNo + 1)
     (∀ x : Axis, (s.arm a).phase = .homeStop x → (r.seg.v = 0 ∨ r.seg.atEnd = true) →
       let unit : LatchUnit := s.latches[u]
       let delta := (set.axes.get x).reference - unit.cap.counts.get x
       let cmd := r.cmd.set x (r.cmd.get x + delta)
       let p := r.axes.get x
       let axes := r.axes.set x ⟨p.offset + delta, true, p.setpoint + delta, p.count + delta⟩
       let found := { b with home := { b.home with
         axes := b.home.axes.set x ⟨unit.cap.counts.get x, delta, unit.extra⟩ } }
       let limits : Vec := Tri.map2 (fun l c => max l.lo (min c l.hi)) set.axes cmd
       (∀ y : Axis, (x = .Z ∧ y = .X) ∨ (x = .X ∧ y = .Y) →
         let far : Int := if (set.axes.get y).negative then cmd.get y - set.searchDist else cmd.get y + set.searchDist
         let seg := Seg.between cmd (cmd.set y (max (-1073741824) (min far 1073741824))) feed feed 0 0
         seg.len ≠ 0 → ∃ t, exec (.tick first rd) s = .next t ∧ s.ticked t a rd ∧
           t.arm a = { r with phase := .homeSearch y, cmd := cmd, axes := axes, seg := seg, exec := some found } ∧
           t.latches[u] = unit.searching (.refm y) b.slot.index) ∧
       (∀ v : Fin 16, s.latches[v].alloc = some a → s.latches[v].mode = .compare → s.latches[v].axis = x →
         s.mayRelease first a → ∃ t, exec (.tick first rd) s = .next t ∧ t.latches[v].previous =
           (if s.latches[v].state = .idle then s.latches[v].previous else p.count) + delta) ∧
       (x = .Y → limits = cmd → s.slotFits a b.slot → s.mayRelease first a → ∃ t, exec (.tick first rd) s = .next t ∧
         completes t cmd axes ∧ t.latches[u] = unit.unarmed ∧
         t.slotGives a b.slot [intWord b.home.axes.z.captured, intWord b.home.axes.z.delta, intWord b.home.axes.x.captured,
           intWord b.home.axes.x.delta, intWord (unit.cap.counts.get .Y), intWord delta]) ∧
       (x = .Y → limits ≠ cmd → (Seg.between cmd limits feed feed 0 0).len ≠ 0 →
         ∃ t, exec (.tick first rd) s = .next t ∧ s.ticked t a rd ∧ t.latches[u] = unit.unarmed ∧
           t.arm a = { r with phase := .limitReturn, cmd := cmd, axes := axes, seg := Seg.between cmd limits feed feed 0 0,
                              exec := some found })) ∧
     (∀ x : Axis, (s.arm a).phase = .homeSearch x → r.seg.atEnd = true → s.slotFits a b.slot → s.mayRelease first a →
       ∃ t, exec (.tick first rd) s = .next t ∧ s.tickedTest t a rd r.cmd (some false) ∧
         (t.arm a).rests (s.arm a).free r.cmd r.axes ∧ (t.lanes.get a).paused = true ∧ t.latches[u] = s.latches[u].unarmed ∧
         t.slotSays a b.slot slotFaulted (FaultCode.homeMissed.code * 256 + b.flags.bits) (s.tickNo + 1) ∧
         field (t.shm.get ((s.lanes.get a).slotBase b.slot.index + 27)) 8 2 = x.code ∧
         field (t.shm.get ((s.lanes.get a).slotBase b.slot.index + 27)) 10 1 = 1) ∧
     ((s.arm a).phase = .limitReturn → r.seg.atEnd = true → s.slotFits a b.slot → s.mayRelease first a →
       ∃ t, exec (.tick first rd) s = .next t ∧ completes t r.cmd r.axes))

/-- PROBE_POINT with its checks passed and no grant needed makes its drift check and begins its approach. A drift check of
a QUALIFIED record that fails turns it DRIFTED with the PROBE notice. At the end of the approach the unit is armed and the
search begins, or the block is PROBE_ENGAGED with TRIG active. A search that reaches its end is MISSED, and the stop of a
touch ends, in the retract; the retract's end completes the block OK or MISSED, or is PROBE_ENGAGED with TRIG active. The
model's own readings in it: log 8, 9, 10, 19, 33, 34, 45. -/
def Obligations.ProbePointRunsItsTouch : Prop :=
  (∀ (s : State) (a : Arm) (c : SlotCopy) (f : Frame) (u : Fin 16), s.boundary a c = true → c.kind = some .probePoint →
    resolveFrame (s.armSet a).frame .probePoint c.selector = some f → c.probePointOk = true → c.nat 14 = u.val →
    s.commonCheck a .probePoint f = none → s.unitCheck a u = none → s.pins.trig.get a = false →
    (s.bind a (s.startedBlock a c f)).2 = none →
    let b := (s.bind a (s.startedBlock a c f)).1
    let feed := perTickFeed s.settings.period (min (c.nat 12) (s.armSet a).maxFeed)
    let seg := Seg.between (s.arm a).cmd (b.target 0) feed feed 0 0
    (s.blockNeedsZone a (s.arm a).cmd b = false ∨ s.holdsGrant a = true) → seg.len ≠ 0 →
    exec (.probePoint a) s = .next ((((s.takeHead a c).modArm a fun r =>
      { r with exec := some b }).blockDriftCheck a).modArm a fun r =>
        { r with phase := .approach, seg := seg, moving := true })) ∧
  (∀ (s : State) (a : Arm) (i : Fin 24) (b : Block), (s.arm a).mounted = .probe i → (s.arm a).exec = some b →
     let p : Probe := s.tables.probes[i]
     let head : Int := (match a with
       | .A => s.therm.snap.groups[(6 : Fin 10)]
       | .B => s.therm.snap.groups[(7 : Fin 10)]).temp
     let flagged (t : State) : State := t.modArm a fun r =>
       { r with exec := some { b with flags := { b.flags with drifted := true } } }
     (p.qual = .qualified → p.driftLimit < |head - p.tq| → s.blockDriftCheck a =
       flagged ({ s with tables := { s.tables with
         probes := s.tables.probes.set i { p with qual := .drifted } } }.setNotice .probe)) ∧
     (p.qual = .qualified → |head - p.tq| ≤ p.driftLimit → s.blockDriftCheck a = s) ∧
     (p.qual = .drifted → s.blockDriftCheck a = flagged s)) ∧
  (∀ (s : State) (first a : Arm) (rd : Duo (Tri Reading)) (b : Block), s.meetsTick a rd = true → (s.arm a).state = .active →
     (s.arm a).holding = false → (s.arm a).holdLevel = false → (s.arm a).exec = some b → (s.arm a).committed = none →
     b.slot.kind = some .probePoint →
     let r := s.advancedArm a (rd.get a)
     let feed (n : Nat) : Nat := perTickFeed s.settings.period (min n (s.armSet a).maxFeed)
     let seg := Seg.between r.cmd (b.target 0) (feed (b.slot.nat 13)) (feed (b.slot.nat 12)) (b.slot.nat 11 * 65536) 0
     let needs := queueNeeds (s.arm a).queue
     ((s.arm a).phase = .approach → r.seg.atEnd = true →
       (∀ u : Fin 16, s.pins.trig.get a = false → s.captureUnitOf a b u →
         let search := Seg.between r.cmd (b.target 2) (feed (b.slot.nat 13)) (feed (b.slot.nat 13)) 0 0
         search.len ≠ 0 → ∃ t, exec (.tick first rd) s = .next t ∧ s.ticked t a rd ∧
           t.arm a = { r with phase := .search, seg := search } ∧
           t.latches[u] = s.latches[u].searching .trig b.slot.index) ∧
       (s.pins.trig.get a = true → b.passed = true → b.limitHit = none → s.slotFits a b.slot → s.mayRelease first a →
         ∃ t, exec (.tick first rd) s = .next t ∧ s.tickedTest t a rd r.cmd (some false) ∧
           (t.arm a).rests (s.arm a).between r.cmd r.axes ∧ (t.lanes.get a).paused = true ∧
           t.slotSays a b.slot slotFaulted (FaultCode.probeEngaged.code * 256 + b.flags.bits) (s.tickNo + 1))) ∧
     (∀ u : Fin 16, s.captureUnitOf a b u → seg.len ≠ 0 →
       ((s.arm a).phase = .search → r.seg.atEnd = true →
         ∃ t, exec (.tick first rd) s = .next t ∧ s.ticked t a rd ∧ t.latches[u] = s.latches[u].unarmed ∧
           t.arm a = { r with
             phase := .retract
             seg := seg
             exec := some { b with touch := { b.touch with missed := true }, qual := { b.qual with missed := true } } }) ∧
       ((s.arm a).phase = .touchStop → (r.seg.v = 0 ∨ r.seg.atEnd = true) →
         ∃ t, exec (.tick first rd) s = .next t ∧ s.ticked t a rd ∧ t.latches[u] = s.latches[u].unarmed ∧
           t.arm a = { r with
             phase := .retract
             seg := seg
             exec := some { b with
               flags := { b.flags with bounce := b.flags.bounce || decide (0 < s.latches[u].extra) }
               qual := { b.qual with extra := b.qual.extra + s.latches[u].extra } } })) ∧
     ((s.arm a).phase = .retract → r.seg.atEnd = true → b.passed = true → b.limitHit = none →
       s.slotFits a b.slot → s.mayRelease first a →
       (s.pins.trig.get a = true → ∃ t, exec (.tick first rd) s = .next t ∧ s.tickedTest t a rd r.cmd (some false) ∧
         (t.arm a).rests .fault r.cmd r.axes ∧ (t.arm a).lastFault = some .probeEngaged ∧ (t.lanes.get a).paused = true ∧
         t.unit.notices &&& (faultNotice a).one ≠ 0 ∧
         t.slotSays a b.slot slotFaulted (FaultCode.probeEngaged.code * 256 + b.flags.bits) (s.tickNo + 1) ∧
         ∀ w : Touch, b.touch.cap = some w → t.slotGives a b.slot [intWord w.m.x, intWord w.m.y, intWord w.m.z,
           intWord w.point.x, intWord w.point.y, intWord w.point.z]) ∧
       (s.pins.trig.get a = false → ∃ t, exec (.tick first rd) s = .next t ∧ s.tickedTest t a rd r.cmd needs ∧
         (t.arm a).rests (s.arm a).between r.cmd r.axes ∧ (t.lanes.get a).paused = (s.lanes.get a).paused ∧
         t.unit.notices &&& (laneNotice a).one ≠ 0 ∧
         t.slotSays a b.slot slotDone ((if b.touch.missed then 2 else 1) + b.flags.bits) (s.tickNo + 1) ∧
         (∀ w : Touch, b.touch.cap = some w → t.slotGives a b.slot [intWord w.m.x, intWord w.m.y, intWord w.m.z,
           intWord w.point.x, intWord w.point.y, intWord w.point.z]) ∧
         (b.touch.cap = none → t.slotGives a b.slot [0, 0, 0, 0, 0, 0]))))

/-- QUALIFY with its checks passed and no grant needed begins the transit to its first touch at the home feed. At the end
of a TRANSIT segment the next one is due at the next tick, or, after the last, the unit is armed and the touch's search
begins, or the block is PROBE_ENGAGED with TRIG active. A search that reaches its end is missed, and the stop of a touch
ends, in the retract. At the end of a touch's retract, TRIG inactive, a transit to the next touch follows, or QUAL_MISSED
after a miss, or, after touch 4, the computation: QUAL_SPREAD, QUAL_RANGE, or the record written and the block completed.
With TRIG active it is PROBE_ENGAGED. The model's own readings in it: log 8, 9, 10, 19, 20, 33, 34, 37, 45. -/
def Obligations.QualifyTouchesAndComputes : Prop :=
  (∀ (s : State) (a : Arm) (c : SlotCopy) (u : Fin 16), s.boundary a c = true → c.kind = some .qualify → c.selector ≠ 3 →
    c.qualifyFieldsOk = true → s.qualifyPositionsOk a c = true → c.nat 11 = u.val →
    s.commonCheck a .qualify .machine = none → s.unitCheck a u = none → s.pins.trig.get a = false →
    (s.bind a (s.startedBlock a c .machine)).2 = none →
    let b := (s.bind a (s.startedBlock a c .machine)).1
    let feed := perTickFeed s.settings.period (min (s.armSet a).homeFeed (s.armSet a).maxFeed)
    let seg := Seg.between (s.arm a).cmd (b.target 0) feed feed 0 0
    (s.blockNeedsZone a (s.arm a).cmd b = false ∨ s.holdsGrant a = true) → seg.len ≠ 0 →
    exec (.qualify a) s = .next ((s.takeHead a c).modArm a fun r =>
      { r with exec := some b, phase := .transit, seg := seg, moving := true })) ∧
  (∀ (s : State) (first a : Arm) (rd : Duo (Tri Reading)) (b : Block), s.meetsTick a rd = true → (s.arm a).state = .active →
     (s.arm a).holding = false → (s.arm a).holdLevel = false → (s.arm a).exec = some b → (s.arm a).committed = none →
     b.slot.kind = some .qualify →
     let r := s.advancedArm a (rd.get a)
     let k := b.qual.k
     let feed := perTickFeed s.settings.period (min (b.slot.nat 10) (s.armSet a).maxFeed)
     let seg (i : Nat) : Seg := Seg.between r.cmd (b.target i) feed feed 0 0
     let last : Nat := if k = 0 then 1 else 2
     ((s.arm a).phase = .transit → r.seg.atEnd = true →
       (b.qual.leg < last → ∃ t, exec (.tick first rd) s = .next t ∧ s.ticked t a rd ∧ t.arm a = { r with
         due := some .nextLeg
         moving := false
         seg := { r.seg with v := 0 }
         exec := some { b with qual := { b.qual with leg := b.qual.leg + 1 } } }) ∧
       (b.qual.leg = last →
         (∀ u : Fin 16, s.pins.trig.get a = false → s.captureUnitOf a b u → (seg (15 + k)).len ≠ 0 →
           ∃ t, exec (.tick first rd) s = .next t ∧ s.ticked t a rd ∧
             t.arm a = { r with phase := .touch k .search, seg := seg (15 + k) } ∧
             t.latches[u] = s.latches[u].searching .trig b.slot.index) ∧
         (s.pins.trig.get a = true → b.passed = true → b.limitHit = none → s.slotFits a b.slot → s.mayRelease first a →
           ∃ t, exec (.tick first rd) s = .next t ∧ s.tickedTest t a rd r.cmd (some false) ∧
             (t.arm a).rests (s.arm a).free r.cmd r.axes ∧ (t.lanes.get a).paused = true ∧
             t.slotSays a b.slot slotFaulted (FaultCode.probeEngaged.code * 256 + b.flags.bits) (s.tickNo + 1) ∧
             (b.qual.values = none → t.slotGives a b.slot [0, 0, 0, 0, 0, 0, 0, natWord k])))) ∧
     ∀ u : Fin 16, s.captureUnitOf a b u → (seg (3 * k + 1)).len ≠ 0 →
       ((s.arm a).phase = .touch k .search → r.seg.atEnd = true →
         ∃ t, exec (.tick first rd) s = .next t ∧ s.ticked t a rd ∧ t.latches[u] = s.latches[u].unarmed ∧
           t.arm a = { r with
             phase := .touch k .retract
             seg := seg (3 * k + 1)
             exec := some { b with touch := { b.touch with missed := true }, qual := { b.qual with missed := true } } }) ∧
       ((s.arm a).phase = .touch k .stop → (r.seg.v = 0 ∨ r.seg.atEnd = true) →
         ∃ t, exec (.tick first rd) s = .next t ∧ s.ticked t a rd ∧ t.latches[u] = s.latches[u].unarmed ∧
           t.arm a = { r with
             phase := .touch k .retract
             seg := seg (3 * k + 1)
             exec := some { b with
               flags := { b.flags with bounce := b.flags.bounce || decide (0 < s.latches[u].extra) }
               qual := { b.qual with extra := b.qual.extra + s.latches[u].extra } } })) ∧
  (∀ (s : State) (first a : Arm) (rd : Duo (Tri Reading)) (b : Block), s.meetsTick a rd = true → (s.arm a).state = .active →
     (s.arm a).holding = false → (s.arm a).holdLevel = false → (s.arm a).exec = some b → (s.arm a).committed = none →
     b.slot.kind = some .qualify → b.passed = true → b.limitHit = none → (s.arm a).phase = .touch b.qual.k .retract →
     (s.tickedSeg a).atEnd = true → s.slotFits a b.slot → s.mayRelease first a →
     let r := s.advancedArm a (rd.get a)
     let faulted (t : State) (f : FaultCode) : Prop :=
       s.tickedTest t a rd r.cmd (some false) ∧ (t.arm a).rests (s.arm a).free r.cmd r.axes ∧ (t.lanes.get a).paused = true ∧ t.tables = s.tables ∧
       t.slotSays a b.slot slotFaulted (f.code * 256 + b.flags.bits) (s.tickNo + 1)
     ∃ t, exec (.tick first rd) s = .next t ∧
       (s.pins.trig.get a = true → s.tickedTest t a rd r.cmd (some false) ∧ (t.arm a).rests .fault r.cmd r.axes ∧
         (t.arm a).lastFault = some .probeEngaged ∧ (t.lanes.get a).paused = true ∧
         t.slotSays a b.slot slotFaulted (FaultCode.probeEngaged.code * 256 + b.flags.bits) (s.tickNo + 1)) ∧
       (s.pins.trig.get a = false → b.qual.missed = true →
         faulted t .qualMissed ∧
           (b.qual.values = none → t.slotGives a b.slot [0, 0, 0, 0, 0, 0, 0, natWord b.qual.k])) ∧
       (s.pins.trig.get a = false → b.qual.missed = false → b.qual.k < 4 →
         s.ticked t a rd ∧ t.arm a = { r with
           phase := .transit
           due := some .nextLeg
           moving := false
           seg := { r.seg with v := 0 }
           exec := some { b with qual := { b.qual with k := b.qual.k + 1, leg := 0 } } }) ∧
       ∀ (w e so no top : Vec) (i : Fin 24), s.pins.trig.get a = false → b.qual.missed = false → b.qual.k = 4 →
         b.qual.caps = [w, e, so, no, top] → (s.arm a).mounted = .probe i →
         let c := b.slot
         let rx := roundDiv (e.x - w.x) 2 - c.int 7
         let ry := roundDiv (no.y - so.y) 2 - c.int 7
         let radius := roundDiv (rx + ry) 2
         let tip : Vec := ⟨c.int 4 - roundDiv (w.x + e.x) 2, c.int 5 - roundDiv (so.y + no.y) 2,
           c.int 6 + c.int 7 + radius - top.z⟩
         let centre : Vec := ⟨c.int 4, c.int 5, c.int 6⟩
         let dirs : List Vec := [⟨1, 0, 0⟩, ⟨-1, 0, 0⟩, ⟨0, 1, 0⟩, ⟨0, -1, 0⟩, ⟨0, 0, -1⟩]
         let spread : Prop := (c.nat 12 : Int) < |rx - ry|
         let range : Prop := radius < 1 ∨ (∃ x : Axis, 16777216 < |tip.get x|) ∨ ∃ d ∈ dirs, ∃ x : Axis,
           536870912 < |centre.get x - d.get x * (c.int 7 + radius + c.int 8) - tip.get x|
         t.slotGives a b.slot [intWord tip.x, intWord tip.y, intWord tip.z, intWord radius, intWord rx, intWord ry,
             intWord b.qual.head] ∧
           (spread → faulted t .qualSpread) ∧ (¬ spread → range → faulted t .qualRange) ∧
           (¬ spread → ¬ range → s.tickedTest t a rd r.cmd (queueNeeds (s.arm a).queue) ∧
             (t.arm a).rests (s.arm a).free r.cmd r.axes ∧ t.unit.notices &&& Notice.probe.one ≠ 0 ∧
             t.tables = { s.tables with probes := s.tables.probes.set i { s.tables.probes[i] with
               tip := tip, radius := radius, tq := b.qual.head, qual := .qualified } } ∧
             t.slotSays a b.slot slotDone (1 + b.flags.bits) (s.tickNo + 1)))

/-- IDENTIFY with a module on the arm begins a READ_ID transaction. -/
def Obligations.IdentifyBeginsReadId : Prop :=
  ∀ (s : State) (a : Arm) (c : SlotCopy), s.boundary a c = true → c.kind = some .identify → c.selector ≠ 3 →
    (s.arm a).mounted ≠ .none →
    exec (.identify a) s = .next ((s.takeHead a c).modArm a fun r => { r with
      exec := some (s.startedBlock a c .machine)
      phase := .identifying
      link := { r.link with engine := .wake, cmd := .readId, attempt := 1, firstKind := none, buf := [] } })

/-- CHANGE_PROBE: with the target already mounted it completes at once with ALREADY_MOUNTED; otherwise, its checks passed
and no grant needed, it arms the cover unit and begins its first approach. At the end of an approach DOCK begins or the
wait for the cover, of DOCK the UNLOCK or ENGAGE with its wait or its LOCK, of the stow half's PORT_RETRACT the wait for
SEAT or FETCH_APPROACH with its cover unit armed; at the end of the fetch half's the cover unit is disarmed and the block
completes OK, or with the ID_MISMATCH or NO_PROBE that waited for it. The model's own readings in it: log 8, 9, 10, 19,
33, 45. -/
def Obligations.ChangeProbeBegins : Prop :=
  (∀ (s : State) (a : Arm) (c : SlotCopy), s.boundary a c = true → c.kind = some .changeProbe → c.selector ≠ 3 →
    1 ≤ c.int 5 → 1 ≤ c.int 6 → (s.arm a).referenced = true →
    (∀ i : Fin 24, c.nat 4 = i.val → (s.arm a).mounted = .probe i → s.unasked a = true →
      exec (.changeProbe a) s = .next (((s.takeHead a c).modArm a fun r => { r with
        exec := some { s.startedBlock a c .machine with
          change := ⟨some i, none, none, none, 0, 0, none⟩
          flags := { alreadyMounted := true } } }).completeDone a .ok)) ∧
    (∀ b2 : Block, c.nat 4 ≤ 23 → s.stepTwo a (Block.fresh c) = .go b2 → (s.bind a b2).2 = none →
      let b := (s.bind a b2).1
      let h : Half := if b2.change.stowPort = none then .fetch else .stow
      let p : ChangePhase := if b2.change.stowPort = none then .fetchApproach else .stowApproach
      let feed := perTickFeed s.settings.period (min (c.nat 5) (s.armSet a).maxFeed)
      let seg := Seg.between (s.arm a).cmd (b.target 0) feed feed 0 0
      (s.blockNeedsZone a (s.arm a).cmd b = false ∨ s.holdsGrant a = true) → seg.len ≠ 0 →
      exec (.changeProbe a) s = .next ((((s.takeHead a c).modArm a fun r =>
        { r with exec := some b, phase := .changing p h }).armCoverOf a b h).modArm a fun r =>
          { r with seg := seg, moving := true }))) ∧
  (∀ (s : State) (first a : Arm) (rd : Duo (Tri Reading)) (b : Block), s.meetsTick a rd = true → (s.arm a).state = .active →
     (s.arm a).holding = false → (s.arm a).holdLevel = false → (s.arm a).exec = some b → (s.arm a).committed = none →
     b.slot.kind = some .changeProbe → (s.tickedSeg a).atEnd = true →
     let r := s.advancedArm a (rd.get a)
     let stood : ArmRec := { r with moving := false, seg := { r.seg with v := 0 } }
     let wake (cmd : LinkCmd) : Link :=
       { r.link with engine := .wake, cmd := cmd, attempt := 1, firstKind := none, buf := [] }
     let leads (t : State) (q : ArmRec) : Prop := exec (.tick first rd) s = .next t ∧ s.ticked t a rd ∧ t.arm a = q
     let seg (i feed : Nat) : Seg :=
       let f := perTickFeed s.settings.period (min feed (s.armSet a).maxFeed)
       Seg.between r.cmd (b.target i) f f 0 0
     (∀ (c : ChangePhase) (h : Half), (s.arm a).phase = .changing c h → c = .stowApproach ∨ c = .fetchApproach →
       let dock := seg (b.approachIndex h + 1) (b.slot.nat 6)
       (s.pins.coverOpen.get a = true → dock.len ≠ 0 →
         ∃ t, leads t { r with phase := .changing .dock h, coverTimer := none, seg := dock }) ∧
       (s.pins.coverOpen.get a = false →
         ∃ t, leads t { stood with coverTimer := some (s.armSet a).seatTimeout })) ∧
     ((s.arm a).phase = .changing .dock .stow →
       ∃ t, leads t { stood with phase := .changing .release .stow, link := wake .unlock }) ∧
     ((s.arm a).phase = .changing .dock .fetch →
       (s.arm a).seatLow = true →
         ∃ t, leads t { stood with phase := .changing .engage .fetch, seatWait := .none, link := wake .lock }) ∧
     ((s.arm a).phase = .changing .dock .fetch → (s.arm a).seatLow = false →
       ∃ t, leads t { stood with phase := .changing .engage .fetch, seatWait := .low (s.armSet a).seatTimeout }) ∧
     ((s.arm a).phase = .changing .portRetract .stow →
       ((s.arm a).seatLow = true → ∃ t, leads t { stood with seatWait := .high (s.armSet a).seatTimeout }) ∧
       ∀ m p : Fin 12, (s.arm a).seatLow = false → b.change.stowPort = some m → b.change.fetchPort = some p →
         let own : Port := s.tables.ports[m]
         let next : Port := s.tables.ports[p]
         s.latches[own.coverUnit].alloc = some a → s.latches[next.coverUnit].alloc = some a →
         (seg 2 (b.slot.nat 5)).len ≠ 0 →
         ∃ t, leads t { r with phase := .changing .fetchApproach .fetch, seatWait := .none, seg := seg 2 (b.slot.nat 5) } ∧
           (own.coverUnit ≠ next.coverUnit →
             t.latches[own.coverUnit].state = .idle ∧ t.latches[own.coverUnit].armedBy = .none) ∧
           (t.latches[next.coverUnit] : LatchUnit) = { s.latches[next.coverUnit] with
             mode := .compare, axis := next.coverAxis, value := next.coverValue, dir := next.coverDir, output := .cover,
             state := .armed, armedBy := .block b.slot.index, extra := 0, cap := ⟨⟨0, 0, 0⟩, 0, false⟩,
             previous := (r.axes.get next.coverAxis).count }) ∧
     ∀ p : Fin 12, (s.arm a).phase = .changing .portRetract .fetch → b.change.fetchPort = some p → b.passed = true →
       b.limitHit = none → s.slotFits a b.slot → s.mayRelease first a →
       let unit := s.tables.ports[p].coverUnit
       s.latches[unit].alloc = some a →
       ∃ t, exec (.tick first rd) s = .next t ∧ t.latches[unit].state = .idle ∧ t.latches[unit].armedBy = .none ∧
         (t.arm a).rests (s.arm a).free r.cmd r.axes ∧ t.unit.notices &&& (laneNotice a).one ≠ 0 ∧
         (b.change.fault = none → s.tickedTest t a rd r.cmd (queueNeeds (s.arm a).queue) ∧ t.tables = s.tables ∧
           (t.arm a).mounted = (s.arm a).mounted ∧ (t.lanes.get a).paused = (s.lanes.get a).paused ∧
           t.slotSays a b.slot slotDone (1 + b.flags.bits) (s.tickNo + 1)) ∧
         ∀ f : FaultCode, b.change.fault = some f → s.tickedTest t a rd r.cmd (some false) ∧
           (t.lanes.get a).paused = true ∧
           t.slotSays a b.slot slotFaulted (f.code * 256 + b.flags.bits) (s.tickNo + 1) ∧
           (f = .idMismatch → t.tables = s.tables ∧ (t.arm a).mounted = (s.arm a).mounted) ∧
           (f ≠ .idMismatch → (t.tables.ports[p] : Port).state = .unknown))

/-! ## The arbiter, the timers and the tick -/

/-- A decision of the arbiter: a request against the other arm's grant waits with the limit, its arm in WAIT_ZONE; a lone
request takes the free grant; in a tie the arm that is not the last holder takes it, arm A with no last holder, and the
other waits in WAIT_ZONE. The model's own readings in it: log 15. -/
def Obligations.ZoneDecisionGrantsOrWaits : Prop :=
  (∀ (s : State) (h : Arm), s.settled = true → s.zone.holder = some h → s.zone.request.get h.other = true →
    exec .zoneArbiterDecision s = .next ({ s with zone := { s.zone with
      request := s.zone.request.set h.other false
      waits := s.zone.waits.set h.other (.waiting s.zone.limit) } }.modArm h.other fun r =>
        { r with phase := .waitZone })) ∧
  (∀ (s : State) (a : Arm), s.zone.holder = none → s.zone.request.get a = true → s.zone.request.get a.other = false →
    exec .zoneArbiterDecision s = .next (({ s with zone := { s.zone with
      holder := some a
      last := some a
      request := s.zone.request.set a false
      waits := s.zone.waits.set a .idle } }.modArm a fun r => { r with due := some .stepSix }).settle)) ∧
  (∀ (s : State) (a : Arm), s.zone.holder = none → s.zone.request = ⟨true, true⟩ →
    (s.zone.last = some a.other ∨ (s.zone.last = none ∧ a = .A)) →
    exec .zoneArbiterDecision s = .next ((({ s with zone := { s.zone with
      holder := some a
      last := some a
      request := ⟨false, false⟩
      waits := (s.zone.waits.set a .idle).set a.other (.waiting s.zone.limit) } }.modArm a fun r =>
        { r with due := some .stepSix }).modArm a.other fun r => { r with phase := .waitZone }).settle))

/-- The expiry of a wait timer faults its block with ZONE_TIMEOUT and that of a cover wait with COVER_FAULT; a wait with
no timer does not expire. The expiry of a dwell completes its block OK, that of a stability wait UNSTABLE. An arm that
holds the grant as its dwell ends makes the release test of R77: it keeps the grant inside its box or for its queue head,
and otherwise gives it up, to the other arm, whose waiting MOVE then begins, or to none. The model's own readings in it:
log 33. -/
def Obligations.WaitExpiriesEndBlock : Prop :=
  (∀ (s : State) (a : Arm), s.calm = true → s.unasked a = true →
     (∀ n, s.zone.waits.get a = .waiting (n + 1) → exec (.zoneTimeout a) s = .next (s.blockFault a .zoneTimeout)) ∧
     (s.zone.waits.get a = .waiting 0 → exec (.zoneTimeout a) s = .next s) ∧
     (∀ n, (s.arm a).coverTimer = some n → exec (.coverFault a) s = .next (s.blockFault a .coverFault))) ∧
  (∀ (s : State) (a : Arm), s.calm = true → s.unasked a = true →
     (∀ n, (s.arm a).dwellTimer = some n → exec (.dwellExpiry a) s = .next (s.completeDone a .ok)) ∧
     (∀ n, (s.arm a).stableTimer = some n → exec (.waitStableTimeout a) s = .next (s.completeDone a .unstable))) ∧
  (∀ (s : State) (a : Arm) (n : Nat), s.calm = true → s.holdsGrant a = true → (s.arm a).dwellTimer = some n →
     let v := (s.arm a).cmd
     let needs (t : State) : Prop := ∃ c q, (s.arm a).queue = c :: q ∧ t.headNeedsZone a c = true
     ∃ t, exec (.dwellExpiry a) s = .next t ∧ (t.arm a).exec = none ∧ (t.arm a).cmd = v ∧
       (¬ s.clears a v ∨ needs t → t.zone = s.zone ∧ t.arm a.other = s.arm a.other) ∧
       (s.clears a v → ¬ needs t →
         (s.zone.waits.get a.other = .idle → t.zone = { s.zone with holder := none } ∧ t.arm a.other = s.arm a.other) ∧
         ∀ b : Block, s.waitsToMove a.other b → s.passedOn t a b (s.arm a.other)))

/-- At the end of a MOVE's segment the next one is due at the next tick, or the block completes. An arm in HOLDING that
comes to rest is HELD with its capture units disarmed. At the end of STOPPING the blocks complete with the cause and the
arm takes its state; a segment end before it crosses into the committed block's segment. A tick in RUN in which no segment
begins or ends, no arm comes to rest, no commit point falls and every axis of an arm not in FAULT follows: the tick number
counts, the segment of each arm that runs advances, along R52 or in the deceleration of HOLDING, STOPPING or a stop phase,
the setpoints go out and the counts come back, and the compare units are tested. An axis beyond its following limit, or
one with no reading, puts the arm in FAULT: its commanded position is its scale counts, within the soft limits where it is
referenced, and settled with the zone. Outside RUN no tick runs. The model's own readings in it: log 8, 9, 10, 22, 23, 33,
34, 35, 42, 45. -/
def Obligations.TickAdvancesAndEnds : Prop :=
  (∀ (s : State) (first : Arm) (rd : Duo (Tri Reading)), s.settled = true → s.device = .run →
     (∀ a, s.plainTick a (rd.get a) = true) →
     let test (a : Arm) (v : Vector LatchUnit 16) : Vector LatchUnit 16 :=
       mapTable (LatchUnit.compareTest a (rd.get a) ((s.tickedArm a (rd.get a)).axes.map AxisPort.count) (s.tickNo + 1)) v
     exec (.tick first rd) s = .next { s with
       tickNo := s.tickNo + 1
       arms := ⟨s.tickedArm .A (rd.get .A), s.tickedArm .B (rd.get .B)⟩
       latches := test first.other (test first s.latches) }) ∧
  (∀ (s : State) (first a : Arm) (rd : Duo (Tri Reading)), s.calm = true → s.device = .run →
     s.plainTick a.other (rd.get a.other) = true → (s.underway a = true ∨ s.runs a = false) →
     ((s.arm a).state = .active → (s.arm a).due ≠ some .nextLeg) → (s.arm a).state ≠ .fault → s.unasked a = true →
     let r := s.tickedArm a (rd.get a)
     let counts : Vec := r.axes.map AxisPort.count
     let far : Prop := ∃ x c, (rd.get a).get x = some c ∧
       ((s.armSet a).axes.get x).following < |r.cmd.get x - (c + ((s.arm a).axes.get x).offset)|
     let missing : Prop := ∃ x, (rd.get a).get x = none
     let at_ : Vec :=
       if r.referenced then Tri.map2 (fun l i => max l.lo (min i l.hi)) (s.armSet a).axes counts else counts
     let box : Box := s.zone.boxes.get a
     let trespass : Prop := r.referenced = true ∧ box.xlo ≤ at_.x ∧ at_.x ≤ box.xhi ∧ box.ylo ≤ at_.y ∧ at_.y ≤ box.yhi
     let ways : List (Int × Vec) := [(|box.xlo - 1 - counts.x|, { at_ with x := box.xlo - 1 }),
       (|box.xhi + 1 - counts.x|, { at_ with x := box.xhi + 1 }), (|box.ylo - 1 - counts.y|, { at_ with y := box.ylo - 1 }),
       (|box.yhi + 1 - counts.y|, { at_ with y := box.yhi + 1 })]
     let way (k : Nat) : Int × Vec := ways.getD k (0, at_)
     far ∨ missing →
     ∃ (t : State) (f code : FaultCode), exec (.tick first rd) s = .next t ∧
       (f = .following ∧ far ∨ f = .driveSilent ∧ missing) ∧
       code = (match (s.arm a).state, (s.arm a).cause with
         | .stopping, some .stopLine => .stopLine
         | .stopping, some (.fault g) => g
         | _, _ => f) ∧
       t.tickNo = s.tickNo + 1 ∧ t.arm a.other = s.tickedArm a.other (rd.get a.other) ∧ (t.arm a).state = .fault ∧
       (t.arm a).lastFault = some code ∧ (t.arm a).exec = none ∧ (t.arm a).committed = none ∧ (t.arm a).moving = false ∧
       (t.arm a).axes = r.axes ∧ (t.lanes.get a).paused = true ∧ t.unit.notices &&& (faultNotice a).one ≠ 0 ∧
       (¬ trespass ∨ s.zone.holder = some a → (t.arm a).cmd = at_ ∧ s.tested t a at_ (some false)) ∧
       (trespass → s.zone.holder = none → (t.arm a).cmd = at_ ∧ t.zone.holder = some a ∧ t.zone.last = some a) ∧
       (trespass → s.zone.holder = some a.other → t.zone.holder = s.zone.holder ∧
         ∃ k, k < 4 ∧ (t.arm a).cmd = (way k).2 ∧ (∀ j, j < 4 → (way k).1 ≤ (way j).1) ∧
           ∀ j, j < k → (way k).1 < (way j).1) ∧
       ∀ b, (s.arm a).exec = some b → (s.arm a).committed = none → s.shm.wf = true →
         (s.lanes.get a).slotBase b.slot.index + 32 ≤ 65536 →
         t.shm.get ((s.lanes.get a).slotBase b.slot.index) =
             natWord (slotFaulted + b.slot.kindCode * 256 + b.slot.tag * 65536) ∧
           t.shm.get ((s.lanes.get a).slotBase b.slot.index + 2) = natWord (code.code * 256 + b.flags.bits)) ∧
  (∀ (s : State) (first : Arm) (rd : Duo (Tri Reading)), s.device ≠ .run → exec (.tick first rd) s = .next s) ∧
  (∀ (s : State) (first a : Arm) (rd : Duo (Tri Reading)) (b : Block), s.meetsTick a rd = true → (s.arm a).exec = some b →
     let r := s.advancedArm a (rd.get a)
     ((s.arm a).state = .active → (s.arm a).phase = .moving → (s.arm a).committed = none → s.atCommitPoint a b = false →
       r.seg.atEnd = true →
       (b.leg + 1 < b.targets.length → ∃ t, exec (.tick first rd) s = .next t ∧ s.ticked t a rd ∧ t.shm = s.shm ∧
         t.arm a = { r with
           state := if r.holdLevel then .held else .active
           holdPhase := if r.holdLevel then some (r.holdPhase.getD .moving) else r.holdPhase
           holding := false
           moving := false
           due := some .nextLeg
           seg := { r.seg with v := 0 }
           exec := some { b with leg := b.leg + 1 } }) ∧
       (b.leg + 1 = b.targets.length → b.slot.kind = some .move → b.passed = true → b.limitHit = none →
         s.slotFits a b.slot → s.mayRelease first a → ∃ t, exec (.tick first rd) s = .next t ∧
           s.tickedTest t a rd r.cmd (queueNeeds (s.arm a).queue) ∧
           (t.arm a).rests (s.arm a).between r.cmd r.axes ∧ (t.lanes.get a).paused = (s.lanes.get a).paused ∧
           t.unit.notices &&& (laneNotice a).one ≠ 0 ∧
           t.slotSays a b.slot slotDone (1 + b.flags.bits) (s.tickNo + 1) ∧
           t.slotGives a b.slot [intWord (b.target b.leg).x, intWord (b.target b.leg).y, intWord (b.target b.leg).z])) ∧
     ((s.arm a).state = .active → (s.arm a).holding = true → (s.arm a).phase.brakes = false → r.seg.v = 0 →
       r.seg.atEnd = false → ∃ t, exec (.tick first rd) s = .next t ∧ s.ticked t a rd ∧ t.shm = s.shm ∧
         t.arm a = { r with state := .held, holding := false, holdPhase := some (r.holdPhase.getD r.phase) } ∧
         ∀ u : Fin 16, s.latches[u].alloc = some a → s.latches[u].mode = .capture →
           (∃ n, s.latches[u].armedBy = .block n) → t.latches[u] = s.latches[u].unarmed) ∧
     (∀ h : Block, (s.arm a).state = .stopping → (s.arm a).committed = some h → (s.arm a).crossed = false → r.seg.v ≠ 0 →
       r.seg.atEnd = true → ∃ t, exec (.tick first rd) s = .next t ∧ s.ticked t a rd ∧ t.shm = s.shm ∧
         let feed := perTickFeed s.settings.period (min (h.slot.nat 4) (s.armSet a).maxFeed)
         t.arm a = { r with crossed := true, seg := Seg.between r.cmd (h.target 0) feed feed 0 r.seg.v }) ∧
     (∀ cause : Cause, (s.arm a).state = .stopping → (s.arm a).cause = some cause →
       (r.seg.v = 0 ∨ (r.seg.atEnd = true ∧ ((s.arm a).committed = none ∨ (s.arm a).crossed = true))) →
       (s.lanes.get a).paused = true → s.slotFits a b.slot → s.mayRelease first a →
       (∀ h : Block, (s.arm a).committed = some h → h.slot.index ≠ b.slot.index) →
       let fault : Option FaultCode := match cause with
         | .abort => none
         | .stopLine => some .stopLine
         | .fault f => some f
       let ended (t : State) (c : Block) : Prop := match fault with
         | none => t.slotSays a c.slot slotDone (4 + c.flags.bits) (s.tickNo + 1)
         | some f => t.slotSays a c.slot slotFaulted (f.code * 256 + c.flags.bits) (s.tickNo + 1)
       ∃ t, exec (.tick first rd) s = .next t ∧ ended t b ∧
         s.tickedTest t a rd r.cmd (if fault = none then queueNeeds (s.arm a).queue else some false) ∧
         (∀ h : Block, (s.arm a).committed = some h → s.slotFits a h.slot → ended t h) ∧
         (t.arm a).rests (if fault = none then (s.arm a).between else .fault) r.cmd r.axes ∧
         (∀ f, fault = some f → (t.arm a).lastFault = some f ∧ t.unit.notices &&& (faultNotice a).one ≠ 0) ∧
         (t.lanes.get a).paused = true ∧ t.unit.notices &&& (laneNotice a).one ≠ 0 ∧
         ((s.arm a).changing = false → ((s.arm a).probeLost = false → (t.arm a).mounted = (s.arm a).mounted ∧
             t.tables = s.tables) ∧
           ∀ i : Fin 24, (s.arm a).probeLost = true → (s.arm a).mounted = .probe i → (t.arm a).mounted = .none ∧
             t.tables = { s.tables with probes := s.tables.probes.set i { s.tables.probes[i] with loc := .unknown } })))

/-- Every tick of a segment advances it, it reaches its end within as many ticks as path units remain, it never passes its
end, and at its end the commanded position is the target exactly. -/
def Obligations.SegmentReachesItsEnd : Prop :=
  ∀ (g : Seg) (acc : Nat), 0 < acc → 0 < g.f1 → 0 < g.f2 → g.pos ≤ g.total →
    (g.pos < g.total → g.pos < (g.step acc).pos) ∧ (g.step acc).pos ≤ g.total ∧
      (∀ n, g.total - g.pos ≤ n → ((fun h => Seg.step h acc)^[n] g).pos = g.total) ∧
      (0 < g.len → g.pos = g.total → g.position = g.stop)

/-- A target taken to raw counts and back with unchanged inputs comes back within 1 count in the MACHINE frame and within 3
in the PART frame. -/
def Obligations.ChainComesBack : Prop :=
  ∀ (s : State) (a : Arm) (v : Vec), s.corr.active.ok = true →
    (∀ x, (((s.chain a).toMachine ((s.chain a).fromMachine v)).get x - v.get x).natAbs ≤ 1) ∧
    (∀ c, (s.chain a).fromPart v = some c →
      ∃ w, (s.chain a).toPart c = some w ∧ ∀ x, (w.get x - v.get x).natAbs ≤ 3)

/-! ## The lines -/

/-- A change of TRIG or REFM that is no collision and fires no block's unit: each capture unit of the arm that watches the
line with a matching edge fires, or counts an extra edge, and nothing else changes. A change of an EXT_IN line reaches the
units of both arms so. A rise that fires a block's unit in its search is handed to the block: a touch is converted and the
arm brakes in TOUCH_STOP, or in the stop of its QUALIFY touch; the search of an axis goes to its stop. A touch of a
PROBE_POINT in STOPPING is converted and the stop goes on. The model's own readings in it: log 19. -/
def Obligations.LineChangeReachesUnits : Prop :=
  (∀ (s : State) (a : Arm) (x : Bool), s.settled = true →
     let seen (inp : CaptureInput) (u : LatchUnit) : LatchUnit :=
       if u.mode = .capture ∧ u.alloc = some a ∧ u.input = inp ∧
           (u.edge = .any ∨ (u.edge = .rise ∧ x = true) ∨ (u.edge = .fall ∧ x = false)) then
         match u.state with
         | .idle => u
         | .armed => { u with
             state := .fired
             cap := ⟨⟨(s.arm a).axes.x.count, (s.arm a).axes.y.count, (s.arm a).axes.z.count⟩, s.tickNo, !x⟩ }
         | .fired => { u with extra := min (u.extra + 1) 255 }
       else u
     (s.pins.trig.get a ≠ x → s.firing a .trig x = false → (x = false ∨ s.watchOn a = false) →
       ∃ t, exec (.trigChange a x) s = .next t ∧ t.pins.trig.get a = x ∧ (∀ i : Fin 16, t.latches[i] = seen .trig s.latches[i]) ∧
         t = { s with pins := { s.pins with trig := t.pins.trig }, latches := t.latches } ∧
         t.pins.trig.get a.other = s.pins.trig.get a.other) ∧
     (∀ y : Axis, (s.pins.refm.get a).get y ≠ x → s.firing a (.refm y) x = false →
       ∃ t, exec (.refmChange a y x) s = .next t ∧
         t.pins = { s.pins with refm := s.pins.refm.set a ((s.pins.refm.get a).set y x) } ∧
         (∀ i : Fin 16, t.latches[i] = seen (.refm y) s.latches[i]) ∧
         t = { s with pins := t.pins, latches := t.latches }) ∧
     (x = true → s.pins.trig.get a = false → s.firing a .trig true = true → (s.arm a).moving = true →
       let met : State := { s with
         pins := { s.pins with trig := s.pins.trig.set a true }
         latches := mapTable (seen .trig) s.latches }
       let m := (s.chain a).toMachine (s.counts a)
       ∀ b : Block, (s.arm a).exec = some b →
         (∀ p : Vec, (s.arm a).phase = .search → (s.chain a).toPart (s.counts a) = some p →
           let hit : State := (met.modArm a fun r => { r with exec := some { b with
             touch := { b.touch with cap := some ⟨m, if b.frame = .part then p else m, (s.chain a).used .part, s.tickNo⟩ }
             flags := b.flags.withThermal ((s.chain a).used .part) (b.frame == .machine) } }).blockDriftCheck a
           ((s.arm a).state = .active → 0 < (s.arm a).seg.v → exec (.trigChange a true) s =
             .next (hit.modArm a fun r => { r with phase := .touchStop, holding := false })) ∧
           ((s.arm a).state = .stopping → exec (.trigChange a true) s = .next hit)) ∧
         ∀ k : Nat, (s.arm a).phase = .touch k .search → (s.arm a).state = .active → 0 < (s.arm a).seg.v →
           exec (.trigChange a true) s = .next (met.modArm a fun r => { r with
             phase := .touch k .stop
             holding := false
             exec := some { b with
               qual := { b.qual with
                 caps := b.qual.caps ++ [m]
                 head := if k = 4 then (s.group (headGroup a)).temp else b.qual.head }
               flags := b.flags.alsoThermal ((s.chain a).used .machine) } })) ∧
     ∀ y : Axis, x = true → (s.pins.refm.get a).get y = false → s.firing a (.refm y) true = true →
       (s.arm a).phase = .homeSearch y → (s.arm a).state = .active → (s.arm a).moving = true → 0 < (s.arm a).seg.v →
       exec (.refmChange a y true) s = .next ({ s with
         pins := { s.pins with refm := s.pins.refm.set a ((s.pins.refm.get a).set y true) }
         latches := mapTable (seen (.refm y)) s.latches }.modArm a fun r =>
           { r with phase := .homeStop y, holding := false })) ∧
  (∀ (s : State) (k : Fin 4) (x : Bool), s.pins.ext[k] ≠ x → s.firing .A (.ext k) x = false →
     s.firing .B (.ext k) x = false →
     ∃ t, exec (.extInChange k x) s = .next t ∧ t.pins = { s.pins with ext := s.pins.ext.set k x } ∧
       (∀ i : Fin 16, t.latches[i] = ((s.latches[i].onEdge .A (.ext k) x (s.captureNow .A x)).onEdge .B (.ext k) x
         (s.captureNow .B x))) ∧
       t = { s with pins := t.pins, latches := t.latches })

/-- A touch on a moving watched arm is a collision: STOPPING with COLLISION as its cause, the lane paused. -/
def Obligations.CollisionStopsArm : Prop :=
  ∀ (s : State) (a : Arm), s.calm = true → s.pins.trig.get a = false → s.watchOn a = true → s.firing a .trig true = false →
    ((s.arm a).state = .active) → 0 < (s.arm a).seg.v →
    ∃ t, exec (.trigChange a true) s = .next t ∧ (t.arm a).state = .stopping ∧
      (t.arm a).cause = some (.fault .collision) ∧ (t.arm a).moving = true ∧ (t.arm a).seg = (s.arm a).seg ∧
      (t.arm a).exec = (s.arm a).exec ∧ (t.lanes.get a).paused = true ∧ t.arm a.other = s.arm a.other

/-- COVER_OPEN changes the line alone where no cover wait runs; an active line ends a cover wait and DOCK begins. -/
def Obligations.CoverOpenEndsWait : Prop :=
  ∀ (s : State) (a : Arm) (x : Bool), s.settled = true → s.pins.coverOpen.get a ≠ x →
    (x = false ∨ (s.arm a).coverTimer = none →
      exec (.coverOpenChange a x) s =
        .next { s with pins := { s.pins with coverOpen := s.pins.coverOpen.set a x } }) ∧
    (∀ (n : Nat) (p : ChangePhase) (h : Half) (b : Block), x = true → (s.arm a).coverTimer = some n →
      (s.arm a).phase = .changing p h → (s.arm a).exec = some b → (s.arm a).state = .active → (s.arm a).moving = false →
      (s.arm a).holdLevel = false → (s.arm a).due = none →
      let feed := perTickFeed s.settings.period (min (b.slot.nat 6) (s.armSet a).maxFeed)
      let seg := Seg.between (s.arm a).cmd (b.target (b.approachIndex h + 1)) feed feed 0 0
      seg.len ≠ 0 →
      exec (.coverOpenChange a x) s =
        .next ({ s with pins := { s.pins with coverOpen := s.pins.coverOpen.set a x } }.modArm a fun r =>
          { r with coverTimer := none, phase := .changing .dock h, seg := seg, moving := true }))

/-- The expiry of a SEAT wait is an arm-level fault: the block ends, the arm enters FAULT with SEAT_TIMEOUT, the lane
pauses, the other arm is not changed. The entry into FAULT makes the release test of R78: inside its box the arm keeps the
grant, outside it the grant goes to the other arm, whose waiting MOVE begins, or to none. The change is settled: the port
at which the head was working is UNKNOWN, and so is a record in it; the mounted value follows the SEAT level. The model's
own readings in it: log 41, 54. -/
def Obligations.SeatTimeoutFaultsAndSettles : Prop :=
  (∀ (s : State) (a : Arm), s.calm = true → s.restingBlock a = true → (s.arm a).seatWait ≠ .none →
    ∃ t, exec (.seatTimeout a) s = .next t ∧ (t.arm a).state = .fault ∧ (t.arm a).lastFault = some .seatTimeout ∧
      (t.arm a).exec = none ∧ (t.arm a).committed = none ∧ (t.arm a).seatWait = .none ∧
      (t.lanes.get a).paused = true ∧ (t.arm a).cmd = (s.arm a).cmd ∧ t.arm a.other = s.arm a.other ∧
      t.unit.notices &&& (faultNotice a).one ≠ 0 ∧ s.tested t a (s.arm a).cmd (some false)) ∧
  (∀ (s : State) (a : Arm) (b : Block), s.calm = true → (s.arm a).exec ≠ none → (s.arm a).moving = false →
    ((s.arm a).state = .active ∨ (s.arm a).state = .held) → (s.arm a).seatWait ≠ .none → s.holdsGrant a = true →
    s.waitsToMove a.other b → ∃ t, exec (.seatTimeout a) s = .next t ∧ (t.arm a).state = .fault ∧ (t.arm a).exec = none ∧
      (s.clears a (s.arm a).cmd → s.passedOn t a b (s.arm a.other)) ∧
      (¬ s.clears a (s.arm a).cmd → t.zone.holder = some a ∧ t.arm a.other = s.arm a.other)) ∧
  (∀ (s : State) (a : Arm) (c : ChangePhase) (h : Half) (b : Block), s.calm = true → s.restingBlock a = true →
     (s.arm a).exec = some b → (s.arm a).phase = .changing c h → (s.arm a).probeLost = false →
     let seat := (s.arm a).seatLow
     let used : Option (Fin 12) := match c, h with
       | .stowApproach, _ => none
       | .fetchApproach, _ => none
       | _, .stow => b.change.stowPort
       | _, .fetch => b.change.fetchPort
     let settled (t : State) : Prop :=
       ((t.arm a).mounted = match seat, (s.arm a).mounted with
         | false, _ => .none
         | true, .none => .unverified
         | true, m => m) ∧
       (∀ p : Fin 12, (t.tables.ports[p] : Port) = { s.tables.ports[p] with
         state := if used = some p then .unknown else s.tables.ports[p].state }) ∧
       ∀ q : Fin 24, (t.tables.probes[q] : Probe) = { s.tables.probes[q] with
         loc := if (∃ p : Fin 12, used = some p ∧ s.tables.ports[p].state = .occupied q) ∨
             (seat = false ∧ (s.arm a).mounted = .probe q) then .unknown else s.tables.probes[q].loc }
     ((s.arm a).seatWait ≠ .none → (s.arm a).debouncing = false →
       ∃ t, exec (.seatTimeout a) s = .next t ∧ settled t) ∧
     (∀ n, (s.arm a).coverTimer = some n → ∃ t, exec (.coverFault a) s = .next t ∧ settled t) ∧
     (s.device = .run → ∃ t, exec (.abort a) s = .next t ∧ settled t))

/-- HSEAT starts and stops the debounce; its expiry takes the line's level, and outside a change a module seated on an
empty head is UNVERIFIED, one that was not verified and is gone is NONE, a verified one that is gone is PROBE_LOST, and an
IDENTIFY ends with it. In a change each phase reads SEAT as R148 gives: a rise ends the wait of RELEASE with the stow, and
that of the stow half's PORT_RETRACT, is PROBE_LOST or NO_PROBE where the module should stay, and a fall ends the wait of
ENGAGE. -/
def Obligations.SeatIsDebouncedAndRead : Prop :=
  (∀ (s : State) (a : Arm) (x : Bool), s.pins.hseatLow.get a ≠ x →
    exec (.hseatChange a x) s = .next ({ s with pins := { s.pins with hseatLow := s.pins.hseatLow.set a x } }.modArm a
      fun r => { r with debouncing := s.device == Device.run && x != r.seatLow })) ∧
  (∀ (s : State) (a : Arm), s.calm = true → (s.arm a).debouncing = true → (s.arm a).exec = none →
    (s.arm a).phase = .none →
    (s.pins.hseatLow.get a = true → (s.arm a).mounted = .none →
      exec (.seatDebounceExpiry a) s = .next (s.modArm a fun r =>
        { r with seatLow := true, debouncing := false, mounted := .unverified })) ∧
    (s.pins.hseatLow.get a = false → ((s.arm a).mounted = .unverified ∨ (s.arm a).mounted = .foreign) →
      exec (.seatDebounceExpiry a) s = .next (s.modArm a fun r =>
        { r with seatLow := false, debouncing := false, mounted := .none })) ∧
    (∀ i : Fin 24, s.pins.hseatLow.get a = false → (s.arm a).mounted = .probe i → s.unasked a = true →
      (s.arm a).moving = false → ((s.arm a).state = .idle ∨ (s.arm a).state = .unreferenced ∨ (s.arm a).state = .held) →
      ∃ t, exec (.seatDebounceExpiry a) s = .next t ∧ (t.arm a).state = .fault ∧
        (t.arm a).lastFault = some .probeLost ∧ (t.arm a).mounted = .none ∧
        (t.tables.probes[i] : Probe) = { s.tables.probes[i] with loc := .unknown } ∧ t.tables.ports = s.tables.ports)) ∧
  (∀ (s : State) (a : Arm) (b : Block), s.calm = true → (s.arm a).debouncing = true → (s.arm a).exec = some b →
     let read (f : ArmRec → ArmRec) : State := s.modArm a fun r =>
       f { r with seatLow := s.pins.hseatLow.get a, debouncing := false }
     let quiet : Prop := exec (.seatDebounceExpiry a) s = .next (read id)
     let lost (t : State) (i : Fin 24) : Prop := (t.arm a).state = .fault ∧ (t.arm a).lastFault = some .probeLost ∧
       (t.arm a).exec = none ∧ (t.arm a).link.engine = .idle ∧ (t.lanes.get a).paused = true ∧
       t.unit.notices &&& Notice.probe.one ≠ 0 ∧ (t.arm a).mounted = .none ∧ t.tables =
         { s.tables with probes := s.tables.probes.set i { s.tables.probes[i] with loc := .unknown } }
     (s.pins.hseatLow.get a = false →
       ((s.arm a).phase = .identifying → (s.arm a).state = .active ∨ (s.arm a).state = .held → s.unasked a = true →
         ((s.arm a).mounted = .unverified ∨ (s.arm a).mounted = .foreign → exec (.seatDebounceExpiry a) s =
           .next ((read fun r => { r with mounted := .none }).blockFault a .noProbe)) ∧
         ∀ i : Fin 24, (s.arm a).mounted = .probe i → (s.arm a).moving = false →
           ∃ t, exec (.seatDebounceExpiry a) s = .next t ∧ lost t i) ∧
       ∀ h : Half,
         ((s.arm a).phase = .changing .dock h ∨ (s.arm a).phase = .changing .fetchApproach h ∨
           ((s.arm a).phase = .changing .release h ∧ (s.arm a).seatWait = .none) ∨
           ((s.arm a).phase = .changing .portRetract .stow ∧ (s.arm a).seatWait = .none) ∨
           ((s.arm a).phase = .changing .engage h ∧ (s.arm a).seatWait ≠ .none) → quiet) ∧
         ((s.arm a).state = .active ∨ (s.arm a).state = .held → s.unasked a = true →
           ((s.arm a).phase = .changing .engage h ∧ (s.arm a).seatWait = .none) ∨ (s.arm a).phase = .changing .identify h →
           exec (.seatDebounceExpiry a) s = .next ((read id).blockFault a .noProbe)) ∧
         (∀ i : Fin 24, (s.arm a).mounted = .probe i →
           ((s.arm a).phase = .changing .stowApproach h → s.restingBlock a = true →
             ∃ t, exec (.seatDebounceExpiry a) s = .next t ∧ lost t i) ∧
           ((s.arm a).phase = .changing .stowApproach h ∨ (s.arm a).phase = .changing .portRetract .fetch →
             (s.arm a).state = .active → (s.arm a).moving = true → 0 < (s.arm a).seg.v → (s.lanes.get a).paused = false →
             ∃ t, exec (.seatDebounceExpiry a) s = .next t ∧ (t.lanes.get a).paused = true ∧ t.tables = s.tables ∧
               t.arm a = ((read fun r => { r with probeLost := true }).arm a).stopping (.fault .probeLost))) ∧
         ((s.arm a).phase = .changing .portRetract .fetch → (∀ i, (s.arm a).mounted ≠ .probe i) →
           (s.arm a).state ≠ .stopping → exec (.seatDebounceExpiry a) s = .next (read fun r =>
             { r with exec := some { b with change := { b.change with fault := some .noProbe } } })) ∧
         (b.passed = true → b.slot.kind = some .changeProbe → (s.arm a).state = .active → (s.arm a).moving = false →
           (s.arm a).due = none → (s.arm a).holdLevel = false → (s.arm a).seatWait ≠ .none →
           let feed (n : Nat) : Nat := perTickFeed s.settings.period (min n (s.armSet a).maxFeed)
           let seg (k n : Nat) : Seg := Seg.between (s.arm a).cmd (b.target k) (feed n) (feed n) 0 0
           ∀ (m : Fin 24) (p : Fin 12), b.change.stowed = some m → b.change.stowPort = some p →
             ((s.arm a).phase = .changing .release .stow → (seg 0 (b.slot.nat 6)).len ≠ 0 →
               exec (.seatDebounceExpiry a) s = .next ({ read (fun r => { r with
                   mounted := .none
                   seatWait := .none
                   phase := .changing .portRetract .stow
                   seg := seg 0 (b.slot.nat 6)
                   moving := true }) with tables := {
                 probes := s.tables.probes.set m { s.tables.probes[m] with loc := .inPort p, lastPort := some p }
                 ports := s.tables.ports.set p { s.tables.ports[p] with state := .occupied m } } })) ∧
             ((s.arm a).phase = .changing .portRetract .stow → (seg 2 (b.slot.nat 5)).len ≠ 0 →
               exec (.seatDebounceExpiry a) s = .next ((((read fun r => { r with
                   seatWait := .none
                   phase := .changing .fetchApproach .fetch }).setUnit s.tables.ports[p].coverUnit
                     s.latches[s.tables.ports[p].coverUnit].unarmed).armCoverOf a b .fetch).modArm a fun r =>
                       { r with seg := seg 2 (b.slot.nat 5), moving := true })))) ∧
     (s.pins.hseatLow.get a = true →
       (∀ (c : ChangePhase) (h : Half), (s.arm a).phase = .changing c h → c ≠ .engage ∨ (s.arm a).seatWait = .none →
         quiet) ∧
       (∀ h : Half, (s.arm a).phase = .changing .engage h → (s.arm a).seatWait ≠ .none → (s.arm a).state = .active →
         (s.arm a).moving = false → (s.arm a).due = none → (s.arm a).holdLevel = false →
         exec (.seatDebounceExpiry a) s = .next (read fun r => { r with
           seatWait := .none
           link := { r.link with engine := .wake, cmd := .lock, attempt := 1, firstKind := none, buf := [] } })) ∧
       ((s.arm a).phase = .identifying → (s.arm a).mounted ≠ .none → quiet)))

/-! ## The head link -/

/-- The engine's states follow one another by its events: WAKE, SYNC_WAIT, SYNC, SEND with the bit period, REPLY_WAIT,
RECEIVE with the byte received, and PAUSE to the second attempt. -/
def Obligations.LinkEventsAdvanceEngine : Prop :=
  ∀ (s : State) (a : Arm),
    (s.engine a = .wake → exec (.wakeEnd a) s = .next (s.modLink a fun l => { l with engine := .syncWait })) ∧
    (s.engine a = .syncWait → exec (.syncFall a) s = .next (s.modLink a fun l => { l with engine := .sync })) ∧
    (∀ n : BitVec 16, s.engine a = .sync → 13 ≤ (2 * n.toNat + 10) / 20 →
      exec (.syncRise a n) s = .next (s.modLink a fun l => { l with period := (2 * n.toNat + 10) / 20, engine := .send })) ∧
    (s.engine a = .send → exec (.commandSent a) s = .next (s.modLink a fun l => { l with engine := .replyWait })) ∧
    (∀ b : Byte, s.settled = true → (s.engine a = .replyWait ∨ s.engine a = .receive) →
      (s.arm a).link.buf.length < (s.arm a).link.cmd.expected →
      exec (.replyByte a (frameOf b)) s =
        .next (s.modLink a fun l => { l with engine := .receive, buf := l.buf ++ [b] })) ∧
    (s.engine a = .pause →
      exec (.linkPauseExpiry a) s = .next (s.modLink a fun l => { l with engine := .wake, attempt := 2, buf := [] }))

/-- A failed first attempt is kept as its kind and goes to PAUSE, and a failed second attempt fails the transaction,
each with the B of its own where a SYNC of the attempt gave one, be it too short: in IDENTIFY, and for LINK_REFUSED in
a change, the block ends FAULTED with the code of its kind, otherwise a change faults its arm. A transaction that
succeeds: UNLOCK with the module still seated starts the wait for SEAT high; LOCK makes the fetch and begins READ_ID;
READ_ID in a change verifies P and begins PORT_RETRACT, or reconciles the arm with ID_MISMATCH to follow; READ_ID in
IDENTIFY reconciles the arm and completes the block. Where that reconciliation takes the probe of a touch block of the
other arm, or changes what a change of the other arm works with, that arm stops at once with MOUNT_UNKNOWN, a change
with its settlement. The model's own readings in it: log 19, 45, 52, 53. -/
def Obligations.LinkAttemptEnds : Prop :=
  (∀ (s : State) (a : Arm) (c : Instr) (k : LinkKind), s.linkFails a c k →
     let code : FaultCode := match k with
       | .timeout => .linkTimeout
       | .rate => .rateFault
       | .refused => .linkRefused
       | _ => .linkError
     (s.settled = true → (s.arm a).link.attempt = 1 →
       exec c s = .next ((s.measured a c).modLink a fun l => { l with engine := .pause, firstKind := some k })) ∧
     (s.calm = true → (s.arm a).link.attempt = 2 → ∀ b : Block, (s.arm a).exec = some b →
       let noted : State := (s.measured a c).modArm a fun r => { r with
         link := { r.link with engine := .idle }
         exec := some { b with link := ⟨r.link.period, 1, r.link.firstKind, if code = .linkError then some k else none⟩ } }
       ((s.arm a).phase = .identifying → s.unasked a = true → exec c s = .next (noted.blockFault a code)) ∧
       ∀ (p : ChangePhase) (h : Half), (s.arm a).phase = .changing p h → s.restingBlock a = true →
         (k = .refused → exec c s = .next (noted.blockFault a .linkRefused)) ∧
         (k ≠ .refused → (s.arm a).committed = none → s.shm.wf = true →
           (s.lanes.get a).slotBase b.slot.index + 32 ≤ 65536 →
           ∃ t, exec c s = .next t ∧ (t.arm a).state = .fault ∧ (t.arm a).lastFault = some code ∧ (t.arm a).exec = none ∧
             (t.arm a).link.engine = .idle ∧ (t.lanes.get a).paused = true ∧ (t.arm a).cmd = (s.arm a).cmd ∧
             t.arm a.other = s.arm a.other ∧ t.unit.notices &&& (faultNotice a).one ≠ 0 ∧
             t.shm.get ((s.lanes.get a).slotBase b.slot.index + 2) = natWord (code.code * 256 + b.flags.bits)))) ∧
  (∀ (s : State) (a : Arm) (h : Half) (b : Block), s.settled = true → s.engine a = .receive → (s.arm a).exec = some b →
     let done : LinkInfo := ⟨(s.arm a).link.period, (s.arm a).link.attempt - 1, (s.arm a).link.firstKind, none⟩
     let idle : Link := { (s.arm a).link with engine := .idle }
     ((s.arm a).link.cmd = .unlock → (s.arm a).link.buf = [0xA5] → (s.arm a).phase = .changing .release h →
       (s.arm a).seatLow = true →
       exec (.replyGapExpiry a) s = .next (s.modArm a fun r => { r with
         link := idle, exec := some { b with link := done }, seatWait := .high (s.armSet a).seatTimeout })) ∧
     (b.passed = true → b.slot.kind = some .changeProbe → (s.arm a).state = .active → (s.arm a).moving = false →
       (s.arm a).due = none → (s.arm a).holdLevel = false →
       (∀ (q : Fin 24) (p : Fin 12), (s.arm a).link.cmd = .lock → (s.arm a).link.buf = [0xA5] →
         (s.arm a).phase = .changing .engage h → b.change.target = some q → b.change.fetchPort = some p →
         exec (.replyGapExpiry a) s = .next ({ s with tables := {
             probes := s.tables.probes.set q { s.tables.probes[q] with loc := .unknown, lastPort := some p }
             ports := s.tables.ports.set p { s.tables.ports[p] with state := .empty } } }.modArm a fun r => { r with
           exec := some { b with link := done }
           mounted := .unverified
           phase := .changing .identify .fetch
           link := { r.link with engine := .wake, cmd := .readId, attempt := 1, firstKind := none, buf := [] } })) ∧
       (∀ q : Fin 24, s.identityRead a → (s.arm a).phase = .changing .identify h → b.change.target = some q →
         s.identifies a q →
         let feed := perTickFeed s.settings.period (min (b.slot.nat 6) (s.armSet a).maxFeed)
         let seg := Seg.between (s.arm a).cmd (b.target (b.approachIndex .fetch)) feed feed 0 0
         seg.len ≠ 0 →
         exec (.replyGapExpiry a) s = .next ({ s with tables := { s.tables with
             probes := s.tables.probes.set q { s.tables.probes[q] with loc := .mounted a } } }.modArm a fun r => { r with
           exec := some { b with
             link := done
             change := { b.change with
               serial := s.tables.probes[q].serial, kindRead := ((s.arm a).link.buf.getD 1 0).toNat } }
           mounted := .probe q
           phase := .changing .portRetract .fetch
           link := idle
           seg := seg
           moving := true })))) ∧
  (∀ (s : State) (a : Arm) (b : Block), s.engine a = .receive → s.identityRead a → (s.arm a).exec = some b →
     (s.arm a.other).exec = none →
     let reconciled (t : State) : Prop :=
       (∀ q : Fin 24, s.identifies a q → (t.arm a).mounted = .probe q ∧ t.tables.probes[q].loc = Location.mounted a ∧
         (∀ p, s.tables.probes[q].loc = Location.inPort p → t.tables.ports[p].state = .unknown) ∧
         (s.tables.probes[q].loc = Location.mounted a.other → (t.arm a.other).mounted = .unverified) ∧
         ∀ x, x ≠ q → (s.arm a).mounted = .probe x → t.tables.probes[x].loc = .unknown) ∧
       ((∀ q, ¬ s.names a q) → (t.arm a).mounted = .foreign ∧ t.tables.ports = s.tables.ports ∧
         t.arm a.other = s.arm a.other ∧ ∀ x, (s.arm a).mounted = .probe x → t.tables.probes[x].loc = .unknown)
     ((s.arm a).phase = .identifying → s.calm = true → s.unasked a = true → s.shm.wf = true →
       (s.lanes.get a).slotBase b.slot.index + 32 ≤ 65536 →
       ∃ t, exec (.replyGapExpiry a) s = .next t ∧ reconciled t ∧ (t.arm a).exec = none ∧
         (t.arm a).state = (if (s.arm a).holdLevel then .held else (s.arm a).free) ∧
         (t.arm a).link.engine = .idle ∧ t.unit.notices &&& (laneNotice a).one ≠ 0 ∧
         t.shm.get ((s.lanes.get a).slotBase b.slot.index + 2) = natWord (1 + b.flags.bits)) ∧
     (∀ h : Half, (s.arm a).phase = .changing .identify h → s.settled = true → b.passed = true →
       b.slot.kind = some .changeProbe → (s.arm a).state = .active → (s.arm a).moving = false → (s.arm a).due = none →
       (s.arm a).holdLevel = false → (∀ q, b.change.target = some q → ¬ s.names a q) →
       (let feed := perTickFeed s.settings.period (min (b.slot.nat 6) (s.armSet a).maxFeed)
        (Seg.between (s.arm a).cmd (b.target (b.approachIndex .fetch)) feed feed 0 0).len ≠ 0) →
       ∃ t, exec (.replyGapExpiry a) s = .next t ∧ reconciled t ∧ (t.arm a).phase = .changing .portRetract .fetch ∧
         (t.arm a).moving = true ∧ (t.arm a).cmd = (s.arm a).cmd ∧
         ((t.arm a).exec.map fun d => d.change.fault) = some (some .idMismatch))) ∧
  (∀ (s : State) (a : Arm) (b d : Block) (q : Fin 24), s.calm = true → s.engine a = .receive → s.identityRead a →
     s.identifies a q → (s.arm a).phase = .identifying → (s.arm a).exec = some b → s.unasked a = true →
     s.unasked a.other = true → (s.arm a.other).exec = some d → d.passed = true →
     ((s.arm a.other).state = .active ∨ (s.arm a.other).state = .held) →
     let o := s.arm a.other
     let at_ := s.tables.probes[q].loc
     let read : State := (s.modArm a fun r => { r with
       link := { r.link with engine := .idle }
       exec := some { b with
         link := ⟨r.link.period, r.link.attempt - 1, r.link.firstKind, none⟩, ident := ⟨r.link.buf, some q⟩ } }).reconcile a
           (some q)
     let stopped (t : State) : Prop :=
       t = (read.blockFault a.other .mountUnknown).completeDone a .ok ∧ (t.arm a).mounted = .probe q ∧
         (t.arm a.other).rests o.between o.cmd o.axes ∧ (t.arm a.other).link.engine = .idle ∧
         (t.arm a.other).seatWait = .none ∧ (t.lanes.get a.other).paused = true ∧
         ∀ u : Fin 16, s.latches[u].alloc = some a.other → (∃ n, s.latches[u].armedBy = .block n) →
           t.latches[u] = s.latches[u].unarmed
     (d.slot.kind = some .probePoint ∨ d.slot.kind = some .qualify → o.changing = false → o.mounted = .probe q →
       at_ = Location.mounted a.other →
       ∃ t, exec (.replyGapExpiry a) s = .next t ∧ stopped t ∧ (t.arm a.other).mounted = .unverified ∧
         t.tables.probes[q].loc = Location.mounted a) ∧
     (∀ (c : ChangePhase) (h : Half), d.slot.kind = some .changeProbe → o.phase = .changing c h →
       (o.mounted = .probe q ∧ at_ = Location.mounted a.other) ∨
         (at_ ≠ Location.mounted a ∧ (d.change.target = some q ∨ d.change.stowed = some q)) ∨
         (∃ p, at_ = Location.inPort p ∧ s.tables.ports[p].state ≠ .unknown ∧
           (d.change.fetchPort = some p ∨ d.change.stowPort = some p)) →
       ∃ t, exec (.replyGapExpiry a) s = .next t ∧ stopped t ∧
         ((t.arm a.other).mounted =
           if o.seatLow = false then .none
           else if o.mounted = .none ∨ at_ = Location.mounted a.other then .unverified
           else o.mounted) ∧
         (∀ p : Fin 12, c ≠ .stowApproach → c ≠ .fetchApproach →
           (if h = .stow then d.change.stowPort else d.change.fetchPort) = some p → t.tables.ports[p].state = .unknown) ∧
         ((∀ p : Fin 12, s.tables.ports[p].state = .occupied q → at_ = Location.inPort p) →
           (o.mounted = .probe q → at_ = Location.mounted a.other) → t.tables.probes[q].loc = Location.mounted a)))

/-! ## Temperatures -/

/-- The calibrated temperature of a sample, the three tests of which any makes it bad, and what a bad and a good sample
make of the record. A channel with a bad sample in every scan is LOST from the scan of its hold limit on. -/
def Obligations.SampleTemperatureAndTests : Prop :=
  (∀ (c : Channel) (code : Nat), code ≤ 4095 → (c.gain).natAbs ≤ 1048576 → -32768 ≤ c.offset → c.offset ≤ 32767 →
     ∃ q : Int, 65536 * q ≤ code * c.gain + 2 ^ 15 ∧ code * c.gain + 2 ^ 15 < 65536 * (q + 1) ∧
       c.rawTemp code = max (-2560) (min (c.offset + q) 7680) ∧ (code * c.gain).natAbs ≤ 2 ^ 32) ∧
  (∀ (c : Channel) (code : Nat), c.sampleBad code = true ↔
     (code : Int) ≤ c.codeLo ∨ c.codeHi ≤ (code : Int) ∨
       (c.state ≠ .lost ∧ c.stepLimit < |c.rawTemp code - c.value|)) ∧
  (∀ (c : Channel) (code : Nat), c.sampleBad code = true → 1 ≤ c.holdLimit →
     (c.state = .valid →
       c.sample code = { c with bad := 1, state := if c.holdLimit = 1 then .lost else .suspect }) ∧
     (c.state = .suspect → c.sample code =
       { c with bad := c.bad + 1, state := if c.holdLimit ≤ c.bad + 1 then .lost else .suspect }) ∧
     (c.state = .lost → c.sample code = { c with bad := if c.bad < c.holdLimit then c.bad + 1 else c.bad })) ∧
  (∀ (c : Channel) (code : Nat), c.sampleBad code = false →
     (c.state = .lost ∨ ((c.state = .valid ∨ c.state = .suspect) ∧ c.shift = 0) →
       c.sample code = { c with value := c.rawTemp code, state := .valid, bad := 0 }) ∧
     ((c.state = .valid ∨ c.state = .suspect) → 1 ≤ c.shift → c.sample code = { c with
       value := max (-2560) (min (c.value + (c.rawTemp code - c.value + 2 ^ (c.shift - 1)) / 2 ^ c.shift) 7680)
       state := .valid
       bad := 0 })) ∧
  (∀ (c : Channel) (code n : Nat), c.state = .valid → (code : Int) ≤ c.codeLo → 1 ≤ c.holdLimit →
     (((fun d => Channel.sample d code)^[n] c).state = .lost ↔ c.holdLimit ≤ n) ∧
       ((fun d => Channel.sample d code)^[n] c).value = c.value)

/-- At a scan end a group with a VALID member takes the nearest rounded mean of its VALID members, ties away from zero;
one with members of which none is VALID counts up and is HELD below its hold limit, and at it SUBSTITUTED by a VALID AIR
or LOST; one with no members is EMPTY. -/
def Obligations.GroupTakesRoundedMean : Prop :=
  (∀ (t : Thermal) (i : Fin 10), t.validValues t.groups[i] ≠ [] →
    let vs := t.validValues t.groups[i]
    let g : Sys2Proof.Machine.Group := t.scanEnded.groups[i]
    vs = ((t.groups[i].members.filter fun m => t.chans[m].state = .valid).map fun m => t.chans[m].value) ∧
      g = { t.groups[i] with state := .valid, held := 0, temp := g.temp } ∧
      |2 * (g.temp * vs.length - vs.sum)| ≤ vs.length ∧
      (|2 * (g.temp * vs.length - vs.sum)| = vs.length → |vs.sum| < |g.temp * vs.length|)) ∧
  (∀ (t : Thermal) (i : Fin 10), t.groups[i].members ≠ [] → (∀ m ∈ t.groups[i].members, t.chans[m].state ≠ .valid) →
    let old : Sys2Proof.Machine.Group := t.groups[i]
    let g : Sys2Proof.Machine.Group := t.scanEnded.groups[i]
    let air : Sys2Proof.Machine.Group := t.scanEnded.groups[(9 : Fin 10)]
    let n := min (old.held + 1) 255
    (n < old.holdLimit → g = { old with state := .held, held := n }) ∧
      (old.holdLimit ≤ n → i ≠ 9 → air.state = .valid →
        g = { old with state := .substituted, temp := air.temp, held := n }) ∧
      (old.holdLimit ≤ n → i = 9 ∨ air.state ≠ .valid → g = { old with state := .lost, held := n })) ∧
  (∀ (t : Thermal) (i : Fin 10), t.groups[i].members = [] →
    (t.scanEnded.groups[i] : Sys2Proof.Machine.Group) = { t.groups[i] with state := .empty, temp := 2560, held := 0 })

/-- A scan begins with the scan list; a sample is processed into the record of the next channel; the last sample ends the
scan; with no listed channel the scan ends as it begins. A scan end publishes the channels and the groups, sets the THERMAL
notice exactly when the published state of a group has changed, and applies the request that the Thermal Unit holds. -/
def Obligations.ScanSamplesAndPublishes : Prop :=
  ((∀ s : State, s.therm.scanTimer ≠ none → s.therm.scan = none →
     (s.therm.scanList ≠ [] →
       exec .scanBegin s = .next { s with therm := { s.therm with scan := some s.therm.scanList } }) ∧
     (s.therm.scanList = [] → exec .scanBegin s = .next s.scanEnd)) ∧
   (∀ (s : State) (code : BitVec 12) (i : Fin 32) (rest : List (Fin 32)), s.therm.scan = some (i :: rest) →
     let chans := s.therm.chans.set i (s.therm.chans[i].sample code.toNat)
     (rest ≠ [] → exec (.sampleComplete code) s =
       .next { s with therm := { s.therm with chans := chans, scan := some rest } }) ∧
     (rest = [] → exec (.sampleComplete code) s =
       .next (State.scanEnd { s with therm := { s.therm with chans := chans, scan := some [] } })))) ∧
  (∀ s : State, (∀ q, s.svc = some q → q.held = false) →
     (∀ i : Fin 32, (s.scanEnd.therm.snap.chans[i] : ChanPub) = ⟨s.therm.chans[i].value, s.therm.chans[i].state⟩) ∧
       (∀ i : Fin 10, (s.scanEnd.therm.snap.groups[i] : GroupPub) =
         ⟨s.scanEnd.therm.groups[i].temp, s.scanEnd.therm.groups[i].state⟩) ∧
       s.scanEnd.therm.scan = none ∧ s.scanEnd.therm.chans = s.therm.chans ∧
       s.scanEnd.svc = s.svc ∧
       s.scanEnd.unit.notices = (if ∃ i : Fin 10, s.scanEnd.therm.snap.groups[i].state ≠ s.therm.snap.groups[i].state then
         s.unit.notices ||| Notice.thermal.one else s.unit.notices)) ∧
  (∀ (s : State) (c : SlotCopy), s.svc = some ⟨c, true⟩ →
     let u : State := { State.scanEnd { s with svc := none } with svc := s.svc }
     let listed (i : Fin 32) : Channel := { u.therm.chans[i] with
       listed := true, offset := c.int 6, gain := c.int 7, codeLo := c.int 8, codeHi := c.int 9, stepLimit := c.int 10,
       shift := c.nat 11, holdLimit := c.nat 12, sampleTime := c.nat 13, state := .lost, bad := 0 }
     let unlisted (i : Fin 32) : Channel := { u.therm.chans[i] with listed := false, state := .off, value := 2560, bad := 0 }
     (∀ i : Fin 32, c.svcKind = some .setSensor → c.nat 4 = i.val →
       (c.nat 5 = 1 → c.sensorSettingsOk = true →
         s.scanEnd = ({ u with therm := { u.therm with chans := u.therm.chans.set i (listed i) } }.svcAnswer (.done []))) ∧
       (c.nat 5 = 0 →
         s.scanEnd = ({ u with therm := { u.therm with chans := u.therm.chans.set i (unlisted i) } }.svcAnswer (.done [])))) ∧
     ∀ (g : Fin 10) (ms : List (Fin 32)), c.svcKind = some .setGroup → c.nat 4 = g.val → c.groupMembers = some ms →
       ms.Nodup → 1 ≤ c.nat 10 → c.nat 10 ≤ 255 →
       let new : Sys2Proof.Machine.Group := { u.therm.groups[g] with
         members := ms, holdLimit := c.nat 10, held := 0, ring := [] }
       ((∀ h : Fin 10, h ≠ g → ∀ m ∈ ms, m ∉ u.therm.groups[h].members) →
         s.scanEnd = ({ u with therm := { u.therm with groups := u.therm.groups.set g new } }.svcAnswer (.done []))) ∧
       ((∃ h : Fin 10, h ≠ g ∧ ∃ m ∈ ms, m ∈ u.therm.groups[h].members) →
         s.scanEnd = u.svcAnswer (.refused .badField)))

/-- An expiry of the history interval appends the published temperature of a VALID or EMPTY group to its ring of 16 and
empties the ring of any other. A WAIT_STABLE that waits for a group whose ring is now full and within its band completes
OK; it waits on otherwise. The model's own readings in it: log 10. -/
def Obligations.HistoryRecordsRings : Prop :=
  ∀ (s : State) (first : Arm), s.therm.historyTimer ≠ none →
    ∃ groups : Vector Sys2Proof.Machine.Group 10,
      (∀ i : Fin 10,
        let p : GroupPub := s.therm.snap.groups[i]
        let old : Sys2Proof.Machine.Group := s.therm.groups[i]
        (p.state = .valid ∨ p.state = .empty → old.ring.length ≤ 16 →
          (groups[i] : Sys2Proof.Machine.Group) = { old with ring :=
            (if old.ring.length = 16 then old.ring.tail else old.ring) ++ [p.temp] }) ∧
        (p.state ≠ .valid → p.state ≠ .empty → (groups[i] : Sys2Proof.Machine.Group) = { old with ring := [] })) ∧
      let u : State := { s with therm := { s.therm with groups := groups } }
      let ready (a : Arm) : Prop := (s.arm a).phase = .waitingStable ∧ ∃ (b : Block) (i : Fin 10),
        (s.arm a).exec = some b ∧ b.slot.nat 4 = i.val ∧ groups[i].ring.length = 16 ∧
          ∀ x ∈ groups[i].ring, ∀ y ∈ groups[i].ring, x - y ≤ b.slot.nat 5
      ((∀ a, ¬ ready a) → exec (.historyExpiry first) s = .next u) ∧
      (s.calm = true → s.zone.holder = none →
        (∀ a, ready a → ¬ ready a.other → exec (.historyExpiry first) s = .next (u.completeDone a .ok)) ∧
        ((∀ a, ready a) →
          exec (.historyExpiry first) s = .next ((u.completeDone first .ok).completeDone first.other .ok)))

/-! ## The Condition Page -/

/-- A refresh leaves an even page count two or three above the last and the contents of 12.8: the device words, the entry of
each arm, the published groups and channels. Nothing outside the page is changed; none is due any more. The model's own
readings in it: log 16, 17, 26, 33, 35, 45, 50. -/
def Obligations.RefreshWritesPage : Prop :=
  ∀ s : State, s.shm.wf = true → s.device = .run →
    (∀ c : Instr, (c = .refreshTimerExpiry ∧ s.refreshTimer ≠ none) ∨ (c = .pendingRefresh ∧ s.refreshDue = true) →
      ∃ t, exec c s = .next t ∧ t = { s with shm := t.shm, refreshDue := false } ∧
        (t.shm.get 512).getLsbD 0 = false ∧
        t.shm.get 512 = (if (s.shm.get 512).getLsbD 0 then s.shm.get 512 + 3 else s.shm.get 512 + 2) ∧
        t.shm.get 513 = natWord ((if s.corr.swapPending then 256 else 0) + match s.svc with
          | some q => 512 + q.slot.index * 65536
          | none => 0) ∧
        t.shm.get 514 = s.tickNo ∧ t.shm.get 515 = natWord s.svcLane.cursor ∧
        (∀ a : Arm,
          let base : Nat := match a with
            | .A => 520
            | .B => 552
          let r := s.arm a
          let m := (s.chain a).toMachine (s.counts a)
          t.shm.get base = r.standWord ∧
            (r.holding = false → r.state ≠ .held →
              t.shm.get base = natWord (r.state.code + r.phase.code * 256 + r.phase.detail * 65536 + r.phase.halfBit * 16777216)) ∧
            t.shm.get (base + 1) = natWord ((match r.exec with
              | some b => b.slot.tag
              | none => 0) + r.queue.length * 65536 + if (s.lanes.get a).paused then 1048576 else 0) ∧
            t.shm.get (base + 2) = natWord (s.lanes.get a).cursor ∧
            t.shm.get (base + 3) = natWord (r.mounted.code + orNoArm s.zone.holder * 256 +
              (if r.referenced then 4096 else 0) + (if r.axes.x.referenced then 8192 else 0) +
              (if r.axes.y.referenced then 16384 else 0) + (if r.axes.z.referenced then 32768 else 0) +
              faultCodeOf r.lastFault * 65536) ∧
            (∀ k, k < 9 → t.shm.get (base + 4 + k) = ([intWord r.axes.x.setpoint, intWord r.axes.y.setpoint,
              intWord r.axes.z.setpoint, intWord r.axes.x.count, intWord r.axes.y.count, intWord r.axes.z.count,
              intWord m.x, intWord m.y, intWord m.z] : List Word).getD k 0) ∧
            (∀ k, k < 4 → t.shm.get (base + 13 + k) = (match (s.chain a).toPart (s.counts a) with
              | some v => [intWord v.x, intWord v.y, intWord v.z, 1]
              | none => [0, 0, 0, 0] : List Word).getD k 0)) ∧
        (∀ i : Fin 10, t.shm.get (600 + i.val) = natWord (low16 s.therm.snap.groups[i].temp +
          s.therm.snap.groups[i].state.code * 65536)) ∧
        (∀ i : Fin 32, t.shm.get (616 + i.val) = natWord (low16 s.therm.snap.chans[i].value +
          s.therm.snap.chans[i].state.code * 65536)) ∧
        ∀ j, j < 512 ∨ 647 < j → t.shm.get j = s.shm.get j)

end Statements
end

