-- ==== Sys2Proof/Laws/State.lean ====
section
/-! SUPPORT. What each update of the state leaves alone, field by field, and what it writes; the two arms and the three
axes read back. All true by rfl. -/

namespace Sys2Proof

@[simp] theorem Arm.other_other (a : Arm) : a.other.other = a := by cases a <;> rfl

@[simp] theorem Arm.other_ne (a : Arm) : a.other ≠ a := by cases a <;> decide

@[simp] theorem Arm.ne_other (a : Arm) : a ≠ a.other := by cases a <;> decide

theorem Arm.eq_or_other (a b : Arm) : b = a ∨ b = a.other := by cases a <;> cases b <;> decide

@[simp] theorem Duo.get_set_same {α : Type} (d : Duo α) (a : Arm) (x : α) : (d.set a x).get a = x := by cases a <;> rfl

@[simp] theorem Duo.get_set_other {α : Type} (d : Duo α) (a : Arm) (x : α) : (d.set a x).get a.other = d.get a.other := by
  cases a <;> rfl

@[simp] theorem Duo.get_other_set {α : Type} (d : Duo α) (a : Arm) (x : α) : (d.set a.other x).get a = d.get a := by
  cases a <;> rfl

@[simp] theorem Duo.set_set {α : Type} (d : Duo α) (a : Arm) (x y : α) : (d.set a x).set a y = d.set a y := by
  cases a <;> rfl

@[simp] theorem Duo.set_get {α : Type} (d : Duo α) (a : Arm) : d.set a (d.get a) = d := by cases a <;> rfl

@[simp] theorem Tri.get_set_same {α : Type} (t : Tri α) (x : Axis) (v : α) : (t.set x v).get x = v := by cases x <;> rfl

theorem Tri.get_set_ne {α : Type} (t : Tri α) (x y : Axis) (v : α) (h : y ≠ x) : (t.set x v).get y = t.get y := by
  cases x <;> cases y <;> first | rfl | exact absurd rfl h

end Sys2Proof

namespace Sys2Proof.Machine

variable (s : State)

/-! ## The arm that is written, and the other -/

@[simp] theorem State.arm_setArm_same (a : Arm) (r : ArmRec) : (s.setArm a r).arm a = r := by cases a <;> rfl

@[simp] theorem State.arm_setArm_other (a : Arm) (r : ArmRec) : (s.setArm a r).arm a.other = s.arm a.other := by
  cases a <;> rfl

@[simp] theorem State.arm_other_setArm (a : Arm) (r : ArmRec) : (s.setArm a.other r).arm a = s.arm a := by
  cases a <;> rfl

@[simp] theorem State.arm_modArm_same (a : Arm) (f : ArmRec → ArmRec) : (s.modArm a f).arm a = f (s.arm a) := by
  cases a <;> rfl

@[simp] theorem State.arm_modArm_other (a : Arm) (f : ArmRec → ArmRec) : (s.modArm a f).arm a.other = s.arm a.other := by
  cases a <;> rfl

@[simp] theorem State.arm_other_modArm (a : Arm) (f : ArmRec → ArmRec) : (s.modArm a.other f).arm a = s.arm a := by
  cases a <;> rfl

@[simp] theorem State.setArm_setArm (a : Arm) (r r' : ArmRec) : (s.setArm a r).setArm a r' = s.setArm a r' := by
  cases a <;> rfl

@[simp] theorem State.setArm_arm (a : Arm) : s.setArm a (s.arm a) = s := by cases a <;> rfl

theorem State.modArm_modArm (a : Arm) (f g : ArmRec → ArmRec) :
    (s.modArm a f).modArm a g = s.modArm a fun r => g (f r) := by cases a <;> rfl

@[simp] theorem State.arm_modExec_other (a : Arm) (f : Block → Block) : (s.modExec a f).arm a.other = s.arm a.other := by
  cases a <;> rfl

@[simp] theorem State.exec_modExec (a : Arm) (f : Block → Block) :
    ((s.modExec a f).arm a).exec = (s.arm a).exec.map f := by cases a <;> rfl

/-! ## setArm -/

@[simp] theorem State.setArm_device (a : Arm) (r : ArmRec) : (s.setArm a r).device = s.device := rfl

@[simp] theorem State.setArm_tickNo (a : Arm) (r : ArmRec) : (s.setArm a r).tickNo = s.tickNo := rfl

@[simp] theorem State.setArm_shm (a : Arm) (r : ArmRec) : (s.setArm a r).shm = s.shm := rfl

@[simp] theorem State.setArm_copied (a : Arm) (r : ArmRec) : (s.setArm a r).copied = s.copied := rfl

@[simp] theorem State.setArm_settings (a : Arm) (r : ArmRec) : (s.setArm a r).settings = s.settings := rfl

@[simp] theorem State.setArm_unit (a : Arm) (r : ArmRec) : (s.setArm a r).unit = s.unit := rfl

@[simp] theorem State.setArm_lanes (a : Arm) (r : ArmRec) : (s.setArm a r).lanes = s.lanes := rfl

@[simp] theorem State.setArm_svcLane (a : Arm) (r : ArmRec) : (s.setArm a r).svcLane = s.svcLane := rfl

@[simp] theorem State.setArm_svc (a : Arm) (r : ArmRec) : (s.setArm a r).svc = s.svc := rfl

@[simp] theorem State.setArm_refreshDue (a : Arm) (r : ArmRec) : (s.setArm a r).refreshDue = s.refreshDue := rfl

@[simp] theorem State.setArm_refreshTimer (a : Arm) (r : ArmRec) : (s.setArm a r).refreshTimer = s.refreshTimer := rfl

@[simp] theorem State.setArm_corr (a : Arm) (r : ArmRec) : (s.setArm a r).corr = s.corr := rfl

@[simp] theorem State.setArm_therm (a : Arm) (r : ArmRec) : (s.setArm a r).therm = s.therm := rfl

@[simp] theorem State.setArm_latches (a : Arm) (r : ArmRec) : (s.setArm a r).latches = s.latches := rfl

@[simp] theorem State.setArm_zone (a : Arm) (r : ArmRec) : (s.setArm a r).zone = s.zone := rfl

@[simp] theorem State.setArm_tables (a : Arm) (r : ArmRec) : (s.setArm a r).tables = s.tables := rfl

@[simp] theorem State.setArm_pins (a : Arm) (r : ArmRec) : (s.setArm a r).pins = s.pins := rfl

@[simp] theorem State.setArm_free (a : Arm) (r : ArmRec) : (s.setArm a r).free = s.free := rfl

@[simp] theorem State.setArm_pending (a : Arm) (r : ArmRec) : (s.setArm a r).pending = s.pending := rfl

/-! ## modArm -/

@[simp] theorem State.modArm_device (a : Arm) (f : ArmRec → ArmRec) : (s.modArm a f).device = s.device := rfl

@[simp] theorem State.modArm_tickNo (a : Arm) (f : ArmRec → ArmRec) : (s.modArm a f).tickNo = s.tickNo := rfl

@[simp] theorem State.modArm_shm (a : Arm) (f : ArmRec → ArmRec) : (s.modArm a f).shm = s.shm := rfl

@[simp] theorem State.modArm_copied (a : Arm) (f : ArmRec → ArmRec) : (s.modArm a f).copied = s.copied := rfl

@[simp] theorem State.modArm_settings (a : Arm) (f : ArmRec → ArmRec) : (s.modArm a f).settings = s.settings := rfl

@[simp] theorem State.modArm_unit (a : Arm) (f : ArmRec → ArmRec) : (s.modArm a f).unit = s.unit := rfl

@[simp] theorem State.modArm_lanes (a : Arm) (f : ArmRec → ArmRec) : (s.modArm a f).lanes = s.lanes := rfl

@[simp] theorem State.modArm_svcLane (a : Arm) (f : ArmRec → ArmRec) : (s.modArm a f).svcLane = s.svcLane := rfl

@[simp] theorem State.modArm_svc (a : Arm) (f : ArmRec → ArmRec) : (s.modArm a f).svc = s.svc := rfl

@[simp] theorem State.modArm_refreshDue (a : Arm) (f : ArmRec → ArmRec) : (s.modArm a f).refreshDue = s.refreshDue := rfl

@[simp] theorem State.modArm_refreshTimer (a : Arm) (f : ArmRec → ArmRec) : (s.modArm a f).refreshTimer = s.refreshTimer := rfl

@[simp] theorem State.modArm_corr (a : Arm) (f : ArmRec → ArmRec) : (s.modArm a f).corr = s.corr := rfl

@[simp] theorem State.modArm_therm (a : Arm) (f : ArmRec → ArmRec) : (s.modArm a f).therm = s.therm := rfl

@[simp] theorem State.modArm_latches (a : Arm) (f : ArmRec → ArmRec) : (s.modArm a f).latches = s.latches := rfl

@[simp] theorem State.modArm_zone (a : Arm) (f : ArmRec → ArmRec) : (s.modArm a f).zone = s.zone := rfl

@[simp] theorem State.modArm_tables (a : Arm) (f : ArmRec → ArmRec) : (s.modArm a f).tables = s.tables := rfl

@[simp] theorem State.modArm_pins (a : Arm) (f : ArmRec → ArmRec) : (s.modArm a f).pins = s.pins := rfl

@[simp] theorem State.modArm_free (a : Arm) (f : ArmRec → ArmRec) : (s.modArm a f).free = s.free := rfl

@[simp] theorem State.modArm_pending (a : Arm) (f : ArmRec → ArmRec) : (s.modArm a f).pending = s.pending := rfl

/-! ## modExec -/

@[simp] theorem State.modExec_device (a : Arm) (f : Block → Block) : (s.modExec a f).device = s.device := rfl

@[simp] theorem State.modExec_tickNo (a : Arm) (f : Block → Block) : (s.modExec a f).tickNo = s.tickNo := rfl

@[simp] theorem State.modExec_shm (a : Arm) (f : Block → Block) : (s.modExec a f).shm = s.shm := rfl

@[simp] theorem State.modExec_copied (a : Arm) (f : Block → Block) : (s.modExec a f).copied = s.copied := rfl

@[simp] theorem State.modExec_settings (a : Arm) (f : Block → Block) : (s.modExec a f).settings = s.settings := rfl

@[simp] theorem State.modExec_unit (a : Arm) (f : Block → Block) : (s.modExec a f).unit = s.unit := rfl

@[simp] theorem State.modExec_lanes (a : Arm) (f : Block → Block) : (s.modExec a f).lanes = s.lanes := rfl

@[simp] theorem State.modExec_svcLane (a : Arm) (f : Block → Block) : (s.modExec a f).svcLane = s.svcLane := rfl

@[simp] theorem State.modExec_svc (a : Arm) (f : Block → Block) : (s.modExec a f).svc = s.svc := rfl

@[simp] theorem State.modExec_refreshDue (a : Arm) (f : Block → Block) : (s.modExec a f).refreshDue = s.refreshDue := rfl

@[simp] theorem State.modExec_refreshTimer (a : Arm) (f : Block → Block) : (s.modExec a f).refreshTimer = s.refreshTimer := rfl

@[simp] theorem State.modExec_corr (a : Arm) (f : Block → Block) : (s.modExec a f).corr = s.corr := rfl

@[simp] theorem State.modExec_therm (a : Arm) (f : Block → Block) : (s.modExec a f).therm = s.therm := rfl

@[simp] theorem State.modExec_latches (a : Arm) (f : Block → Block) : (s.modExec a f).latches = s.latches := rfl

@[simp] theorem State.modExec_zone (a : Arm) (f : Block → Block) : (s.modExec a f).zone = s.zone := rfl

@[simp] theorem State.modExec_tables (a : Arm) (f : Block → Block) : (s.modExec a f).tables = s.tables := rfl

@[simp] theorem State.modExec_pins (a : Arm) (f : Block → Block) : (s.modExec a f).pins = s.pins := rfl

@[simp] theorem State.modExec_free (a : Arm) (f : Block → Block) : (s.modExec a f).free = s.free := rfl

@[simp] theorem State.modExec_pending (a : Arm) (f : Block → Block) : (s.modExec a f).pending = s.pending := rfl

/-! ## putWord -/

@[simp] theorem State.putWord_device (i : Nat) (w : Word) : (s.putWord i w).device = s.device := rfl

@[simp] theorem State.putWord_tickNo (i : Nat) (w : Word) : (s.putWord i w).tickNo = s.tickNo := rfl

@[simp] theorem State.putWord_copied (i : Nat) (w : Word) : (s.putWord i w).copied = s.copied := rfl

@[simp] theorem State.putWord_settings (i : Nat) (w : Word) : (s.putWord i w).settings = s.settings := rfl

@[simp] theorem State.putWord_unit (i : Nat) (w : Word) : (s.putWord i w).unit = s.unit := rfl

@[simp] theorem State.putWord_lanes (i : Nat) (w : Word) : (s.putWord i w).lanes = s.lanes := rfl

@[simp] theorem State.putWord_svcLane (i : Nat) (w : Word) : (s.putWord i w).svcLane = s.svcLane := rfl

@[simp] theorem State.putWord_svc (i : Nat) (w : Word) : (s.putWord i w).svc = s.svc := rfl

@[simp] theorem State.putWord_refreshDue (i : Nat) (w : Word) : (s.putWord i w).refreshDue = s.refreshDue := rfl

@[simp] theorem State.putWord_refreshTimer (i : Nat) (w : Word) : (s.putWord i w).refreshTimer = s.refreshTimer := rfl

@[simp] theorem State.putWord_corr (i : Nat) (w : Word) : (s.putWord i w).corr = s.corr := rfl

@[simp] theorem State.putWord_therm (i : Nat) (w : Word) : (s.putWord i w).therm = s.therm := rfl

@[simp] theorem State.putWord_latches (i : Nat) (w : Word) : (s.putWord i w).latches = s.latches := rfl

@[simp] theorem State.putWord_zone (i : Nat) (w : Word) : (s.putWord i w).zone = s.zone := rfl

@[simp] theorem State.putWord_tables (i : Nat) (w : Word) : (s.putWord i w).tables = s.tables := rfl

@[simp] theorem State.putWord_arms (i : Nat) (w : Word) : (s.putWord i w).arms = s.arms := rfl

@[simp] theorem State.putWord_pins (i : Nat) (w : Word) : (s.putWord i w).pins = s.pins := rfl

@[simp] theorem State.putWord_free (i : Nat) (w : Word) : (s.putWord i w).free = s.free := rfl

@[simp] theorem State.putWord_pending (i : Nat) (w : Word) : (s.putWord i w).pending = s.pending := rfl

/-! ## setUnit -/

@[simp] theorem State.setUnit_device (i : Fin 16) (u : LatchUnit) : (s.setUnit i u).device = s.device := rfl

@[simp] theorem State.setUnit_tickNo (i : Fin 16) (u : LatchUnit) : (s.setUnit i u).tickNo = s.tickNo := rfl

@[simp] theorem State.setUnit_shm (i : Fin 16) (u : LatchUnit) : (s.setUnit i u).shm = s.shm := rfl

@[simp] theorem State.setUnit_copied (i : Fin 16) (u : LatchUnit) : (s.setUnit i u).copied = s.copied := rfl

@[simp] theorem State.setUnit_settings (i : Fin 16) (u : LatchUnit) : (s.setUnit i u).settings = s.settings := rfl

@[simp] theorem State.setUnit_unit (i : Fin 16) (u : LatchUnit) : (s.setUnit i u).unit = s.unit := rfl

@[simp] theorem State.setUnit_lanes (i : Fin 16) (u : LatchUnit) : (s.setUnit i u).lanes = s.lanes := rfl

@[simp] theorem State.setUnit_svcLane (i : Fin 16) (u : LatchUnit) : (s.setUnit i u).svcLane = s.svcLane := rfl

@[simp] theorem State.setUnit_svc (i : Fin 16) (u : LatchUnit) : (s.setUnit i u).svc = s.svc := rfl

@[simp] theorem State.setUnit_refreshDue (i : Fin 16) (u : LatchUnit) : (s.setUnit i u).refreshDue = s.refreshDue := rfl

@[simp] theorem State.setUnit_refreshTimer (i : Fin 16) (u : LatchUnit) : (s.setUnit i u).refreshTimer = s.refreshTimer := rfl

@[simp] theorem State.setUnit_corr (i : Fin 16) (u : LatchUnit) : (s.setUnit i u).corr = s.corr := rfl

@[simp] theorem State.setUnit_therm (i : Fin 16) (u : LatchUnit) : (s.setUnit i u).therm = s.therm := rfl

@[simp] theorem State.setUnit_zone (i : Fin 16) (u : LatchUnit) : (s.setUnit i u).zone = s.zone := rfl

@[simp] theorem State.setUnit_tables (i : Fin 16) (u : LatchUnit) : (s.setUnit i u).tables = s.tables := rfl

@[simp] theorem State.setUnit_arms (i : Fin 16) (u : LatchUnit) : (s.setUnit i u).arms = s.arms := rfl

@[simp] theorem State.setUnit_pins (i : Fin 16) (u : LatchUnit) : (s.setUnit i u).pins = s.pins := rfl

@[simp] theorem State.setUnit_free (i : Fin 16) (u : LatchUnit) : (s.setUnit i u).free = s.free := rfl

@[simp] theorem State.setUnit_pending (i : Fin 16) (u : LatchUnit) : (s.setUnit i u).pending = s.pending := rfl

/-! ## setNotice -/

@[simp] theorem State.setNotice_device (n : Notice) : (s.setNotice n).device = s.device := rfl

@[simp] theorem State.setNotice_tickNo (n : Notice) : (s.setNotice n).tickNo = s.tickNo := rfl

@[simp] theorem State.setNotice_shm (n : Notice) : (s.setNotice n).shm = s.shm := rfl

@[simp] theorem State.setNotice_copied (n : Notice) : (s.setNotice n).copied = s.copied := rfl

@[simp] theorem State.setNotice_settings (n : Notice) : (s.setNotice n).settings = s.settings := rfl

@[simp] theorem State.setNotice_lanes (n : Notice) : (s.setNotice n).lanes = s.lanes := rfl

@[simp] theorem State.setNotice_svcLane (n : Notice) : (s.setNotice n).svcLane = s.svcLane := rfl

@[simp] theorem State.setNotice_svc (n : Notice) : (s.setNotice n).svc = s.svc := rfl

@[simp] theorem State.setNotice_refreshTimer (n : Notice) : (s.setNotice n).refreshTimer = s.refreshTimer := rfl

@[simp] theorem State.setNotice_corr (n : Notice) : (s.setNotice n).corr = s.corr := rfl

@[simp] theorem State.setNotice_therm (n : Notice) : (s.setNotice n).therm = s.therm := rfl

@[simp] theorem State.setNotice_latches (n : Notice) : (s.setNotice n).latches = s.latches := rfl

@[simp] theorem State.setNotice_zone (n : Notice) : (s.setNotice n).zone = s.zone := rfl

@[simp] theorem State.setNotice_tables (n : Notice) : (s.setNotice n).tables = s.tables := rfl

@[simp] theorem State.setNotice_arms (n : Notice) : (s.setNotice n).arms = s.arms := rfl

@[simp] theorem State.setNotice_pins (n : Notice) : (s.setNotice n).pins = s.pins := rfl

@[simp] theorem State.setNotice_free (n : Notice) : (s.setNotice n).free = s.free := rfl

@[simp] theorem State.setNotice_pending (n : Notice) : (s.setNotice n).pending = s.pending := rfl

/-! ## setPhase -/

@[simp] theorem State.setPhase_device (a : Arm) (p : Phase) : (s.setPhase a p).device = s.device := rfl

@[simp] theorem State.setPhase_tickNo (a : Arm) (p : Phase) : (s.setPhase a p).tickNo = s.tickNo := rfl

@[simp] theorem State.setPhase_shm (a : Arm) (p : Phase) : (s.setPhase a p).shm = s.shm := rfl

@[simp] theorem State.setPhase_copied (a : Arm) (p : Phase) : (s.setPhase a p).copied = s.copied := rfl

@[simp] theorem State.setPhase_settings (a : Arm) (p : Phase) : (s.setPhase a p).settings = s.settings := rfl

@[simp] theorem State.setPhase_unit (a : Arm) (p : Phase) : (s.setPhase a p).unit = s.unit := rfl

@[simp] theorem State.setPhase_lanes (a : Arm) (p : Phase) : (s.setPhase a p).lanes = s.lanes := rfl

@[simp] theorem State.setPhase_svcLane (a : Arm) (p : Phase) : (s.setPhase a p).svcLane = s.svcLane := rfl

@[simp] theorem State.setPhase_svc (a : Arm) (p : Phase) : (s.setPhase a p).svc = s.svc := rfl

@[simp] theorem State.setPhase_refreshDue (a : Arm) (p : Phase) : (s.setPhase a p).refreshDue = s.refreshDue := rfl

@[simp] theorem State.setPhase_refreshTimer (a : Arm) (p : Phase) : (s.setPhase a p).refreshTimer = s.refreshTimer := rfl

@[simp] theorem State.setPhase_corr (a : Arm) (p : Phase) : (s.setPhase a p).corr = s.corr := rfl

@[simp] theorem State.setPhase_therm (a : Arm) (p : Phase) : (s.setPhase a p).therm = s.therm := rfl

@[simp] theorem State.setPhase_latches (a : Arm) (p : Phase) : (s.setPhase a p).latches = s.latches := rfl

@[simp] theorem State.setPhase_zone (a : Arm) (p : Phase) : (s.setPhase a p).zone = s.zone := rfl

@[simp] theorem State.setPhase_tables (a : Arm) (p : Phase) : (s.setPhase a p).tables = s.tables := rfl

@[simp] theorem State.setPhase_pins (a : Arm) (p : Phase) : (s.setPhase a p).pins = s.pins := rfl

@[simp] theorem State.setPhase_free (a : Arm) (p : Phase) : (s.setPhase a p).free = s.free := rfl

@[simp] theorem State.setPhase_pending (a : Arm) (p : Phase) : (s.setPhase a p).pending = s.pending := rfl

/-! ## setDue -/

@[simp] theorem State.setDue_device (a : Arm) (d : Due) : (s.setDue a d).device = s.device := rfl

@[simp] theorem State.setDue_tickNo (a : Arm) (d : Due) : (s.setDue a d).tickNo = s.tickNo := rfl

@[simp] theorem State.setDue_shm (a : Arm) (d : Due) : (s.setDue a d).shm = s.shm := rfl

@[simp] theorem State.setDue_copied (a : Arm) (d : Due) : (s.setDue a d).copied = s.copied := rfl

@[simp] theorem State.setDue_settings (a : Arm) (d : Due) : (s.setDue a d).settings = s.settings := rfl

@[simp] theorem State.setDue_unit (a : Arm) (d : Due) : (s.setDue a d).unit = s.unit := rfl

@[simp] theorem State.setDue_lanes (a : Arm) (d : Due) : (s.setDue a d).lanes = s.lanes := rfl

@[simp] theorem State.setDue_svcLane (a : Arm) (d : Due) : (s.setDue a d).svcLane = s.svcLane := rfl

@[simp] theorem State.setDue_svc (a : Arm) (d : Due) : (s.setDue a d).svc = s.svc := rfl

@[simp] theorem State.setDue_refreshDue (a : Arm) (d : Due) : (s.setDue a d).refreshDue = s.refreshDue := rfl

@[simp] theorem State.setDue_refreshTimer (a : Arm) (d : Due) : (s.setDue a d).refreshTimer = s.refreshTimer := rfl

@[simp] theorem State.setDue_corr (a : Arm) (d : Due) : (s.setDue a d).corr = s.corr := rfl

@[simp] theorem State.setDue_therm (a : Arm) (d : Due) : (s.setDue a d).therm = s.therm := rfl

@[simp] theorem State.setDue_latches (a : Arm) (d : Due) : (s.setDue a d).latches = s.latches := rfl

@[simp] theorem State.setDue_zone (a : Arm) (d : Due) : (s.setDue a d).zone = s.zone := rfl

@[simp] theorem State.setDue_tables (a : Arm) (d : Due) : (s.setDue a d).tables = s.tables := rfl

@[simp] theorem State.setDue_pins (a : Arm) (d : Due) : (s.setDue a d).pins = s.pins := rfl

@[simp] theorem State.setDue_free (a : Arm) (d : Due) : (s.setDue a d).free = s.free := rfl

@[simp] theorem State.setDue_pending (a : Arm) (d : Due) : (s.setDue a d).pending = s.pending := rfl

/-! ## setMounted -/

@[simp] theorem State.setMounted_device (a : Arm) (m : Mounted) : (s.setMounted a m).device = s.device := rfl

@[simp] theorem State.setMounted_tickNo (a : Arm) (m : Mounted) : (s.setMounted a m).tickNo = s.tickNo := rfl

@[simp] theorem State.setMounted_shm (a : Arm) (m : Mounted) : (s.setMounted a m).shm = s.shm := rfl

@[simp] theorem State.setMounted_copied (a : Arm) (m : Mounted) : (s.setMounted a m).copied = s.copied := rfl

@[simp] theorem State.setMounted_settings (a : Arm) (m : Mounted) : (s.setMounted a m).settings = s.settings := rfl

@[simp] theorem State.setMounted_unit (a : Arm) (m : Mounted) : (s.setMounted a m).unit = s.unit := rfl

@[simp] theorem State.setMounted_lanes (a : Arm) (m : Mounted) : (s.setMounted a m).lanes = s.lanes := rfl

@[simp] theorem State.setMounted_svcLane (a : Arm) (m : Mounted) : (s.setMounted a m).svcLane = s.svcLane := rfl

@[simp] theorem State.setMounted_svc (a : Arm) (m : Mounted) : (s.setMounted a m).svc = s.svc := rfl

@[simp] theorem State.setMounted_refreshDue (a : Arm) (m : Mounted) : (s.setMounted a m).refreshDue = s.refreshDue := rfl

@[simp] theorem State.setMounted_refreshTimer (a : Arm) (m : Mounted) : (s.setMounted a m).refreshTimer = s.refreshTimer := rfl

@[simp] theorem State.setMounted_corr (a : Arm) (m : Mounted) : (s.setMounted a m).corr = s.corr := rfl

@[simp] theorem State.setMounted_therm (a : Arm) (m : Mounted) : (s.setMounted a m).therm = s.therm := rfl

@[simp] theorem State.setMounted_latches (a : Arm) (m : Mounted) : (s.setMounted a m).latches = s.latches := rfl

@[simp] theorem State.setMounted_zone (a : Arm) (m : Mounted) : (s.setMounted a m).zone = s.zone := rfl

@[simp] theorem State.setMounted_tables (a : Arm) (m : Mounted) : (s.setMounted a m).tables = s.tables := rfl

@[simp] theorem State.setMounted_pins (a : Arm) (m : Mounted) : (s.setMounted a m).pins = s.pins := rfl

@[simp] theorem State.setMounted_free (a : Arm) (m : Mounted) : (s.setMounted a m).free = s.free := rfl

@[simp] theorem State.setMounted_pending (a : Arm) (m : Mounted) : (s.setMounted a m).pending = s.pending := rfl

/-! ## modLink -/

@[simp] theorem State.modLink_device (a : Arm) (f : Link → Link) : (s.modLink a f).device = s.device := rfl

@[simp] theorem State.modLink_tickNo (a : Arm) (f : Link → Link) : (s.modLink a f).tickNo = s.tickNo := rfl

@[simp] theorem State.modLink_shm (a : Arm) (f : Link → Link) : (s.modLink a f).shm = s.shm := rfl

@[simp] theorem State.modLink_copied (a : Arm) (f : Link → Link) : (s.modLink a f).copied = s.copied := rfl

@[simp] theorem State.modLink_settings (a : Arm) (f : Link → Link) : (s.modLink a f).settings = s.settings := rfl

@[simp] theorem State.modLink_unit (a : Arm) (f : Link → Link) : (s.modLink a f).unit = s.unit := rfl

@[simp] theorem State.modLink_lanes (a : Arm) (f : Link → Link) : (s.modLink a f).lanes = s.lanes := rfl

@[simp] theorem State.modLink_svcLane (a : Arm) (f : Link → Link) : (s.modLink a f).svcLane = s.svcLane := rfl

@[simp] theorem State.modLink_svc (a : Arm) (f : Link → Link) : (s.modLink a f).svc = s.svc := rfl

@[simp] theorem State.modLink_refreshDue (a : Arm) (f : Link → Link) : (s.modLink a f).refreshDue = s.refreshDue := rfl

@[simp] theorem State.modLink_refreshTimer (a : Arm) (f : Link → Link) : (s.modLink a f).refreshTimer = s.refreshTimer := rfl

@[simp] theorem State.modLink_corr (a : Arm) (f : Link → Link) : (s.modLink a f).corr = s.corr := rfl

@[simp] theorem State.modLink_therm (a : Arm) (f : Link → Link) : (s.modLink a f).therm = s.therm := rfl

@[simp] theorem State.modLink_latches (a : Arm) (f : Link → Link) : (s.modLink a f).latches = s.latches := rfl

@[simp] theorem State.modLink_zone (a : Arm) (f : Link → Link) : (s.modLink a f).zone = s.zone := rfl

@[simp] theorem State.modLink_tables (a : Arm) (f : Link → Link) : (s.modLink a f).tables = s.tables := rfl

@[simp] theorem State.modLink_pins (a : Arm) (f : Link → Link) : (s.modLink a f).pins = s.pins := rfl

@[simp] theorem State.modLink_free (a : Arm) (f : Link → Link) : (s.modLink a f).free = s.free := rfl

@[simp] theorem State.modLink_pending (a : Arm) (f : Link → Link) : (s.modLink a f).pending = s.pending := rfl

/-! ## zoneRequest -/

@[simp] theorem State.zoneRequest_device (a : Arm) : (s.zoneRequest a).device = s.device := rfl

@[simp] theorem State.zoneRequest_tickNo (a : Arm) : (s.zoneRequest a).tickNo = s.tickNo := rfl

@[simp] theorem State.zoneRequest_shm (a : Arm) : (s.zoneRequest a).shm = s.shm := rfl

@[simp] theorem State.zoneRequest_copied (a : Arm) : (s.zoneRequest a).copied = s.copied := rfl

@[simp] theorem State.zoneRequest_settings (a : Arm) : (s.zoneRequest a).settings = s.settings := rfl

@[simp] theorem State.zoneRequest_unit (a : Arm) : (s.zoneRequest a).unit = s.unit := rfl

@[simp] theorem State.zoneRequest_lanes (a : Arm) : (s.zoneRequest a).lanes = s.lanes := rfl

@[simp] theorem State.zoneRequest_svcLane (a : Arm) : (s.zoneRequest a).svcLane = s.svcLane := rfl

@[simp] theorem State.zoneRequest_svc (a : Arm) : (s.zoneRequest a).svc = s.svc := rfl

@[simp] theorem State.zoneRequest_refreshDue (a : Arm) : (s.zoneRequest a).refreshDue = s.refreshDue := rfl

@[simp] theorem State.zoneRequest_refreshTimer (a : Arm) : (s.zoneRequest a).refreshTimer = s.refreshTimer := rfl

@[simp] theorem State.zoneRequest_corr (a : Arm) : (s.zoneRequest a).corr = s.corr := rfl

@[simp] theorem State.zoneRequest_therm (a : Arm) : (s.zoneRequest a).therm = s.therm := rfl

@[simp] theorem State.zoneRequest_latches (a : Arm) : (s.zoneRequest a).latches = s.latches := rfl

@[simp] theorem State.zoneRequest_tables (a : Arm) : (s.zoneRequest a).tables = s.tables := rfl

@[simp] theorem State.zoneRequest_arms (a : Arm) : (s.zoneRequest a).arms = s.arms := rfl

@[simp] theorem State.zoneRequest_pins (a : Arm) : (s.zoneRequest a).pins = s.pins := rfl

@[simp] theorem State.zoneRequest_free (a : Arm) : (s.zoneRequest a).free = s.free := rfl

@[simp] theorem State.zoneRequest_pending (a : Arm) : (s.zoneRequest a).pending = s.pending := rfl

/-! ## zoneWithdraw -/

@[simp] theorem State.zoneWithdraw_device (a : Arm) : (s.zoneWithdraw a).device = s.device := rfl

@[simp] theorem State.zoneWithdraw_tickNo (a : Arm) : (s.zoneWithdraw a).tickNo = s.tickNo := rfl

@[simp] theorem State.zoneWithdraw_shm (a : Arm) : (s.zoneWithdraw a).shm = s.shm := rfl

@[simp] theorem State.zoneWithdraw_copied (a : Arm) : (s.zoneWithdraw a).copied = s.copied := rfl

@[simp] theorem State.zoneWithdraw_settings (a : Arm) : (s.zoneWithdraw a).settings = s.settings := rfl

@[simp] theorem State.zoneWithdraw_unit (a : Arm) : (s.zoneWithdraw a).unit = s.unit := rfl

@[simp] theorem State.zoneWithdraw_lanes (a : Arm) : (s.zoneWithdraw a).lanes = s.lanes := rfl

@[simp] theorem State.zoneWithdraw_svcLane (a : Arm) : (s.zoneWithdraw a).svcLane = s.svcLane := rfl

@[simp] theorem State.zoneWithdraw_svc (a : Arm) : (s.zoneWithdraw a).svc = s.svc := rfl

@[simp] theorem State.zoneWithdraw_refreshDue (a : Arm) : (s.zoneWithdraw a).refreshDue = s.refreshDue := rfl

@[simp] theorem State.zoneWithdraw_refreshTimer (a : Arm) : (s.zoneWithdraw a).refreshTimer = s.refreshTimer := rfl

@[simp] theorem State.zoneWithdraw_corr (a : Arm) : (s.zoneWithdraw a).corr = s.corr := rfl

@[simp] theorem State.zoneWithdraw_therm (a : Arm) : (s.zoneWithdraw a).therm = s.therm := rfl

@[simp] theorem State.zoneWithdraw_latches (a : Arm) : (s.zoneWithdraw a).latches = s.latches := rfl

@[simp] theorem State.zoneWithdraw_tables (a : Arm) : (s.zoneWithdraw a).tables = s.tables := rfl

@[simp] theorem State.zoneWithdraw_arms (a : Arm) : (s.zoneWithdraw a).arms = s.arms := rfl

@[simp] theorem State.zoneWithdraw_pins (a : Arm) : (s.zoneWithdraw a).pins = s.pins := rfl

@[simp] theorem State.zoneWithdraw_free (a : Arm) : (s.zoneWithdraw a).free = s.free := rfl

@[simp] theorem State.zoneWithdraw_pending (a : Arm) : (s.zoneWithdraw a).pending = s.pending := rfl

/-! ## zoneWait -/

@[simp] theorem State.zoneWait_device (a : Arm) : (s.zoneWait a).device = s.device := rfl

@[simp] theorem State.zoneWait_tickNo (a : Arm) : (s.zoneWait a).tickNo = s.tickNo := rfl

@[simp] theorem State.zoneWait_shm (a : Arm) : (s.zoneWait a).shm = s.shm := rfl

@[simp] theorem State.zoneWait_copied (a : Arm) : (s.zoneWait a).copied = s.copied := rfl

@[simp] theorem State.zoneWait_settings (a : Arm) : (s.zoneWait a).settings = s.settings := rfl

@[simp] theorem State.zoneWait_unit (a : Arm) : (s.zoneWait a).unit = s.unit := rfl

@[simp] theorem State.zoneWait_lanes (a : Arm) : (s.zoneWait a).lanes = s.lanes := rfl

@[simp] theorem State.zoneWait_svcLane (a : Arm) : (s.zoneWait a).svcLane = s.svcLane := rfl

@[simp] theorem State.zoneWait_svc (a : Arm) : (s.zoneWait a).svc = s.svc := rfl

@[simp] theorem State.zoneWait_refreshDue (a : Arm) : (s.zoneWait a).refreshDue = s.refreshDue := rfl

@[simp] theorem State.zoneWait_refreshTimer (a : Arm) : (s.zoneWait a).refreshTimer = s.refreshTimer := rfl

@[simp] theorem State.zoneWait_corr (a : Arm) : (s.zoneWait a).corr = s.corr := rfl

@[simp] theorem State.zoneWait_therm (a : Arm) : (s.zoneWait a).therm = s.therm := rfl

@[simp] theorem State.zoneWait_latches (a : Arm) : (s.zoneWait a).latches = s.latches := rfl

@[simp] theorem State.zoneWait_tables (a : Arm) : (s.zoneWait a).tables = s.tables := rfl

@[simp] theorem State.zoneWait_pins (a : Arm) : (s.zoneWait a).pins = s.pins := rfl

@[simp] theorem State.zoneWait_free (a : Arm) : (s.zoneWait a).free = s.free := rfl

@[simp] theorem State.zoneWait_pending (a : Arm) : (s.zoneWait a).pending = s.pending := rfl

/-! ## zoneGrant -/

@[simp] theorem State.zoneGrant_device (a : Arm) : (s.zoneGrant a).device = s.device := rfl

@[simp] theorem State.zoneGrant_tickNo (a : Arm) : (s.zoneGrant a).tickNo = s.tickNo := rfl

@[simp] theorem State.zoneGrant_shm (a : Arm) : (s.zoneGrant a).shm = s.shm := rfl

@[simp] theorem State.zoneGrant_copied (a : Arm) : (s.zoneGrant a).copied = s.copied := rfl

@[simp] theorem State.zoneGrant_settings (a : Arm) : (s.zoneGrant a).settings = s.settings := rfl

@[simp] theorem State.zoneGrant_unit (a : Arm) : (s.zoneGrant a).unit = s.unit := rfl

@[simp] theorem State.zoneGrant_lanes (a : Arm) : (s.zoneGrant a).lanes = s.lanes := rfl

@[simp] theorem State.zoneGrant_svcLane (a : Arm) : (s.zoneGrant a).svcLane = s.svcLane := rfl

@[simp] theorem State.zoneGrant_svc (a : Arm) : (s.zoneGrant a).svc = s.svc := rfl

@[simp] theorem State.zoneGrant_refreshDue (a : Arm) : (s.zoneGrant a).refreshDue = s.refreshDue := rfl

@[simp] theorem State.zoneGrant_refreshTimer (a : Arm) : (s.zoneGrant a).refreshTimer = s.refreshTimer := rfl

@[simp] theorem State.zoneGrant_corr (a : Arm) : (s.zoneGrant a).corr = s.corr := rfl

@[simp] theorem State.zoneGrant_therm (a : Arm) : (s.zoneGrant a).therm = s.therm := rfl

@[simp] theorem State.zoneGrant_latches (a : Arm) : (s.zoneGrant a).latches = s.latches := rfl

@[simp] theorem State.zoneGrant_tables (a : Arm) : (s.zoneGrant a).tables = s.tables := rfl

@[simp] theorem State.zoneGrant_pins (a : Arm) : (s.zoneGrant a).pins = s.pins := rfl

@[simp] theorem State.zoneGrant_free (a : Arm) : (s.zoneGrant a).free = s.free := rfl

@[simp] theorem State.zoneGrant_pending (a : Arm) : (s.zoneGrant a).pending = s.pending := rfl

/-! ## disarmBlock -/

@[simp] theorem State.disarmBlock_device (a : Arm) : (s.disarmBlock a).device = s.device := rfl

@[simp] theorem State.disarmBlock_tickNo (a : Arm) : (s.disarmBlock a).tickNo = s.tickNo := rfl

@[simp] theorem State.disarmBlock_shm (a : Arm) : (s.disarmBlock a).shm = s.shm := rfl

@[simp] theorem State.disarmBlock_copied (a : Arm) : (s.disarmBlock a).copied = s.copied := rfl

@[simp] theorem State.disarmBlock_settings (a : Arm) : (s.disarmBlock a).settings = s.settings := rfl

@[simp] theorem State.disarmBlock_unit (a : Arm) : (s.disarmBlock a).unit = s.unit := rfl

@[simp] theorem State.disarmBlock_lanes (a : Arm) : (s.disarmBlock a).lanes = s.lanes := rfl

@[simp] theorem State.disarmBlock_svcLane (a : Arm) : (s.disarmBlock a).svcLane = s.svcLane := rfl

@[simp] theorem State.disarmBlock_svc (a : Arm) : (s.disarmBlock a).svc = s.svc := rfl

@[simp] theorem State.disarmBlock_refreshDue (a : Arm) : (s.disarmBlock a).refreshDue = s.refreshDue := rfl

@[simp] theorem State.disarmBlock_refreshTimer (a : Arm) : (s.disarmBlock a).refreshTimer = s.refreshTimer := rfl

@[simp] theorem State.disarmBlock_corr (a : Arm) : (s.disarmBlock a).corr = s.corr := rfl

@[simp] theorem State.disarmBlock_therm (a : Arm) : (s.disarmBlock a).therm = s.therm := rfl

@[simp] theorem State.disarmBlock_zone (a : Arm) : (s.disarmBlock a).zone = s.zone := rfl

@[simp] theorem State.disarmBlock_tables (a : Arm) : (s.disarmBlock a).tables = s.tables := rfl

@[simp] theorem State.disarmBlock_arms (a : Arm) : (s.disarmBlock a).arms = s.arms := rfl

@[simp] theorem State.disarmBlock_pins (a : Arm) : (s.disarmBlock a).pins = s.pins := rfl

@[simp] theorem State.disarmBlock_free (a : Arm) : (s.disarmBlock a).free = s.free := rfl

@[simp] theorem State.disarmBlock_pending (a : Arm) : (s.disarmBlock a).pending = s.pending := rfl

/-! ## disarmCaptures -/

@[simp] theorem State.disarmCaptures_device (a : Arm) : (s.disarmCaptures a).device = s.device := rfl

@[simp] theorem State.disarmCaptures_tickNo (a : Arm) : (s.disarmCaptures a).tickNo = s.tickNo := rfl

@[simp] theorem State.disarmCaptures_shm (a : Arm) : (s.disarmCaptures a).shm = s.shm := rfl

@[simp] theorem State.disarmCaptures_copied (a : Arm) : (s.disarmCaptures a).copied = s.copied := rfl

@[simp] theorem State.disarmCaptures_settings (a : Arm) : (s.disarmCaptures a).settings = s.settings := rfl

@[simp] theorem State.disarmCaptures_unit (a : Arm) : (s.disarmCaptures a).unit = s.unit := rfl

@[simp] theorem State.disarmCaptures_lanes (a : Arm) : (s.disarmCaptures a).lanes = s.lanes := rfl

@[simp] theorem State.disarmCaptures_svcLane (a : Arm) : (s.disarmCaptures a).svcLane = s.svcLane := rfl

@[simp] theorem State.disarmCaptures_svc (a : Arm) : (s.disarmCaptures a).svc = s.svc := rfl

@[simp] theorem State.disarmCaptures_refreshDue (a : Arm) : (s.disarmCaptures a).refreshDue = s.refreshDue := rfl

@[simp] theorem State.disarmCaptures_refreshTimer (a : Arm) : (s.disarmCaptures a).refreshTimer = s.refreshTimer := rfl

@[simp] theorem State.disarmCaptures_corr (a : Arm) : (s.disarmCaptures a).corr = s.corr := rfl

@[simp] theorem State.disarmCaptures_therm (a : Arm) : (s.disarmCaptures a).therm = s.therm := rfl

@[simp] theorem State.disarmCaptures_zone (a : Arm) : (s.disarmCaptures a).zone = s.zone := rfl

@[simp] theorem State.disarmCaptures_tables (a : Arm) : (s.disarmCaptures a).tables = s.tables := rfl

@[simp] theorem State.disarmCaptures_arms (a : Arm) : (s.disarmCaptures a).arms = s.arms := rfl

@[simp] theorem State.disarmCaptures_pins (a : Arm) : (s.disarmCaptures a).pins = s.pins := rfl

@[simp] theorem State.disarmCaptures_free (a : Arm) : (s.disarmCaptures a).free = s.free := rfl

@[simp] theorem State.disarmCaptures_pending (a : Arm) : (s.disarmCaptures a).pending = s.pending := rfl

/-! ## setStop -/

@[simp] theorem State.setStop_device (low : Bool) : (s.setStop low).device = s.device := rfl

@[simp] theorem State.setStop_tickNo (low : Bool) : (s.setStop low).tickNo = s.tickNo := rfl

@[simp] theorem State.setStop_shm (low : Bool) : (s.setStop low).shm = s.shm := rfl

@[simp] theorem State.setStop_copied (low : Bool) : (s.setStop low).copied = s.copied := rfl

@[simp] theorem State.setStop_settings (low : Bool) : (s.setStop low).settings = s.settings := rfl

@[simp] theorem State.setStop_unit (low : Bool) : (s.setStop low).unit = s.unit := rfl

@[simp] theorem State.setStop_lanes (low : Bool) : (s.setStop low).lanes = s.lanes := rfl

@[simp] theorem State.setStop_svcLane (low : Bool) : (s.setStop low).svcLane = s.svcLane := rfl

@[simp] theorem State.setStop_svc (low : Bool) : (s.setStop low).svc = s.svc := rfl

@[simp] theorem State.setStop_refreshDue (low : Bool) : (s.setStop low).refreshDue = s.refreshDue := rfl

@[simp] theorem State.setStop_refreshTimer (low : Bool) : (s.setStop low).refreshTimer = s.refreshTimer := rfl

@[simp] theorem State.setStop_corr (low : Bool) : (s.setStop low).corr = s.corr := rfl

@[simp] theorem State.setStop_therm (low : Bool) : (s.setStop low).therm = s.therm := rfl

@[simp] theorem State.setStop_latches (low : Bool) : (s.setStop low).latches = s.latches := rfl

@[simp] theorem State.setStop_zone (low : Bool) : (s.setStop low).zone = s.zone := rfl

@[simp] theorem State.setStop_tables (low : Bool) : (s.setStop low).tables = s.tables := rfl

@[simp] theorem State.setStop_arms (low : Bool) : (s.setStop low).arms = s.arms := rfl

@[simp] theorem State.setStop_free (low : Bool) : (s.setStop low).free = s.free := rfl

@[simp] theorem State.setStop_pending (low : Bool) : (s.setStop low).pending = s.pending := rfl

/-! ## setStopState -/

@[simp] theorem State.setStopState_device (st : StopState) (timer : Bool) : (s.setStopState st timer).device = s.device := rfl

@[simp] theorem State.setStopState_tickNo (st : StopState) (timer : Bool) : (s.setStopState st timer).tickNo = s.tickNo := rfl

@[simp] theorem State.setStopState_shm (st : StopState) (timer : Bool) : (s.setStopState st timer).shm = s.shm := rfl

@[simp] theorem State.setStopState_copied (st : StopState) (timer : Bool) : (s.setStopState st timer).copied = s.copied := rfl

@[simp] theorem State.setStopState_settings (st : StopState) (timer : Bool) : (s.setStopState st timer).settings = s.settings := rfl

@[simp] theorem State.setStopState_lanes (st : StopState) (timer : Bool) : (s.setStopState st timer).lanes = s.lanes := rfl

@[simp] theorem State.setStopState_svcLane (st : StopState) (timer : Bool) : (s.setStopState st timer).svcLane = s.svcLane := rfl

@[simp] theorem State.setStopState_svc (st : StopState) (timer : Bool) : (s.setStopState st timer).svc = s.svc := rfl

@[simp] theorem State.setStopState_refreshDue (st : StopState) (timer : Bool) : (s.setStopState st timer).refreshDue = s.refreshDue := rfl

@[simp] theorem State.setStopState_refreshTimer (st : StopState) (timer : Bool) : (s.setStopState st timer).refreshTimer = s.refreshTimer := rfl

@[simp] theorem State.setStopState_corr (st : StopState) (timer : Bool) : (s.setStopState st timer).corr = s.corr := rfl

@[simp] theorem State.setStopState_therm (st : StopState) (timer : Bool) : (s.setStopState st timer).therm = s.therm := rfl

@[simp] theorem State.setStopState_latches (st : StopState) (timer : Bool) : (s.setStopState st timer).latches = s.latches := rfl

@[simp] theorem State.setStopState_zone (st : StopState) (timer : Bool) : (s.setStopState st timer).zone = s.zone := rfl

@[simp] theorem State.setStopState_tables (st : StopState) (timer : Bool) : (s.setStopState st timer).tables = s.tables := rfl

@[simp] theorem State.setStopState_arms (st : StopState) (timer : Bool) : (s.setStopState st timer).arms = s.arms := rfl

@[simp] theorem State.setStopState_pins (st : StopState) (timer : Bool) : (s.setStopState st timer).pins = s.pins := rfl

@[simp] theorem State.setStopState_free (st : StopState) (timer : Bool) : (s.setStopState st timer).free = s.free := rfl

@[simp] theorem State.setStopState_pending (st : StopState) (timer : Bool) : (s.setStopState st timer).pending = s.pending := rfl

/-! ## What the updates write -/

@[simp] theorem State.putWord_shm (i : Nat) (w : Word) : (s.putWord i w).shm = s.shm.write i w := rfl

@[simp] theorem State.setUnit_latches (i : Fin 16) (u : LatchUnit) : (s.setUnit i u).latches = s.latches.set i u := rfl

@[simp] theorem State.setNotice_mask (n : Notice) : (s.setNotice n).unit.mask = s.unit.mask := rfl

@[simp] theorem State.setNotice_notices (n : Notice) :
    (s.setNotice n).unit.notices = s.unit.notices ||| n.one := rfl

@[simp] theorem State.setNotice_stop (n : Notice) : (s.setNotice n).unit.stop = s.unit.stop := rfl

@[simp] theorem State.setNotice_releaseTimer (n : Notice) : (s.setNotice n).unit.releaseTimer = s.unit.releaseTimer := rfl

@[simp] theorem State.setNotice_posts (n : Notice) : (s.setNotice n).unit.posts = s.unit.posts := rfl

@[simp] theorem State.setStop_stopLow (low : Bool) : (s.setStop low).pins.stopLow = low := rfl

@[simp] theorem State.setStopState_stop (st : StopState) (timer : Bool) : (s.setStopState st timer).unit.stop = st := rfl

@[simp] theorem State.setStopState_releaseTimer (st : StopState) (timer : Bool) :
    (s.setStopState st timer).unit.releaseTimer = timer := rfl

@[simp] theorem State.zoneWithdraw_holder (a : Arm) : (s.zoneWithdraw a).zone.holder = s.zone.holder := rfl

@[simp] theorem State.zoneGrant_holder (a : Arm) : (s.zoneGrant a).zone.holder = some a := rfl

end Sys2Proof.Machine
end

