-- ==== Sys2Proof/Laws/Memory.lean ====
section
/-! SUPPORT. Shared Memory: every write keeps the canonical form, and a read after a write. -/

namespace Sys2Proof.Machine

namespace Shm

theorem wf_nil : Shm.wf [] = true := rfl

/-- The canonical form, cell by cell: rising offsets inside the window, no cell that is 0. -/
theorem wf_cons (i : Nat) (w : Word) (m : Shm) :
    Shm.wf ((i, w) :: m) = true ↔ i < 65536 ∧ w ≠ 0 ∧ Shm.wf m = true ∧ ∀ c ∈ m, i < c.1 := by
  induction m generalizing i w with
  | nil => simp [Shm.wf]
  | cons c m ih =>
    obtain ⟨j, v⟩ := c
    have h1 : Shm.wf ((i, w) :: (j, v) :: m) = (decide (i < j) && w != 0 && Shm.wf ((j, v) :: m)) := rfl
    rw [h1]
    simp only [Bool.and_eq_true, decide_eq_true_eq, bne_iff_ne]
    constructor
    · rintro ⟨⟨hij, hw⟩, hm⟩
      have h2 := (ih j v).1 hm
      refine ⟨by omega, hw, hm, ?_⟩
      intro d hd
      rcases List.mem_cons.1 hd with rfl | hd
      · exact hij
      · exact lt_trans hij (h2.2.2.2 d hd)
    · rintro ⟨_, hw, hm, hd⟩
      exact ⟨⟨hd (j, v) List.mem_cons_self, hw⟩, hm⟩

/-- Below its first offset a canonical memory reads 0. -/
theorem get_eq_zero (m : Shm) (i : Nat) (h : ∀ c ∈ m, c.1 ≠ i) : m.get i = 0 := by
  induction m with
  | nil => rfl
  | cons c m ih =>
    obtain ⟨j, v⟩ := c
    have hj : j ≠ i := h (j, v) List.mem_cons_self
    simp only [Shm.get, hj, if_false]
    exact ih fun d hd => h d (List.mem_cons_of_mem _ hd)

theorem mem_put {m : Shm} {i : Nat} {w : Word} {c : Nat × Word} (h : c ∈ m.put i w) : c.1 = i ∨ c ∈ m := by
  induction m with
  | nil =>
    simp only [Shm.put] at h
    split at h <;> simp_all
  | cons d m ih =>
    obtain ⟨j, v⟩ := d
    simp only [Shm.put] at h
    split at h
    · split at h
      · exact .inr h
      · rcases List.mem_cons.1 h with rfl | h
        · exact .inl rfl
        · exact .inr h
    · split at h
      · split at h
        · exact .inr (List.mem_cons_of_mem _ h)
        · rcases List.mem_cons.1 h with rfl | h
          · exact .inl rfl
          · exact .inr (List.mem_cons_of_mem _ h)
      · rcases List.mem_cons.1 h with rfl | h
        · exact .inr List.mem_cons_self
        · rcases ih h with h | h
          · exact .inl h
          · exact .inr (List.mem_cons_of_mem _ h)

/-- A write inside the window keeps the canonical form. -/
theorem wf_put {m : Shm} (h : m.wf = true) (i : Nat) (w : Word) (hi : i < 65536) : (m.put i w).wf = true := by
  induction m with
  | nil =>
    simp only [Shm.put]
    split
    · rfl
    · rename_i hw
      simpa [Shm.wf, hi] using hw
  | cons c m ih =>
    obtain ⟨j, v⟩ := c
    have hc := (wf_cons j v m).1 h
    simp only [Shm.put]
    split
    · rename_i hij
      split
      · exact h
      · rename_i hw
        refine (wf_cons _ _ _).2 ⟨hi, hw, h, ?_⟩
        intro d hd
        rcases List.mem_cons.1 hd with rfl | hd
        · exact hij
        · exact lt_trans hij (hc.2.2.2 d hd)
    · split
      · rename_i hij
        subst hij
        split
        · exact hc.2.2.1
        · rename_i hw
          exact (wf_cons _ _ _).2 ⟨hi, hw, hc.2.2.1, hc.2.2.2⟩
      · refine (wf_cons _ _ _).2 ⟨hc.1, hc.2.1, ih hc.2.2.1, ?_⟩
        intro d hd
        rcases mem_put hd with hd | hd
        · omega
        · exact hc.2.2.2 d hd

/-- A read after a write of a canonical memory. -/
theorem get_put {m : Shm} (h : m.wf = true) (i j : Nat) (w : Word) :
    (m.put i w).get j = if j = i then w else m.get j := by
  induction m with
  | nil =>
    simp only [Shm.put]
    by_cases hw : w = 0
    · rw [if_pos hw]
      by_cases hj : j = i
      · rw [if_pos hj, hw]; rfl
      · rw [if_neg hj]
    · rw [if_neg hw]
      by_cases hj : j = i
      · rw [if_pos hj]; simp only [Shm.get]; rw [if_pos hj.symm]
      · rw [if_neg hj]; simp only [Shm.get]; rw [if_neg (Ne.symm hj)]
  | cons c m ih =>
    obtain ⟨k, v⟩ := c
    have hc := (wf_cons k v m).1 h
    have hlow : ∀ n, n ≤ k → Shm.get m n = 0 := fun n hn =>
      get_eq_zero m n fun d hd => by have := hc.2.2.2 d hd; omega
    simp only [Shm.put]
    by_cases hik : i < k
    · rw [if_pos hik]
      by_cases hw : w = 0
      · rw [if_pos hw]
        by_cases hj : j = i
        · rw [if_pos hj, hw]
          simp only [Shm.get]
          rw [if_neg (by omega), hlow j (by omega)]
        · rw [if_neg hj]
      · rw [if_neg hw]
        by_cases hj : j = i
        · rw [if_pos hj]; simp only [Shm.get]; rw [if_pos hj.symm]
        · rw [if_neg hj]; simp only [Shm.get]; rw [if_neg (Ne.symm hj)]
    · rw [if_neg hik]
      by_cases hkk : i = k
      · subst hkk
        rw [if_pos rfl]
        by_cases hw : w = 0
        · rw [if_pos hw]
          by_cases hj : j = i
          · rw [if_pos hj, hw, hlow j (by omega)]
          · rw [if_neg hj]; simp only [Shm.get]; rw [if_neg (Ne.symm hj)]
        · rw [if_neg hw]
          by_cases hj : j = i
          · rw [if_pos hj]; simp only [Shm.get]; rw [if_pos hj.symm]
          · rw [if_neg hj]; simp only [Shm.get]; rw [if_neg (Ne.symm hj), if_neg (Ne.symm hj)]
      · rw [if_neg hkk]
        by_cases hkj : k = j
        · simp only [Shm.get]
          rw [if_pos hkj, if_neg (by omega), if_pos hkj]
        · simp only [Shm.get]
          rw [if_neg hkj, if_neg hkj]
          exact ih hc.2.2.1

theorem wf_write {m : Shm} (h : m.wf = true) (i : Nat) (w : Word) : (m.write i w).wf = true := by
  unfold Shm.write
  split
  · exact wf_put h i w ‹_›
  · exact h

theorem get_write {m : Shm} (h : m.wf = true) (i j : Nat) (w : Word) (hi : i < 65536) :
    (m.write i w).get j = if j = i then w else m.get j := by
  rw [Shm.write, if_pos hi, get_put h]

theorem get_write_other {m : Shm} (h : m.wf = true) (i j : Nat) (w : Word) (hj : j ≠ i) :
    (m.write i w).get j = m.get j := by
  unfold Shm.write
  split
  · rw [get_put h, if_neg hj]
  · rfl

theorem wf_writeList {m : Shm} (h : m.wf = true) (i : Nat) (ws : List Word) : (m.writeList i ws).wf = true := by
  induction ws generalizing m i with
  | nil => exact h
  | cons w ws ih => exact ih (wf_write h i w) (i + 1)

/-- Outside the written range a list of writes changes nothing. -/
theorem get_writeList_outside {m : Shm} (h : m.wf = true) (i j : Nat) (ws : List Word)
    (hj : j < i ∨ i + ws.length ≤ j) : (m.writeList i ws).get j = m.get j := by
  induction ws generalizing m i with
  | nil => rfl
  | cons w ws ih =>
    simp only [List.length_cons] at hj
    rw [Shm.writeList, ih (wf_write h i w) (i + 1) (by omega), get_write_other h i j w (by omega)]

/-- Inside the written range a list of writes reads back. -/
theorem get_writeList_inside {m : Shm} (h : m.wf = true) (i k : Nat) (ws : List Word) (hk : k < ws.length)
    (hi : i + ws.length ≤ 65536) : (m.writeList i ws).get (i + k) = ws.getD k 0 := by
  induction ws generalizing m i k with
  | nil => simp at hk
  | cons w ws ih =>
    simp only [List.length_cons] at hi hk
    rw [Shm.writeList]
    cases k with
    | zero =>
      rw [get_writeList_outside (wf_write h i w) (i + 1) (i + 0) ws (by omega), get_write h i _ w (by omega)]
      simp
    | succ k =>
      have := ih (wf_write h i w) (i + 1) k (by omega) (by omega)
      rw [show i + (k + 1) = i + 1 + k by omega, this]
      simp

end Shm

theorem wf_writePlaced {m : Shm} (h : m.wf = true) (l : List (Nat × Word)) : (State.writePlaced m l).wf = true := by
  induction l generalizing m with
  | nil => exact h
  | cons c l ih =>
    obtain ⟨i, w⟩ := c
    exact ih (Shm.wf_write h i w)

theorem wf_takenShm {m : Shm} (h : m.wf = true) (l : LaneRec) : (l.takenShm m).wf = true := Shm.wf_write h _ _

@[simp] theorem length_twelve (ws : List Word) : (twelve ws).length = 12 := by
  simp [twelve, List.length_take]

@[simp] theorem length_header (c : Completion) (copy : SlotCopy) (tick : Word) : (c.header copy tick).length = 4 := rfl

theorem wf_writeSlot {m : Shm} (h : m.wf = true) (base : Nat) (copy : SlotCopy) (c : Completion)
    (result : Option (List Word)) (tick : Word) : (writeSlot m base copy c result tick).wf = true := by
  unfold writeSlot
  cases result with
  | none => exact Shm.wf_writeList h _ _
  | some ws => exact Shm.wf_writeList (Shm.wf_writeList h _ _) _ _

/-- A completed slot outside its header and its result words reads as before. -/
theorem get_writeSlot_outside {m : Shm} (h : m.wf = true) (base : Nat) (copy : SlotCopy) (c : Completion)
    (result : Option (List Word)) (tick : Word) (j : Nat) (h1 : j < base ∨ base + 4 ≤ j)
    (h2 : j < base + 20 ∨ base + 32 ≤ j) : (writeSlot m base copy c result tick).get j = m.get j := by
  unfold writeSlot
  cases result with
  | none => exact Shm.get_writeList_outside h _ _ _ (by simpa using h1)
  | some ws =>
    show ((m.writeList (base + 20) (twelve ws)).writeList base (c.header copy tick)).get j = m.get j
    rw [Shm.get_writeList_outside (Shm.wf_writeList h _ _) _ _ _ (by simpa using h1),
      Shm.get_writeList_outside h _ _ _ (by rw [length_twelve]; omega)]

/-- A completed slot's header. -/
theorem get_writeSlot_header {m : Shm} (h : m.wf = true) (base : Nat) (copy : SlotCopy) (c : Completion)
    (result : Option (List Word)) (tick : Word) (k : Nat) (hk : k < 4) (hb : base + 4 ≤ 65536) :
    (writeSlot m base copy c result tick).get (base + k) = (c.header copy tick).getD k 0 := by
  unfold writeSlot
  cases result with
  | none => exact Shm.get_writeList_inside h _ _ _ (by simpa using hk) (by simpa using hb)
  | some ws => exact Shm.get_writeList_inside (Shm.wf_writeList h _ _) _ _ _ (by simpa using hk) (by simpa using hb)

/-- A completed slot's result words. -/
theorem get_writeSlot_result {m : Shm} (h : m.wf = true) (base : Nat) (copy : SlotCopy) (c : Completion)
    (ws : List Word) (tick : Word) (k : Nat) (hk : k < 12) (hb : base + 32 ≤ 65536) :
    (writeSlot m base copy c (some ws) tick).get (base + 20 + k) = (twelve ws).getD k 0 := by
  show ((m.writeList (base + 20) (twelve ws)).writeList base (c.header copy tick)).get _ = _
  rw [Shm.get_writeList_outside (Shm.wf_writeList h _ _) _ _ _ (by rw [length_header]; omega),
    Shm.get_writeList_inside h _ _ _ (by simpa using hk) (by rw [length_twelve]; omega)]

end Sys2Proof.Machine
end

