-- ==== Sys2Proof/Laws/Keeps.lean ====
section
/-! SUPPORT. What a command can do to the part of the state that the laws look at, said once: every command goes from one
view to the next by the primitive changes of `Stable`, so a property that those changes keep is kept by every command. -/

set_option linter.unusedSectionVars false
set_option linter.unusedSimpArgs false

namespace Sys2Proof.Machine

/-- The part of the state that the laws look at. -/
structure View where
  shm : Shm
  latches : Vector LatchUnit 16
  holder : Option Arm
  last : Option Arm
  waits : Duo Wait
  stop : StopState
  timer : Bool
  stopLow : Bool
  queueA : List SlotCopy
  queueB : List SlotCopy

/-- The view of a state. -/
def State.view (s : State) : View :=
  ⟨s.shm, s.latches, s.zone.holder, s.zone.last, s.zone.waits, s.unit.stop, s.unit.releaseTimer, s.pins.stopLow,
    s.arms.a.queue, s.arms.b.queue⟩

/-- The queue of an arm in a view. -/
def View.queue (v : View) : Arm → List SlotCopy
  | .A => v.queueA
  | .B => v.queueB

/-- Replace the queue of an arm in a view. -/
def View.setQueue (v : View) (a : Arm) (q : List SlotCopy) : View :=
  match a with
  | .A => { v with queueA := q }
  | .B => { v with queueB := q }

/-- A property of the view holds. -/
def Holds (Q : View → Prop) (v : View) : Prop := Q v

/-- The properties that every primitive change of the view keeps. -/
structure Stable (Q : View → Prop) : Prop where
  /-- a word of Shared Memory is written -/
  write : ∀ v i w, Holds Q v → Holds Q { v with shm := v.shm.write i w }
  /-- every latch unit is changed in a way that keeps its law -/
  units : ∀ v (f : LatchUnit → LatchUnit), (∀ u, u.lawful = true → (f u).lawful = true) → Holds Q v →
    Holds Q { v with latches := mapTable f v.latches }
  /-- one latch unit is replaced by one that keeps the law -/
  unit : ∀ v (i : Fin 16) (u : LatchUnit), (v.latches[i].lawful = true → u.lawful = true) → Holds Q v →
    Holds Q { v with latches := v.latches.set i u }
  /-- a queue with room takes an entry -/
  push : ∀ v a c, (v.queue a).length < 8 → Holds Q v → Holds Q (v.setQueue a (v.queue a ++ [c]))
  /-- a queue loses its head -/
  pop : ∀ v a, Holds Q v → Holds Q (v.setQueue a (v.queue a).tail)
  /-- a queue is emptied -/
  clear : ∀ v a, Holds Q v → Holds Q (v.setQueue a [])
  /-- an arm's wait ends -/
  withdraw : ∀ v a, Holds Q v → Holds Q { v with waits := v.waits.set a .idle }
  /-- an arm is made to wait while the other holds the grant -/
  wait : ∀ v a n, v.holder = some a.other → Holds Q v → Holds Q { v with waits := v.waits.set a (.waiting n) }
  /-- the free grant is given -/
  grant : ∀ v a, v.holder = none → Holds Q v →
    Holds Q { v with holder := some a, last := some a, waits := v.waits.set a .idle }
  /-- the free grant is claimed by an arm that a fault left in the zone -/
  claim : ∀ v a, v.holder = none → Holds Q v → Holds Q { v with holder := some a, last := some a }
  /-- the grant passes to the arm that waits -/
  pass : ∀ v a, v.holder = some a → Holds Q v →
    Holds Q { v with holder := some a.other, last := some a.other, waits := v.waits.set a.other .idle }
  /-- the grant becomes free, the other arm not waiting -/
  release : ∀ v a, v.holder = some a → v.waits.get a.other = .idle → Holds Q v → Holds Q { v with holder := none }
  /-- the stop line falls -/
  fall : ∀ v, Holds Q v → Holds Q { v with stopLow := true, stop := .active, timer := false }
  /-- the stop line rises with the stop state ACTIVE -/
  riseActive : ∀ v, v.stop = .active → Holds Q v → Holds Q { v with stopLow := false, stop := .active, timer := true }
  /-- the stop line rises otherwise -/
  rise : ∀ v, v.stop ≠ .active → Holds Q v → Holds Q { v with stopLow := false }
  /-- the release timer expires -/
  released : ∀ v, v.timer = true → Holds Q v → Holds Q { v with stop := .released, timer := false }
  /-- a reset: Shared Memory as given by the view, or all zero -/
  reset : ∀ v, Holds Q v → ∀ m, m = v.shm ∨ m = [] →
    Holds Q ⟨m, Vector.replicate 16 LatchUnit.reset, none, none, ⟨.idle, .idle⟩,
      if v.stopLow then .active else .released, false, v.stopLow, [], []⟩

@[simp] theorem emptied_queue (r : ArmRec) : r.emptied.queue = r.queue := rfl

@[simp] theorem quiet_queue (r : ArmRec) : r.quiet.queue = r.queue := rfl

section views
variable (s : State)

theorem view_modArm (a : Arm) (f : ArmRec → ArmRec) (hf : ∀ r, (f r).queue = r.queue) :
    (s.modArm a f).view = s.view := by
  cases a <;> simp [State.view, State.modArm, State.setArm, State.arm, Duo.set, Duo.get, hf]

@[simp] theorem setQueue_queue (v : View) (a : Arm) : v.setQueue a (v.queue a) = v := by cases a <;> rfl

/-- A queue, read from the view. -/
theorem arm_queue (a : Arm) : (s.arm a).queue = s.view.queue a := by cases a <;> rfl

@[simp] theorem view_modArm_queue (a : Arm) (f : ArmRec → ArmRec) :
    (s.modArm a f).view = s.view.setQueue a (f (s.arm a)).queue := by
  cases a <;> rfl

theorem view_setArm (a : Arm) (r : ArmRec) : (s.setArm a r).view = s.view.setQueue a r.queue := by
  cases a <;> rfl

@[simp] theorem view_setNotice (n : Notice) : (s.setNotice n).view = s.view := rfl
@[simp] theorem view_modExec (a : Arm) (f : Block → Block) : (s.modExec a f).view = s.view := by
  cases a <;> rfl
@[simp] theorem view_setPhase (a : Arm) (p : Phase) : (s.setPhase a p).view = s.view := by cases a <;> rfl
@[simp] theorem view_setDue (a : Arm) (d : Due) : (s.setDue a d).view = s.view := by cases a <;> rfl
@[simp] theorem view_setMounted (a : Arm) (m : Mounted) : (s.setMounted a m).view = s.view := by cases a <;> rfl
@[simp] theorem view_modLink (a : Arm) (f : Link → Link) : (s.modLink a f).view = s.view := by cases a <;> rfl
@[simp] theorem view_zoneRequest (a : Arm) : (s.zoneRequest a).view = s.view := rfl
@[simp] theorem view_beginSegTwo (a : Arm) (stop : Vec) (f1 f2 th : Nat) :
    (s.beginSegTwo a stop f1 f2 th).view = s.view := by
  unfold State.beginSegTwo
  apply view_modArm
  intro r
  dsimp only
  split <;> rfl
@[simp] theorem view_beginSeg (a : Arm) (stop : Vec) (f : Nat) : (s.beginSeg a stop f).view = s.view := by
  simp [State.beginSeg]
@[simp] theorem view_detach (a : Arm) : (s.detach a).view = s.view := by
  unfold State.detach
  split <;> rfl
@[simp] theorem view_releasePlace (a : Arm) (q : Fin 24) : (s.releasePlace a q).view = s.view := by
  unfold State.releasePlace
  split
  · rfl
  · split <;> simp
  · rfl
@[simp] theorem view_tables (t : Tables) : State.view { s with tables := t } = s.view := rfl
@[simp] theorem view_reconciled (a : Arm) (f : Option (Fin 24)) : (s.reconciled a f).view = s.view := by
  unfold State.reconciled
  split
  · dsimp only
    split <;> simp [arm_queue]
  · simp [arm_queue]
@[simp] theorem view_noteProbeChange (b : State) (a : Arm) : (State.noteProbeChange b s a).view = s.view := by
  unfold State.noteProbeChange
  split <;> simp [arm_queue]
@[simp] theorem view_reconcile (a : Arm) (f : Option (Fin 24)) : (s.reconcile a f).view = s.view := by
  simp [State.reconcile]
@[simp] theorem view_applyProbeLost (a : Arm) : (s.applyProbeLost a).view = s.view := by
  unfold State.applyProbeLost
  split
  · dsimp only
    split <;> simp [arm_queue]
  · rfl
@[simp] theorem view_stow (a : Arm) (m : Fin 24) (p : Fin 12) : (s.stow a m p).view = s.view := by simp [State.stow, arm_queue]
@[simp] theorem view_fetch (a : Arm) (m : Fin 24) (p : Fin 12) : (s.fetch a m p).view = s.view := by simp [State.fetch, arm_queue]
@[simp] theorem view_verify (a : Arm) (m : Fin 24) : (s.verify a m).view = s.view := by simp [State.verify, arm_queue]
@[simp] theorem view_settlement (a : Arm) : (s.settlement a).view = s.view := by
  unfold State.settlement
  dsimp only
  split <;> split <;> simp [arm_queue]
@[simp] theorem view_settleChange (a : Arm) : (s.settleChange a).view = s.view := by
  unfold State.settleChange
  split <;> simp [arm_queue]
@[simp] theorem view_driftCheck (a : Arm) : (s.driftCheck a).view = s.view := by
  unfold State.driftCheck
  split
  · dsimp only
    split <;> simp [arm_queue]
  · rfl
@[simp] theorem view_blockDriftCheck (a : Arm) : (s.blockDriftCheck a).view = s.view := by
  simp [State.blockDriftCheck]

end views

theorem lawful_disarmed (u : LatchUnit) : u.disarmed.lawful = true := rfl

theorem lawful_arming (u : LatchUnit) (b : ArmedBy) (hb : b ≠ .none) (n : Int) : (u.arming b n).lawful = true := by
  cases b
  · exact absurd rfl hb
  · rfl
  · rfl

theorem lawful_disarmOfBlock (a : Arm) (c : Bool) (u : LatchUnit) (h : u.lawful = true) :
    (u.disarmOfBlock a c).lawful = true := by
  unfold LatchUnit.disarmOfBlock
  split
  · split
    · rfl
    · exact h
  · exact h

section holds
variable {Q : View → Prop} (hQ : Stable Q) {s : State}
include hQ

/-! ## Shared Memory -/

theorem Stable.writeList {v : View} (h : Holds Q v) (i : Nat) (ws : List Word) :
    Holds Q { v with shm := v.shm.writeList i ws } := by
  induction ws generalizing v i with
  | nil => exact h
  | cons w ws ih => exact ih (hQ.write v i w h) (i + 1)

theorem Stable.writePlaced {v : View} (h : Holds Q v) (l : List (Nat × Word)) :
    Holds Q { v with shm := State.writePlaced v.shm l } := by
  induction l generalizing v with
  | nil => exact h
  | cons c l ih =>
    obtain ⟨i, w⟩ := c
    exact ih (hQ.write v i w h)

theorem Stable.writeSlot {v : View} (h : Holds Q v) (base : Nat) (copy : SlotCopy) (c : Completion)
    (r : Option (List Word)) (tick : Word) :
    Holds Q { v with shm := Sys2Proof.Machine.writeSlot v.shm base copy c r tick } := by
  cases r with
  | none => exact hQ.writeList h base _
  | some ws => exact hQ.writeList (hQ.writeList h (base + 20) _) base _

@[simp] theorem Stable.putWord (h : Holds Q s.view) (i : Nat) (w : Word) : Holds Q (s.putWord i w).view :=
  hQ.write s.view i w h

@[simp] theorem Stable.completeMotionSlot (h : Holds Q s.view) (a : Arm) (copy : SlotCopy) (c : Completion)
    (r : Option (List Word)) : Holds Q (s.completeMotionSlot a copy c r).view :=
  hQ.writeSlot h _ _ _ _ _

@[simp] theorem Stable.flushSlots (a : Arm) (l : List SlotCopy) (h : Holds Q s.view) :
    Holds Q (State.flushSlots a l s).view := by
  induction l generalizing s with
  | nil => exact h
  | cons c l ih => exact ih (hQ.completeMotionSlot h a c _ _)

/-! ## Queues and lanes -/

theorem Stable.fillOne (h : Holds Q s.view) (a : Arm) {t : State} (ht : s.fillOne a = some t) : Holds Q t.view := by
  unfold State.fillOne at ht
  dsimp only at ht
  split at ht
  · rename_i hc
    simp only [Bool.and_eq_true, decide_eq_true_eq] at hc
    injection ht with ht
    subst ht
    rw [view_setArm]
    have h1 : Holds Q { s.view with shm := (s.lanes.get a).takenShm s.shm } := hQ.write s.view _ _ h
    have hlen : (({ s.view with shm := (s.lanes.get a).takenShm s.shm } : View).queue a).length < 8 := by
      cases a <;> exact hc.1.1.2
    have h2 := hQ.push _ a ((s.lanes.get a).takenCopy s.shm) hlen h1
    cases a <;> exact h2
  · injection ht

@[simp] theorem Stable.fillN (a : Arm) (n : Nat) (h : Holds Q s.view) : Holds Q (State.fillN a n s).view := by
  induction n generalizing s with
  | zero => exact h
  | succ n ih =>
    simp only [State.fillN]
    split
    · exact h
    · exact ih (hQ.fillOne h a ‹_›)

@[simp] theorem Stable.fill (h : Holds Q s.view) (a : Arm) : Holds Q (s.fill a).view := hQ.fillN a 8 h

theorem Stable.modArmPop (h : Holds Q s.view) (a : Arm) (f : ArmRec → ArmRec)
    (hf : (f (s.arm a)).queue = (s.arm a).queue.tail) : Holds Q (s.modArm a f).view := by
  rw [view_modArm_queue, hf, arm_queue]
  exact hQ.pop _ a h

theorem Stable.modArmClear (h : Holds Q s.view) (a : Arm) (f : ArmRec → ArmRec)
    (hf : (f (s.arm a)).queue = []) : Holds Q (s.modArm a f).view := by
  rw [view_modArm_queue, hf]
  exact hQ.clear _ a h

@[simp] theorem Stable.pauseLane (h : Holds Q s.view) (a : Arm) : Holds Q (s.pauseLane a).view := by
  unfold State.pauseLane
  dsimp only
  split
  · exact h
  · exact hQ.flushSlots a _ (hQ.modArmClear (by exact h) a _ rfl)

/-! ## Latch units -/

@[simp] theorem Stable.disarmBlock (h : Holds Q s.view) (a : Arm) : Holds Q (s.disarmBlock a).view :=
  hQ.units _ _ (fun u hu => lawful_disarmOfBlock a false u hu) h

@[simp] theorem Stable.disarmCaptures (h : Holds Q s.view) (a : Arm) : Holds Q (s.disarmCaptures a).view :=
  hQ.units _ _ (fun u hu => lawful_disarmOfBlock a true u hu) h

theorem Stable.setUnit (h : Holds Q s.view) (i : Fin 16) (u : LatchUnit)
    (hu : s.latches[i].lawful = true → u.lawful = true) : Holds Q (s.setUnit i u).view :=
  hQ.unit s.view i u hu h

@[simp] theorem Stable.disarmUnit (h : Holds Q s.view) (i : Fin 16) : Holds Q (s.disarmUnit i).view :=
  hQ.setUnit h i _ fun _ => rfl

@[simp] theorem Stable.disarmUnit? (h : Holds Q s.view) (i : Option (Fin 16)) : Holds Q (s.disarmUnit? i).view := by
  cases i
  · exact h
  · exact hQ.disarmUnit h _

@[simp] theorem Stable.armCapture (h : Holds Q s.view) (b : Block) (u : Fin 16) (input : CaptureInput) :
    Holds Q (s.armCapture b u input).view :=
  hQ.setUnit h u _ fun _ => rfl

@[simp] theorem Stable.armCover (h : Holds Q s.view) (a : Arm) (b : Block) (p : Port) :
    Holds Q (s.armCover a b p).view :=
  hQ.setUnit h p.coverUnit _ fun _ => rfl

/-! ## The zone -/

@[simp] theorem Stable.zoneWithdraw (h : Holds Q s.view) (a : Arm) : Holds Q (s.zoneWithdraw a).view :=
  hQ.withdraw s.view a h

theorem Stable.zoneWait (h : Holds Q s.view) (a : Arm) (ha : s.zone.holder = some a.other) :
    Holds Q (s.zoneWait a).view := by
  unfold State.zoneWait
  rw [view_modArm]
  · exact hQ.wait s.view a _ ha h
  · intro r; rfl

theorem Stable.zoneGrantFree (h : Holds Q s.view) (a : Arm) (ha : s.zone.holder = none) :
    Holds Q (s.zoneGrant a).view := by
  unfold State.zoneGrant
  rw [view_modArm]
  · exact hQ.grant s.view a ha h
  · intro r; rfl

@[simp] theorem Stable.zoneDecide (h : Holds Q s.view) : Holds Q s.zoneDecide.view := by
  unfold State.zoneDecide
  split
  · rename_i k hk
    split
    · exact hQ.zoneWait h _ (by simpa using hk)
    · exact h
  · rename_i hk
    split
    · exact hQ.zoneWait (hQ.zoneGrantFree h _ hk) _ (by simp)
    · exact hQ.zoneGrantFree h _ hk
    · exact hQ.zoneGrantFree h _ hk
    · exact h

theorem Stable.zoneRelease (h : Holds Q s.view) (a : Arm) (ha : s.zone.holder = some a) :
    Holds Q (s.zoneRelease a).view := by
  unfold State.zoneRelease
  split
  · unfold State.zoneGrant
    rw [view_modArm]
    · exact hQ.pass s.view a ha h
    · intro r; rfl
  · rename_i hw
    exact hQ.release s.view a ha (by simpa [State.zoneWaiting, State.view] using hw) h

@[simp] theorem Stable.releaseTest (h : Holds Q s.view) (a : Arm) (n : Bool) : Holds Q (s.releaseTest a n).view := by
  unfold State.releaseTest
  split
  · rename_i hc
    exact hQ.zoneRelease h a (by
      simp only [State.holdsGrant, Bool.and_eq_true, beq_iff_eq] at hc
      exact hc.1.1)
  · exact h

@[simp] theorem Stable.followingZone (h : Holds Q s.view) (a : Arm) (count : Vec) :
    Holds Q (s.followingZone a count).view := by
  unfold State.followingZone
  dsimp only
  split
  · split
    · rename_i hk
      exact hQ.claim s.view a hk h
    · rw [view_modArm]
      · exact h
      · intro r; rfl
  · exact h

/-! ## Completions, faults, stopping -/

@[simp] theorem Stable.writeBlock (h : Holds Q s.view) (a : Arm) (b : Block) (st : Nat) (x : Status)
    (f : Option FaultCode) (ws : List Word) : Holds Q (s.writeBlock a b st x f ws).view := by
  simp (maxDischargeDepth := 40) [arm_queue, State.writeBlock, hQ, h]

@[simp] theorem Stable.writeExec (h : Holds Q s.view) (a : Arm) (st : Nat) (x : Status) (f : Option FaultCode) :
    Holds Q (s.writeExec a st x f).view := by
  unfold State.writeExec
  split <;> simp (maxDischargeDepth := 40) [arm_queue, hQ, h]

@[simp] theorem Stable.writeCommitted (h : Holds Q s.view) (a : Arm) (st : Nat) (x : Status) (f : Option FaultCode) :
    Holds Q (s.writeCommitted a st x f).view := by
  unfold State.writeCommitted
  split <;> simp (maxDischargeDepth := 40) [arm_queue, hQ, h]

@[simp] theorem Stable.afterDone (h : Holds Q s.view) (a : Arm) : Holds Q (s.afterDone a).view := by
  simp (maxDischargeDepth := 40) [arm_queue, State.afterDone, hQ, h]

@[simp] theorem Stable.completeDone (h : Holds Q s.view) (a : Arm) (x : Status) : Holds Q (s.completeDone a x).view := by
  simp (maxDischargeDepth := 40) [arm_queue, State.completeDone, hQ, h]

@[simp] theorem Stable.completeWith (h : Holds Q s.view) (a : Arm) (ws : List Word) :
    Holds Q (s.completeWith a ws).view := by
  unfold State.completeWith
  split <;> simp (maxDischargeDepth := 40) [arm_queue, hQ, h]

@[simp] theorem Stable.blockFault (h : Holds Q s.view) (a : Arm) (c : FaultCode) : Holds Q (s.blockFault a c).view := by
  unfold State.blockFault
  dsimp only
  split <;> simp (maxDischargeDepth := 40) [arm_queue, hQ, h]

@[simp] theorem Stable.enterFault (h : Holds Q s.view) (a : Arm) (c : FaultCode) : Holds Q (s.enterFault a c).view := by
  simp (maxDischargeDepth := 40) [arm_queue, State.enterFault, hQ, h]

@[simp] theorem Stable.endStopping (h : Holds Q s.view) (a : Arm) : Holds Q (s.endStopping a).view := by
  unfold State.endStopping
  dsimp only
  split <;> simp (maxDischargeDepth := 40) [arm_queue, hQ, h]

@[simp] theorem Stable.enterStopping (h : Holds Q s.view) (a : Arm) (c : Cause) : Holds Q (s.enterStopping a c).view := by
  unfold State.enterStopping
  dsimp only
  split <;> simp (maxDischargeDepth := 40) [arm_queue, hQ, h]

@[simp] theorem Stable.armFault (h : Holds Q s.view) (a : Arm) (c : FaultCode) : Holds Q (s.armFault a c).view := by
  unfold State.armFault
  split <;> simp (maxDischargeDepth := 40) [arm_queue, hQ, h]

@[simp] theorem Stable.followingFault (h : Holds Q s.view) (a : Arm) (c : FaultCode) :
    Holds Q (s.followingFault a c).view := by
  simp (maxDischargeDepth := 40) [arm_queue, State.followingFault, hQ, h]

@[simp] theorem Stable.stopLineArm (h : Holds Q s.view) (a : Arm) : Holds Q (s.stopLineArm a).view := by
  unfold State.stopLineArm
  split <;> simp (maxDischargeDepth := 40) [arm_queue, hQ, h]

@[simp] theorem Stable.abortArm (h : Holds Q s.view) (a : Arm) : Holds Q (s.abortArm a).view := by
  unfold State.abortArm
  split <;> simp (maxDischargeDepth := 40) [arm_queue, hQ, h]

@[simp] theorem Stable.meetMountChange (h : Holds Q s.view) (b : State) (a : Arm) :
    Holds Q (State.meetMountChange b s a).view := by
  unfold State.meetMountChange
  dsimp only
  split <;> simp (maxDischargeDepth := 40) [arm_queue, hQ, h]

@[simp] theorem Stable.reconcileArms (h : Holds Q s.view) (a : Arm) (f : Option (Fin 24)) :
    Holds Q (s.reconcileArms a f).view := by
  simp (maxDischargeDepth := 40) [arm_queue, State.reconcileArms, hQ, h]

end holds

end Sys2Proof.Machine
end

