-- ==== Sys2Proof/Laws/KeepsStep.lean ====
section
/-! SUPPORT. Every command keeps what the primitive changes of `Stable` keep: one lemma for each function of the machine,
and at the end one for `exec` and one for `step`. -/

set_option linter.unusedSectionVars false
set_option linter.unusedSimpArgs false

namespace Sys2Proof.Machine

section holds
variable {Q : View → Prop} (hQ : Stable Q) {s : State}
include hQ

/-! ## The phases of a block -/

@[simp] theorem Stable.beginTouchSearch (h : Holds Q s.view) (a : Arm) (b : Block) (p : Phase) (e : Vec) (f : Nat) : Holds Q (s.beginTouchSearch a b p e f).view := by
  unfold State.beginTouchSearch
  try dsimp only
  repeat' split
  all_goals simp (maxDischargeDepth := 40) [arm_queue, hQ, h]

@[simp] theorem Stable.beginSearch (h : Holds Q s.view) (a : Arm) : Holds Q (s.beginSearch a).view := by
  unfold State.beginSearch
  try dsimp only
  repeat' split
  all_goals simp (maxDischargeDepth := 40) [arm_queue, hQ, h]

@[simp] theorem Stable.beginRetract (h : Holds Q s.view) (a : Arm) : Holds Q (s.beginRetract a).view := by
  unfold State.beginRetract
  try dsimp only
  repeat' split
  all_goals simp (maxDischargeDepth := 40) [arm_queue, hQ, h]

@[simp] theorem Stable.writeQualified (h : Holds Q s.view) (a : Arm) (v : QualValues) : Holds Q (s.writeQualified a v).view := by
  unfold State.writeQualified
  try dsimp only
  repeat' split
  all_goals simp (maxDischargeDepth := 40) [arm_queue, hQ, h]

@[simp] theorem Stable.qualFinish (h : Holds Q s.view) (a : Arm) (b : Block) : Holds Q (s.qualFinish a b).view := by
  unfold State.qualFinish
  try dsimp only
  repeat' split
  all_goals simp (maxDischargeDepth := 40) [arm_queue, hQ, h]

@[simp] theorem Stable.retractEnd (h : Holds Q s.view) (a : Arm) (b : Block) : Holds Q (s.retractEnd a b).view := by
  unfold State.retractEnd
  try dsimp only
  repeat' split
  all_goals simp (maxDischargeDepth := 40) [arm_queue, hQ, h]

@[simp] theorem Stable.searchMissed (h : Holds Q s.view) (a : Arm) (b : Block) : Holds Q (s.searchMissed a b).view := by
  simp (maxDischargeDepth := 40) [State.searchMissed, arm_queue, hQ, h]

@[simp] theorem Stable.touchStopEnd (h : Holds Q s.view) (a : Arm) (b : Block) : Holds Q (s.touchStopEnd a b).view := by
  simp (maxDischargeDepth := 40) [State.touchStopEnd, arm_queue, hQ, h]

@[simp] theorem Stable.beginHomeSearch (h : Holds Q s.view) (a : Arm) (x : Axis) : Holds Q (s.beginHomeSearch a x).view := by
  unfold State.beginHomeSearch
  try dsimp only
  repeat' split
  all_goals simp (maxDischargeDepth := 40) [arm_queue, hQ, h]

omit hQ in
theorem lawful_shifted (a : Arm) (x : Axis) (d : Int) (u : LatchUnit) (h : u.lawful = true) :
    (u.shifted a x d).lawful = true := by
  unfold LatchUnit.shifted
  split <;> exact h

@[simp] theorem Stable.shiftAxis (h : Holds Q s.view) (a : Arm) (x : Axis) (d : Int) : Holds Q (s.shiftAxis a x d).view := by
  have h1 : Holds Q (s.modArm a fun r =>
      let p := r.axes.get x
      { r with
        cmd := r.cmd.set x (r.cmd.get x + d)
        axes := r.axes.set x
          { p with offset := p.offset + d, setpoint := p.setpoint + d, count := p.count + d } }).view := by
    simpa [arm_queue] using h
  exact hQ.units _ _ (fun u hu => lawful_shifted a x d u hu) h1

@[simp] theorem Stable.homeStopEnd (h : Holds Q s.view) (a : Arm) (b : Block) (x : Axis) : Holds Q (s.homeStopEnd a b x).view := by
  unfold State.homeStopEnd
  try dsimp only
  repeat' split
  all_goals simp (maxDischargeDepth := 40) [arm_queue, hQ, h]

@[simp] theorem Stable.homeFinish (h : Holds Q s.view) (a : Arm) : Holds Q (s.homeFinish a).view := by
  simp (maxDischargeDepth := 40) [State.homeFinish, arm_queue, hQ, h]

@[simp] theorem Stable.beginLimitReturn (h : Holds Q s.view) (a : Arm) : Holds Q (s.beginLimitReturn a).view := by
  unfold State.beginLimitReturn
  try dsimp only
  repeat' split
  all_goals simp (maxDischargeDepth := 40) [arm_queue, hQ, h]

@[simp] theorem Stable.homeMissed (h : Holds Q s.view) (a : Arm) (b : Block) (x : Axis) : Holds Q (s.homeMissed a b x).view := by
  simp (maxDischargeDepth := 40) [State.homeMissed, arm_queue, hQ, h]

@[simp] theorem Stable.beginHome (h : Holds Q s.view) (a : Arm) : Holds Q (s.beginHome a).view := by
  simp (maxDischargeDepth := 40) [State.beginHome, arm_queue, hQ, h]

@[simp] theorem Stable.beginLink (h : Holds Q s.view) (a : Arm) (c : LinkCmd) : Holds Q (s.beginLink a c).view := by
  simp (maxDischargeDepth := 40) [State.beginLink, arm_queue, hQ, h]

@[simp] theorem Stable.armCoverOf (h : Holds Q s.view) (a : Arm) (b : Block) (k : Half) : Holds Q (s.armCoverOf a b k).view := by
  unfold State.armCoverOf
  try dsimp only
  repeat' split
  all_goals simp (maxDischargeDepth := 40) [arm_queue, hQ, h]

@[simp] theorem Stable.beginChange (h : Holds Q s.view) (a : Arm) (c : ChangePhase) (k : Half) : Holds Q (s.beginChange a c k).view := by
  unfold State.beginChange
  try dsimp only
  repeat' split
  all_goals simp (maxDischargeDepth := 40) [arm_queue, hQ, h]

@[simp] theorem Stable.coverOpened (h : Holds Q s.view) (a : Arm) (k : Half) : Holds Q (s.coverOpened a k).view := by
  simp (maxDischargeDepth := 40) [State.coverOpened, arm_queue, hQ, h]

@[simp] theorem Stable.approachEnd (h : Holds Q s.view) (a : Arm) (k : Half) : Holds Q (s.approachEnd a k).view := by
  unfold State.approachEnd
  try dsimp only
  repeat' split
  all_goals simp (maxDischargeDepth := 40) [arm_queue, hQ, h]

@[simp] theorem Stable.engageSeated (h : Holds Q s.view) (a : Arm) : Holds Q (s.engageSeated a).view := by
  simp (maxDischargeDepth := 40) [State.engageSeated, arm_queue, hQ, h]

@[simp] theorem Stable.engageBegin (h : Holds Q s.view) (a : Arm) : Holds Q (s.engageBegin a).view := by
  unfold State.engageBegin
  try dsimp only
  repeat' split
  all_goals simp (maxDischargeDepth := 40) [arm_queue, hQ, h]

@[simp] theorem Stable.stowMade (h : Holds Q s.view) (a : Arm) : Holds Q (s.stowMade a).view := by
  unfold State.stowMade
  try dsimp only
  repeat' split
  all_goals simp (maxDischargeDepth := 40) [arm_queue, hQ, h]

@[simp] theorem Stable.stowDone (h : Holds Q s.view) (a : Arm) (b : Block) : Holds Q (s.stowDone a b).view := by
  simp (maxDischargeDepth := 40) [State.stowDone, arm_queue, hQ, h]

@[simp] theorem Stable.portRetractEnd (h : Holds Q s.view) (a : Arm) (b : Block) (k : Half) : Holds Q (s.portRetractEnd a b k).view := by
  unfold State.portRetractEnd
  try dsimp only
  repeat' split
  all_goals simp (maxDischargeDepth := 40) [arm_queue, hQ, h]

@[simp] theorem Stable.changeSegEnd (h : Holds Q s.view) (a : Arm) (b : Block) (c : ChangePhase) (k : Half) : Holds Q (s.changeSegEnd a b c k).view := by
  unfold State.changeSegEnd
  try dsimp only
  repeat' split
  all_goals simp (maxDischargeDepth := 40) [arm_queue, hQ, h]

@[simp] theorem Stable.moveSegEnd (h : Holds Q s.view) (a : Arm) (b : Block) : Holds Q (s.moveSegEnd a b).view := by
  unfold State.moveSegEnd
  try dsimp only
  repeat' split
  all_goals simp (maxDischargeDepth := 40) [arm_queue, hQ, h]

@[simp] theorem Stable.searchStartEnd (h : Holds Q s.view) (a : Arm) : Holds Q (s.searchStartEnd a).view := by
  unfold State.searchStartEnd
  split <;> simp (maxDischargeDepth := 40) [arm_queue, hQ, h]

@[simp] theorem Stable.transitSegEnd (h : Holds Q s.view) (a : Arm) (b : Block) : Holds Q (s.transitSegEnd a b).view := by
  unfold State.transitSegEnd
  try dsimp only
  repeat' split
  all_goals simp (maxDischargeDepth := 40) [arm_queue, hQ, h]

@[simp] theorem Stable.segEnd (h : Holds Q s.view) (a : Arm) : Holds Q (s.segEnd a).view := by
  unfold State.segEnd
  try dsimp only
  repeat' split
  all_goals simp (maxDischargeDepth := 40) [arm_queue, hQ, h]

@[simp] theorem Stable.segEndAtTick (h : Holds Q s.view) (a : Arm) : Holds Q (s.segEndAtTick a).view := by
  simp (maxDischargeDepth := 40) [State.segEndAtTick, arm_queue, hQ, h]

@[simp] theorem Stable.brakeEnd (h : Holds Q s.view) (a : Arm) : Holds Q (s.brakeEnd a).view := by
  unfold State.brakeEnd
  try dsimp only
  repeat' split
  all_goals simp (maxDischargeDepth := 40) [arm_queue, hQ, h]

@[simp] theorem Stable.brakeFor (h : Holds Q s.view) (a : Arm) (p : Phase) : Holds Q (s.brakeFor a p).view := by
  unfold State.brakeFor
  try dsimp only
  repeat' split
  all_goals simp (maxDischargeDepth := 40) [arm_queue, hQ, h]

@[simp] theorem Stable.qualCapture (h : Holds Q s.view) (a : Arm) (c : Capture) (k : Nat) : Holds Q (s.qualCapture a c k).view := by
  simp (maxDischargeDepth := 40) [State.qualCapture, arm_queue, hQ, h]

@[simp] theorem Stable.takeCapture (h : Holds Q s.view) (a : Arm) (c : Capture) : Holds Q (s.takeCapture a c).view := by
  unfold State.takeCapture
  try dsimp only
  repeat' split
  all_goals simp (maxDischargeDepth := 40) [arm_queue, hQ, h]

@[simp] theorem Stable.resumeTouch (h : Holds Q s.view) (a : Arm) (b : Block) : Holds Q (s.resumeTouch a b).view := by
  unfold State.resumeTouch
  try dsimp only
  repeat' split
  all_goals simp (maxDischargeDepth := 40) [arm_queue, hQ, h]

@[simp] theorem Stable.resume (h : Holds Q s.view) (a : Arm) : Holds Q (s.resume a).view := by
  unfold State.resume
  try dsimp only
  repeat' split
  all_goals simp (maxDischargeDepth := 40) [arm_queue, hQ, h]

@[simp] theorem Stable.beginDwell (h : Holds Q s.view) (a : Arm) (c : SlotCopy) : Holds Q (s.beginDwell a c).view := by
  unfold State.beginDwell
  try dsimp only
  repeat' split
  all_goals simp (maxDischargeDepth := 40) [arm_queue, hQ, h]

@[simp] theorem Stable.beginWaitStable (h : Holds Q s.view) (a : Arm) (c : SlotCopy) : Holds Q (s.beginWaitStable a c).view := by
  unfold State.beginWaitStable
  try dsimp only
  repeat' split
  all_goals simp (maxDischargeDepth := 40) [arm_queue, hQ, h]

@[simp] theorem Stable.beginLeg (h : Holds Q s.view) (a : Arm) : Holds Q (s.beginLeg a).view := by
  unfold State.beginLeg
  try dsimp only
  repeat' split
  all_goals simp (maxDischargeDepth := 40) [arm_queue, hQ, h]

@[simp] theorem Stable.stepSix (h : Holds Q s.view) (a : Arm) : Holds Q (s.stepSix a).view := by
  unfold State.stepSix
  try dsimp only
  repeat' split
  all_goals simp (maxDischargeDepth := 40) [arm_queue, hQ, h]

@[simp] theorem Stable.beginDue (h : Holds Q s.view) (a : Arm) (d : Due) : Holds Q (s.beginDue a d).view := by
  unfold State.beginDue
  cases d <;> simp (maxDischargeDepth := 40) [arm_queue, hQ, h]

@[simp] theorem Stable.applyFrame (h : Holds Q s.view) (a : Arm) (c : SlotCopy) : Holds Q (s.applyFrame a c).view := by
  simp (maxDischargeDepth := 40) [State.applyFrame, arm_queue, hQ, h]

omit hQ in
theorem latchSettings_state (c : SlotCopy) (u v : LatchUnit) (h : c.latchSettings u = some v) :
    v.state = u.state ∧ v.armedBy = u.armedBy := by
  unfold SlotCopy.latchSettings at h
  repeat' split at h
  all_goals first | (cases h; exact ⟨rfl, rfl⟩) | cases h

omit hQ in
theorem lawful_latchAfter (s : State) (a : Arm) (c : SlotCopy) (u : Fin 16) (x : LatchAction)
    (h : s.latches[u].lawful = true) : (s.latchAfter a c u x).lawful = true := by
  cases x with
  | allocate =>
    show LatchUnit.lawful { (c.latchSettings s.latches[u]).getD s.latches[u] with alloc := some a, cap := .zero, extra := 0 } = _
    cases hs : c.latchSettings s.latches[u] with
    | none => exact h
    | some v =>
      have hv := latchSettings_state c _ v hs
      simp only [Option.getD_some, LatchUnit.lawful, hv.1, hv.2]
      exact h
  | release => exact h
  | arm => rfl
  | disarm => rfl
  | read => exact h

@[simp] theorem Stable.applyLatch (h : Holds Q s.view) (a : Arm) (b : Block) : Holds Q (s.applyLatch a b).view := by
  unfold State.applyLatch
  split
  · exact hQ.completeWith (hQ.setUnit h _ _ (lawful_latchAfter s a b.slot _ _)) _ _
  · simp (maxDischargeDepth := 40) [arm_queue, hQ, h]
  · exact h

@[simp] theorem Stable.requestZone (h : Holds Q s.view) (a : Arm) (b : Block) : Holds Q (s.requestZone a b).view := by
  unfold State.requestZone
  try dsimp only
  repeat' split
  all_goals simp (maxDischargeDepth := 40) [arm_queue, hQ, h]

@[simp] theorem Stable.bindAndRequest (h : Holds Q s.view) (a : Arm) (b : Block) : Holds Q (s.bindAndRequest a b).view := by
  unfold State.bindAndRequest
  try dsimp only
  repeat' split
  all_goals simp (maxDischargeDepth := 40) [arm_queue, hQ, h]

@[simp] theorem Stable.passSwap (h : Holds Q s.view) (a : Arm) : Holds Q (s.passSwap a).view := by
  unfold State.passSwap
  try dsimp only
  repeat' split
  all_goals simp (maxDischargeDepth := 40) [arm_queue, hQ, h]

@[simp] theorem Stable.doSwap (h : Holds Q s.view)  : Holds Q (s.doSwap).view := by
  exact h

@[simp] theorem Stable.becomeHeld (h : Holds Q s.view) (a : Arm) : Holds Q (s.becomeHeld a).view := by
  simp (maxDischargeDepth := 40) [State.becomeHeld, arm_queue, hQ, h]

theorem Stable.armWork (h : Holds Q s.view) (a : Arm) {t : State} (ht : s.armWork a = some t) : Holds Q t.view := by
  unfold State.armWork at ht
  dsimp only at ht
  repeat' split at ht
  · injection ht with ht
    exact ht ▸ hQ.beginDue h a _
  · injection ht with ht
    exact ht ▸ hQ.becomeHeld h a
  · cases ht
  · cases hd : (s.arm a).due with
    | none => rw [hd] at ht; cases ht
    | some d =>
      rw [hd] at ht
      injection ht with ht
      exact ht ▸ hQ.beginDue h a d
  · cases ht

theorem Stable.swapRelease (h : Holds Q s.view) {t : State} (ht : s.swapRelease = some t) : Holds Q t.view := by
  unfold State.swapRelease at ht
  split at ht
  · injection ht with ht
    exact ht ▸ hQ.passSwap (s := { s with free := s.free + 1 }) h _
  · injection ht with ht
    exact ht ▸ hQ.passSwap h _
  · injection ht with ht
    exact ht ▸ hQ.passSwap h _
  · cases ht

@[simp] theorem Stable.swapBetween (h : Holds Q s.view) : Holds Q s.swapBetween.view := by
  have h1 : Holds Q s.doSwap.view := hQ.doSwap h
  unfold State.swapBetween
  split
  · cases hr : s.doSwap.swapRelease with
    | none => exact h1
    | some t => exact hQ.swapRelease h1 hr
  · exact h

theorem Stable.immediate (h : Holds Q s.view) {t : State} (ht : s.immediate = some t) : Holds Q t.view := by
  unfold State.immediate at ht
  split at ht
  · injection ht with ht
    exact ht ▸ hQ.doSwap h
  · split at ht
    · rename_i hr
      injection ht with ht
      exact ht ▸ hQ.swapRelease h hr
    · split at ht
      · rename_i hr
        injection ht with ht
        exact ht ▸ hQ.armWork h _ hr
      · exact hQ.armWork h _ ht

@[simp] theorem Stable.settleN (n : Nat) (h : Holds Q s.view) : Holds Q (State.settleN n s).view := by
  induction n generalizing s with
  | zero => exact h
  | succ n ih =>
    simp only [State.settleN]
    split
    · exact h
    · exact ih (hQ.immediate h ‹_›)

@[simp] theorem Stable.settle (h : Holds Q s.view) : Holds Q s.settle.view := hQ.settleN 256 h

/-! ## The head link -/

@[simp] theorem Stable.noteLink (h : Holds Q s.view) (a : Arm) (e : Option LinkKind) : Holds Q (s.noteLink a e).view := by
  simp (maxDischargeDepth := 40) [State.noteLink, arm_queue, hQ, h]

@[simp] theorem Stable.transactionFailed (h : Holds Q s.view) (a : Arm) (k : LinkKind) : Holds Q (s.transactionFailed a k).view := by
  unfold State.transactionFailed
  try dsimp only
  repeat' split
  all_goals simp (maxDischargeDepth := 40) [arm_queue, hQ, h]

@[simp] theorem Stable.attemptFailed (h : Holds Q s.view) (a : Arm) (k : LinkKind) : Holds Q (s.attemptFailed a k).view := by
  unfold State.attemptFailed
  try dsimp only
  repeat' split
  all_goals simp (maxDischargeDepth := 40) [arm_queue, hQ, h]

@[simp] theorem Stable.unlocked (h : Holds Q s.view) (a : Arm) : Holds Q (s.unlocked a).view := by
  unfold State.unlocked
  try dsimp only
  repeat' split
  all_goals simp (maxDischargeDepth := 40) [arm_queue, hQ, h]

@[simp] theorem Stable.locked (h : Holds Q s.view) (a : Arm) : Holds Q (s.locked a).view := by
  unfold State.locked
  try dsimp only
  repeat' split
  all_goals simp (maxDischargeDepth := 40) [arm_queue, hQ, h]

@[simp] theorem Stable.changeIdentified (h : Holds Q s.view) (a : Arm) (l : List Byte) : Holds Q (s.changeIdentified a l).view := by
  unfold State.changeIdentified
  try dsimp only
  repeat' split
  all_goals simp (maxDischargeDepth := 40) [arm_queue, hQ, h]

@[simp] theorem Stable.identified (h : Holds Q s.view) (a : Arm) (l : List Byte) : Holds Q (s.identified a l).view := by
  simp (maxDischargeDepth := 40) [State.identified, arm_queue, hQ, h]

@[simp] theorem Stable.transactionDone (h : Holds Q s.view) (a : Arm) : Holds Q (s.transactionDone a).view := by
  unfold State.transactionDone
  try dsimp only
  repeat' split
  all_goals simp (maxDischargeDepth := 40) [arm_queue, hQ, h]

@[simp] theorem Stable.receiveFrame (h : Holds Q s.view) (a : Arm) (f : BitVec 11) : Holds Q (s.receiveFrame a f).view := by
  unfold State.receiveFrame
  try dsimp only
  repeat' split
  all_goals simp (maxDischargeDepth := 40) [arm_queue, hQ, h]

@[simp] theorem Stable.replyGap (h : Holds Q s.view) (a : Arm) : Holds Q (s.replyGap a).view := by
  unfold State.replyGap
  try dsimp only
  repeat' split
  all_goals simp (maxDischargeDepth := 40) [arm_queue, hQ, h]

/-! ## The lines -/

omit hQ in
theorem lawful_onEdge (a : Arm) (i : CaptureInput) (x : Bool) (c : Capture) (u : LatchUnit) (h : u.lawful = true) :
    (u.onEdge a i x c).lawful = true := by
  unfold LatchUnit.onEdge
  split
  · unfold LatchUnit.seeEdge
    split
    · exact h
    · rename_i hs
      simp only [LatchUnit.lawful, hs] at h ⊢
      exact h
    · rename_i hs
      simp only [LatchUnit.lawful, hs] at h ⊢
      exact h
  · exact h

@[simp] theorem Stable.lineChange (h : Holds Q s.view) (a : Arm) (i : CaptureInput) (x : Bool) : Holds Q (s.lineChange a i x).view := by
  unfold State.lineChange
  dsimp only
  split
  · exact hQ.takeCapture (hQ.units _ _ (fun u hu => lawful_onEdge a i x _ u hu) h) a _
  · exact hQ.units _ _ (fun u hu => lawful_onEdge a i x _ u hu) h

@[simp] theorem Stable.setTrig (h : Holds Q s.view) (a : Arm) (x : Bool) : Holds Q (s.setTrig a x).view := by
  exact h

@[simp] theorem Stable.setRefm (h : Holds Q s.view) (a : Arm) (y : Axis) (x : Bool) : Holds Q (s.setRefm a y x).view := by
  exact h

@[simp] theorem Stable.setExt (h : Holds Q s.view) (i : Fin 4) (x : Bool) : Holds Q (s.setExt i x).view := by
  exact h

@[simp] theorem Stable.setCover (h : Holds Q s.view) (a : Arm) (x : Bool) : Holds Q (s.setCover a x).view := by
  exact h

@[simp] theorem Stable.trigChanged (h : Holds Q s.view) (a : Arm) (x : Bool) : Holds Q (s.trigChanged a x).view := by
  unfold State.trigChanged
  try dsimp only
  repeat' split
  all_goals simp (maxDischargeDepth := 40) [arm_queue, hQ, h]

@[simp] theorem Stable.coverSeen (h : Holds Q s.view) (a : Arm) : Holds Q (s.coverSeen a).view := by
  unfold State.coverSeen
  try dsimp only
  repeat' split
  all_goals simp (maxDischargeDepth := 40) [arm_queue, hQ, h]

@[simp] theorem Stable.setHseat (h : Holds Q s.view) (a : Arm) (x : Bool) : Holds Q (s.setHseat a x).view := by
  unfold State.setHseat
  rw [view_modArm]
  · exact h
  · intro r; rfl

@[simp] theorem Stable.probeLostAt (h : Holds Q s.view) (a : Arm) : Holds Q (s.probeLostAt a).view := by
  unfold State.probeLostAt
  try dsimp only
  repeat' split
  all_goals simp (maxDischargeDepth := 40) [arm_queue, hQ, h]

@[simp] theorem Stable.seatRise (h : Holds Q s.view) (a : Arm) : Holds Q (s.seatRise a).view := by
  unfold State.seatRise
  try dsimp only
  repeat' split
  all_goals simp (maxDischargeDepth := 40) [arm_queue, hQ, h]

@[simp] theorem Stable.seatFall (h : Holds Q s.view) (a : Arm) : Holds Q (s.seatFall a).view := by
  unfold State.seatFall
  try dsimp only
  repeat' split
  all_goals simp (maxDischargeDepth := 40) [arm_queue, hQ, h]

@[simp] theorem Stable.seatRiseChanging (h : Holds Q s.view) (a : Arm) (c : ChangePhase) (k : Half) : Holds Q (s.seatRiseChanging a c k).view := by
  unfold State.seatRiseChanging
  try dsimp only
  repeat' split
  all_goals simp (maxDischargeDepth := 40) [arm_queue, hQ, h]

@[simp] theorem Stable.seatFallChanging (h : Holds Q s.view) (a : Arm) (c : ChangePhase) : Holds Q (s.seatFallChanging a c).view := by
  unfold State.seatFallChanging
  try dsimp only
  repeat' split
  all_goals simp (maxDischargeDepth := 40) [arm_queue, hQ, h]

@[simp] theorem Stable.seatChanged (h : Holds Q s.view) (a : Arm) (x : Bool) : Holds Q (s.seatChanged a x).view := by
  unfold State.seatChanged
  try dsimp only
  repeat' split
  all_goals simp (maxDischargeDepth := 40) [arm_queue, hQ, h]

@[simp] theorem Stable.debounced (h : Holds Q s.view) (a : Arm) : Holds Q (s.debounced a).view := by
  simp (maxDischargeDepth := 40) [State.debounced, arm_queue, hQ, h]

@[simp] theorem Stable.seatTogether (h : Holds Q s.view) (a : Arm) : Holds Q (s.seatTogether a).view := by
  have h1 : Holds Q (State.view { s with free := s.free + 1 }) := h
  unfold State.seatTogether
  dsimp only
  split
  · split
    · exact hQ.debounced h1 a
    · exact h1
  · exact h

/-! ## The tick -/

@[simp] theorem Stable.beginNext (h : Holds Q s.view) (a : Arm) : Holds Q (s.beginNext a).view := by
  unfold State.beginNext
  split <;> simp (maxDischargeDepth := 40) [arm_queue, hQ, h]

@[simp] theorem Stable.captureAtEnd (h : Holds Q s.view) (a : Arm) : Holds Q (s.captureAtEnd a).view := by
  have h1 : Holds Q (State.view { s with free := s.free + 1 }) := h
  unfold State.captureAtEnd
  dsimp only
  repeat' split
  all_goals simp (maxDischargeDepth := 40) [arm_queue, hQ, h, h1]

@[simp] theorem Stable.commitPoint (h : Holds Q s.view) (a : Arm) (b : Block) : Holds Q (s.commitPoint a b).view := by
  unfold State.commitPoint
  split
  · split
    · exact hQ.fill (hQ.modArmPop (by simpa [arm_queue] using h) a _ rfl) a
    · simpa [arm_queue] using h
  · simpa [arm_queue] using h

@[simp] theorem Stable.commitTest (h : Holds Q s.view) (a : Arm) : Holds Q (s.commitTest a).view := by
  unfold State.commitTest
  try dsimp only
  repeat' split
  all_goals simp (maxDischargeDepth := 40) [arm_queue, hQ, h]

@[simp] theorem Stable.advance (h : Holds Q s.view) (a : Arm) : Holds Q (s.advance a).view := by
  unfold State.advance
  try dsimp only
  repeat' split
  all_goals simp (maxDischargeDepth := 40) [arm_queue, hQ, h]

omit hQ in
theorem lawful_compareTest (a : Arm) (rd : Tri Reading) (n : Vec) (k : Word) (u : LatchUnit) (h : u.lawful = true) :
    (u.compareTest a rd n k).lawful = true := by
  unfold LatchUnit.compareTest
  split
  · exact h
  · split
    · dsimp only
      split
      · exact h
      · rename_i hs
        split <;> (simp only [LatchUnit.lawful, hs] at h ⊢; exact h)
      · rename_i hs
        split <;> (simp only [LatchUnit.lawful, hs] at h ⊢; exact h)
    · exact h

@[simp] theorem Stable.exchange (h : Holds Q s.view) (a : Arm) (rd : Tri Reading) : Holds Q (s.exchange a rd).view := by
  have h1 : Holds Q (s.modArm a fun r => { r with axes := portsAtTick r.axes r.cmd rd }).view := by simpa [arm_queue] using h
  exact hQ.units _ _ (fun u hu => lawful_compareTest a rd _ _ u hu) h1

@[simp] theorem Stable.setpointsToCounts (h : Holds Q s.view) (a : Arm) : Holds Q (s.setpointsToCounts a).view := by
  simp (maxDischargeDepth := 40) [State.setpointsToCounts, arm_queue, hQ, h]

@[simp] theorem Stable.takeFollowing (h : Holds Q s.view) (a : Arm) (c : FaultCode) : Holds Q (s.takeFollowing a c).view := by
  simp (maxDischargeDepth := 40) [State.takeFollowing, arm_queue, hQ, h]

@[simp] theorem Stable.passOver (h : Holds Q s.view) (a : Arm) (b : Block) : Holds Q (s.passOver a b).view := by
  simp (maxDischargeDepth := 40) [State.passOver, arm_queue, hQ, h]

@[simp] theorem Stable.stopCrosses (h : Holds Q s.view) (a : Arm) (b : Block) : Holds Q (s.stopCrosses a b).view := by
  simp (maxDischargeDepth := 40) [State.stopCrosses, arm_queue, hQ, h]

@[simp] theorem Stable.holdTick (h : Holds Q s.view) (a : Arm) : Holds Q (s.holdTick a).view := by
  unfold State.holdTick
  try dsimp only
  repeat' split
  all_goals simp (maxDischargeDepth := 40) [arm_queue, hQ, h]

@[simp] theorem Stable.stopTick (h : Holds Q s.view) (a : Arm) : Holds Q (s.stopTick a).view := by
  unfold State.stopTick
  try dsimp only
  repeat' split
  all_goals simp (maxDischargeDepth := 40) [arm_queue, hQ, h]

@[simp] theorem Stable.activeTick (h : Holds Q s.view) (a : Arm) : Holds Q (s.activeTick a).view := by
  unfold State.activeTick
  try dsimp only
  repeat' split
  all_goals simp (maxDischargeDepth := 40) [arm_queue, hQ, h]

@[simp] theorem Stable.motionEnd (h : Holds Q s.view) (a : Arm) : Holds Q (s.motionEnd a).view := by
  unfold State.motionEnd
  try dsimp only
  repeat' split
  all_goals simp (maxDischargeDepth := 40) [arm_queue, hQ, h]

omit hQ in
@[simp] theorem view_free (s : State) (n : Nat) : State.view { s with free := n } = s.view := rfl

omit hQ in
@[simp] theorem view_followingCode (s : State) (a : Arm) (rd : Tri Reading) :
    (s.followingCode a rd).1.view = s.view := by
  unfold State.followingCode
  split <;> rfl

@[simp] theorem Stable.tickEnd (h : Holds Q s.view) (a : Arm) (rd : Tri Reading) (x : Bool) : Holds Q (s.tickEnd a rd x).view := by
  unfold State.tickEnd
  extract_lets faulted both s1 endFirst s2
  have h1 : Holds Q s1.view := by
    show Holds Q (if both = true then { s with free := s.free + 1 } else s).view
    split <;> exact h
  have h2 : Holds Q s2.view := by
    show Holds Q (if (x && (!faulted || endFirst)) = true then s1.motionEnd a else s1).view
    split
    · exact hQ.motionEnd h1 a
    · exact h1
  split
  · have h3 : Holds Q (s2.followingCode a rd).1.view := by simpa [arm_queue] using h2
    split
    · rename_i hc
      rw [hc] at h3
      exact hQ.takeFollowing h3 a _
    · rename_i hc
      rw [hc] at h3
      exact h3
  · exact h2

@[simp] theorem Stable.tickArm (h : Holds Q s.view) (a : Arm) (rd : Tri Reading) : Holds Q (s.tickArm a rd).view := by
  simp (maxDischargeDepth := 40) [State.tickArm, arm_queue, hQ, h]

@[simp] theorem Stable.tickBoth (h : Holds Q s.view) (a : Arm) (rd : Duo (Tri Reading)) : Holds Q (s.tickBoth a rd).view := by
  have h1 : Holds Q (State.view { s with tickNo := s.tickNo + 1 }) := h
  exact hQ.tickArm (hQ.tickArm h1 a _) _ _

/-! ## Services -/

@[simp] theorem Stable.svcLook (h : Holds Q s.view)  : Holds Q (s.svcLook).view := by
  unfold State.svcLook
  dsimp only
  split
  · exact hQ.write s.view _ _ h
  · exact h

@[simp] theorem Stable.svcAnswer (h : Holds Q s.view) (x : Answer) : Holds Q (s.svcAnswer x).view := by
  unfold State.svcAnswer
  split
  · exact h
  · rename_i q hq
    exact hQ.svcLook (by
      rw [view_setNotice]
      exact hQ.writeSlot (v := s.view) h (s.svcLane.slotBase q.slot.index) q.slot x.completion (some x.words) s.tickNo)

@[simp] theorem Stable.stageSet (h : Holds Q s.view) (c : SlotCopy) : Holds Q (s.stageSet c).view := by
  unfold State.stageSet
  dsimp only
  split
  · exact hQ.svcAnswer (by exact h) _
  · exact hQ.svcAnswer h _

@[simp] theorem Stable.leaveZoneWait (h : Holds Q s.view) (a : Arm) : Holds Q (s.leaveZoneWait a).view := by
  unfold State.leaveZoneWait
  try dsimp only
  repeat' split
  all_goals simp (maxDischargeDepth := 40) [arm_queue, hQ, h]

@[simp] theorem Stable.swapSet (h : Holds Q s.view)  : Holds Q (s.swapSet).view := by
  unfold State.swapSet
  split
  · exact hQ.svcAnswer h _
  · exact hQ.settle (hQ.svcAnswer (hQ.leaveZoneWait (hQ.leaveZoneWait (by exact h) _) _) _)

@[simp] theorem Stable.thermalApply (h : Holds Q s.view) (c : SlotCopy) : Holds Q (s.thermalApply c).view := by
  unfold State.thermalApply
  split
  · exact hQ.svcAnswer (by exact h) _
  · exact hQ.svcAnswer h _

@[simp] theorem Stable.thermalRequest (h : Holds Q s.view) (c : SlotCopy) : Holds Q (s.thermalRequest c).view := by
  unfold State.thermalRequest
  split
  · exact hQ.svcAnswer h _
  · split
    · exact hQ.thermalApply h c
    · exact h

@[simp] theorem Stable.applyHeld (h : Holds Q s.view)  : Holds Q (s.applyHeld).view := by
  unfold State.applyHeld
  split
  · split
    · exact hQ.thermalApply h _
    · exact h
  · exact h

@[simp] theorem Stable.scanEnd (h : Holds Q s.view)  : Holds Q (s.scanEnd).view := by
  unfold State.scanEnd
  apply hQ.applyHeld
  split
  · rw [view_setNotice]; exact h
  · exact h

@[simp] theorem Stable.scanBegin (h : Holds Q s.view)  : Holds Q (s.scanBegin).view := by
  unfold State.scanBegin
  split
  · exact hQ.scanEnd h
  · exact h

@[simp] theorem Stable.sampleDone (h : Holds Q s.view) (n : Nat) : Holds Q (s.sampleDone n).view := by
  unfold State.sampleDone
  dsimp only
  split
  · exact hQ.scanEnd (by exact h)
  · exact h

@[simp] theorem Stable.stabilityReport (h : Holds Q s.view) (a : Arm) : Holds Q (s.stabilityReport a).view := by
  unfold State.stabilityReport
  try dsimp only
  repeat' split
  all_goals simp (maxDischargeDepth := 40) [arm_queue, hQ, h]

@[simp] theorem Stable.clearFault (h : Holds Q s.view) (c : SlotCopy) : Holds Q (s.clearFault c).view := by
  unfold State.clearFault
  try dsimp only
  repeat' split
  all_goals simp (maxDischargeDepth := 40) [arm_queue, hQ, h]

@[simp] theorem Stable.reopenLane (h : Holds Q s.view) (c : SlotCopy) : Holds Q (s.reopenLane c).view := by
  unfold State.reopenLane
  repeat' split
  all_goals first
    | exact hQ.svcAnswer h _
    | exact hQ.svcAnswer (by exact h) _
    | exact hQ.fill (hQ.svcAnswer (by exact h) _) _

@[simp] theorem Stable.setZone (h : Holds Q s.view) (c : SlotCopy) : Holds Q (s.setZone c).view := by
  unfold State.setZone
  repeat' split
  all_goals first
    | exact hQ.svcAnswer h _
    | exact hQ.svcAnswer (by exact h) _

@[simp] theorem Stable.setProbe (h : Holds Q s.view) (c : SlotCopy) : Holds Q (s.setProbe c).view := by
  unfold State.setProbe
  repeat' split
  all_goals first
    | exact hQ.svcAnswer h _
    | exact hQ.svcAnswer (by exact h) _

@[simp] theorem Stable.readProbe (h : Holds Q s.view) (c : SlotCopy) : Holds Q (s.readProbe c).view := by
  unfold State.readProbe
  repeat' split
  all_goals first
    | exact hQ.svcAnswer h _

@[simp] theorem Stable.setPort (h : Holds Q s.view) (c : SlotCopy) : Holds Q (s.setPort c).view := by
  unfold State.setPort
  repeat' split
  all_goals first
    | exact hQ.svcAnswer h _
    | exact hQ.svcAnswer (by exact h) _

theorem Stable.serveKind (h : Holds Q s.view) (k : SvcKind) (f : State → SlotCopy → State)
    (hf : ∀ c, Holds Q (f s c).view) : Holds Q (Sys2Proof.Machine.serveKind s k f).view := by
  unfold Sys2Proof.Machine.serveKind
  split
  · exact hf _
  · exact h

/-! ## Block starts, the Condition Page, the device -/

@[simp] theorem Stable.takeHead (h : Holds Q s.view) (a : Arm) (c : SlotCopy) : Holds Q (s.takeHead a c).view := by
  exact hQ.fill (hQ.modArmPop h a _ rfl) a

@[simp] theorem Stable.swapCheck (h : Holds Q s.view) (a : Arm) : Holds Q (s.swapCheck a).view := by
  unfold State.swapCheck
  try dsimp only
  repeat' split
  all_goals simp (maxDischargeDepth := 40) [arm_queue, hQ, h]

@[simp] theorem Stable.startSequence (h : Holds Q s.view) (a : Arm) (c : SlotCopy) : Holds Q (s.startSequence a c).view := by
  unfold State.startSequence
  try dsimp only
  repeat' split
  all_goals simp (maxDischargeDepth := 40) [arm_queue, hQ, h]

@[simp] theorem Stable.startHead (h : Holds Q s.view) (a : Arm) (c : SlotCopy) : Holds Q (s.startHead a c).view := by
  simp (maxDischargeDepth := 40) [State.startHead, arm_queue, hQ, h]

@[simp] theorem Stable.startKind (h : Holds Q s.view) (a : Arm) (k : Option Kind) : Holds Q (s.startKind a k).view := by
  unfold State.startKind
  try dsimp only
  repeat' split
  all_goals simp (maxDischargeDepth := 40) [arm_queue, hQ, h]

@[simp] theorem Stable.refresh (h : Holds Q s.view)  : Holds Q (s.refresh).view := by
  unfold State.refresh
  generalize State.nextOdd (s.shm.get 512) = odd
  generalize s.pageContents = l
  have h1 := hQ.write s.view 512 odd h
  have h2 := hQ.writePlaced h1 l
  exact hQ.write _ 512 (odd + 1) h2

@[simp] theorem Stable.refreshCut (h : Holds Q s.view) (n : Nat) : Holds Q (s.refreshCut n).view := by
  unfold State.refreshCut
  generalize State.nextOdd (s.shm.get 512) = odd
  generalize s.pageContents.take n = l
  have h1 := hQ.write s.view 512 odd h
  exact hQ.writePlaced h1 l

theorem Stable.resetSame (h : Holds Q s.view)  : Holds Q (s.resetWith s.shm).view := by
  exact hQ.reset s.view h _ (.inl rfl)

theorem Stable.resetZero (h : Holds Q s.view)  : Holds Q (s.resetWith []).view := by
  exact hQ.reset s.view h _ (.inr rfl)

@[simp] theorem Stable.hostReset (h : Holds Q s.view) (c : Option Nat) : Holds Q (s.hostReset c).view := by
  unfold State.hostReset
  split
  · split
    · exact hQ.reset _ (hQ.refreshCut h _) _ (.inl rfl)
    · exact hQ.resetSame h
  · exact hQ.resetSame h

@[simp] theorem Stable.runTime (h : Holds Q s.view) (c : StartCopy) (rd : Duo (Tri Reading)) : Holds Q (s.runTime c rd).view := by
  exact hQ.reset s.view h _ (.inl rfl)

@[simp] theorem Stable.enterRun (h : Holds Q s.view)  : Holds Q (s.enterRun).view := by
  have h1 : Holds Q ({ s with device := .run, refreshDue := true }.setNotice .started).view := h
  unfold State.enterRun
  dsimp only
  split
  · exact hQ.stopLineArm (hQ.stopLineArm (by exact h1) _) _
  · exact h1

@[simp] theorem Stable.startFailed (h : Holds Q s.view) (i : Nat) : Holds Q (s.startFailed i).view := by
  exact hQ.putWord h 0 (startResult 3 i)

@[simp] theorem Stable.startPassed (h : Holds Q s.view) (rd : Duo (Tri Reading)) : Holds Q (s.startPassed rd).view := by
  exact hQ.enterRun (hQ.putWord (hQ.runTime h _ _) _ _)

@[simp] theorem Stable.holdArm (h : Holds Q s.view) (a : Arm) : Holds Q (s.holdArm a).view := by
  unfold State.holdArm
  try dsimp only
  repeat' split
  all_goals simp (maxDischargeDepth := 40) [arm_queue, hQ, h]

@[simp] theorem Stable.releaseArm (h : Holds Q s.view) (a : Arm) : Holds Q (s.releaseArm a).view := by
  unfold State.releaseArm
  try dsimp only
  repeat' split
  all_goals simp (maxDischargeDepth := 40) [arm_queue, hQ, h]

@[simp] theorem Stable.stopActivated (h : Holds Q s.view) (a : Arm) : Holds Q ((s.setStop true).stopActivated a).view := by
  have h1 : Holds Q ((s.setStop true).setStopState .active false).view := hQ.fall s.view h
  unfold State.stopActivated
  dsimp only
  split
  · exact hQ.settle (hQ.stopLineArm (hQ.swapBetween (hQ.stopLineArm (by exact h1) _)) _)
  · exact h1

/-! ## Every command, and every step -/

omit hQ in
theorem next_inj {s t : State} (h : (Host.Outcome.next s : Host.Outcome State Fault Refusal) = .next t) : s = t := by
  injection h

theorem Stable.exec (h : Holds Q s.view) (c : Instr) {t : State} (ht : Sys2Proof.Machine.exec c s = .next t) :
    Holds Q t.view := by
  cases c <;> simp only [Sys2Proof.Machine.exec] at ht
  case powerOnReset => exact next_inj ht ▸ hQ.resetZero h
  case reset cut => exact next_inj ht ▸ hQ.hostReset h cut
  case start =>
    refine next_inj ht ▸ ?_
    split
    · exact hQ.putWord h 0 (startResult 1 0)
    · exact h
  case startValidationEnd rd =>
    refine next_inj ht ▸ ?_
    split
    · split
      · exact hQ.startFailed h _
      · exact hQ.startPassed h _
    · exact h
  case holdSet a =>
    refine next_inj ht ▸ ?_
    repeat' split
    all_goals simp (maxDischargeDepth := 40) [arm_queue, hQ, h]
  case holdClear a =>
    refine next_inj ht ▸ ?_
    repeat' split
    all_goals simp (maxDischargeDepth := 40) [arm_queue, hQ, h]
  case abort a =>
    refine next_inj ht ▸ ?_
    split <;> simp (maxDischargeDepth := 40) [arm_queue, hQ, h]
  case post v =>
    refine next_inj ht ▸ ?_
    repeat' split
    all_goals exact h
  case noticeRead => exact next_inj ht ▸ h
  case noticeMaskWrite v => exact next_inj ht ▸ h
  case registerWriteIgnored o v => exact next_inj ht ▸ h
  case sharedMemoryWrite i w =>
    unfold execSharedMemoryWrite at ht
    split at ht
    · exact next_inj ht ▸ hQ.putWord h i w
    · cases ht
  case laneExamine l =>
    refine next_inj ht ▸ ?_
    split
    · split
      · exact hQ.fill (by exact h) _
      · exact h
    · split
      · exact hQ.fill (by exact h) _
      · exact h
    · split
      · exact hQ.svcLook (by exact h)
      · exact h
    · exact h
  case stageSet => exact next_inj ht ▸ hQ.serveKind h _ _ fun c => hQ.stageSet h c
  case swapSet => exact next_inj ht ▸ hQ.serveKind h _ _ fun _ => hQ.swapSet h
  case setSensor => exact next_inj ht ▸ hQ.serveKind h _ _ fun c => hQ.thermalRequest h c
  case setGroup => exact next_inj ht ▸ hQ.serveKind h _ _ fun c => hQ.thermalRequest h c
  case setZone => exact next_inj ht ▸ hQ.serveKind h _ _ fun c => hQ.setZone h c
  case setProbe => exact next_inj ht ▸ hQ.serveKind h _ _ fun c => hQ.setProbe h c
  case readProbe => exact next_inj ht ▸ hQ.serveKind h _ _ fun c => hQ.readProbe h c
  case setPort => exact next_inj ht ▸ hQ.serveKind h _ _ fun c => hQ.setPort h c
  case clearFault => exact next_inj ht ▸ hQ.serveKind h _ _ fun c => hQ.clearFault h c
  case reopenLane => exact next_inj ht ▸ hQ.serveKind h _ _ fun c => hQ.reopenLane h c
  case serviceBadKind =>
    refine next_inj ht ▸ ?_
    split
    · split
      · exact hQ.svcAnswer h _
      · exact h
    · exact h
  case move a => exact next_inj ht ▸ hQ.startKind h a _
  case dwell a => exact next_inj ht ▸ hQ.startKind h a _
  case waitStable a => exact next_inj ht ▸ hQ.startKind h a _
  case setFrame a => exact next_inj ht ▸ hQ.startKind h a _
  case setLatch a => exact next_inj ht ▸ hQ.startKind h a _
  case home a => exact next_inj ht ▸ hQ.startKind h a _
  case probePoint a => exact next_inj ht ▸ hQ.startKind h a _
  case qualify a => exact next_inj ht ▸ hQ.startKind h a _
  case identify a => exact next_inj ht ▸ hQ.startKind h a _
  case changeProbe a => exact next_inj ht ▸ hQ.startKind h a _
  case motionBadKind a => exact next_inj ht ▸ hQ.startKind h a _
  case zoneArbiterDecision => exact next_inj ht ▸ hQ.settle (hQ.zoneDecide h)
  case tick f rd =>
    refine next_inj ht ▸ ?_
    split
    · exact hQ.tickBoth h f rd
    · exact h
  case scanBegin =>
    refine next_inj ht ▸ ?_
    split
    · exact hQ.scanBegin h
    · exact h
  case sampleComplete n =>
    refine next_inj ht ▸ ?_
    split
    · exact h
    · exact hQ.sampleDone h _
  case historyExpiry a =>
    refine next_inj ht ▸ ?_
    split
    · exact h
    · exact hQ.stabilityReport (hQ.stabilityReport (by exact h) _) _
  case extInChange i x =>
    refine next_inj ht ▸ ?_
    split
    · exact h
    · exact hQ.lineChange (hQ.lineChange (hQ.setExt h i x) _ _ _) _ _ _
  case stopInFall a =>
    refine next_inj ht ▸ ?_
    split
    · exact h
    · split
      · exact hQ.stopActivated h a
      · exact hQ.fall s.view h
  case stopInRise =>
    refine next_inj ht ▸ ?_
    split
    · exact h
    · split
      · rename_i hs
        exact hQ.riseActive s.view hs h
      · rename_i hs
        exact hQ.rise s.view hs h
  case stopRelease =>
    refine next_inj ht ▸ ?_
    split
    · rename_i hr
      exact hQ.released s.view hr h
    · exact h
  case refreshTimerExpiry =>
    refine next_inj ht ▸ ?_
    split
    · exact hQ.refresh h
    · exact h
  case pendingRefresh =>
    refine next_inj ht ▸ ?_
    split
    · exact hQ.refresh h
    · exact h
  all_goals
    refine next_inj ht ▸ ?_
    repeat' split
    all_goals simp (maxDischargeDepth := 40) [arm_queue, hQ, h]

/-- One step keeps what the primitive changes keep. -/
theorem Stable.step (h : Holds Q s.view) {t : State} (ht : Sys2Proof.Machine.step s = .next t) : Holds Q t.view := by
  unfold Sys2Proof.Machine.step at ht
  split at ht
  · exact next_inj ht ▸ h
  · exact hQ.exec (by exact h) _ ht

end holds

end Sys2Proof.Machine
end

