-- ==== Sys2Proof/Laws/Swap.lean ====
section
/-! SUPPORT. What the barrier test between two arms can do, said once (R20). -/

namespace Sys2Proof.Machine

/-- With no swap pending the barrier test changes nothing. -/
theorem State.swapBetween_idle {s : State} (h : s.corr.swapPending = false) : s.swapBetween = s := by
  simp [State.swapBetween, State.swapReady, h]

/-- While an arm executes the barrier test changes nothing. -/
theorem State.swapBetween_executing {s : State} {a : Arm} (h : s.executing a = true) : s.swapBetween = s := by
  cases a <;> simp [State.swapBetween, State.swapReady, h]

/-- Only an arm that is ACTIVE in WAIT_SWAP, with no swap pending, is released. -/
theorem State.swapReleased_iff (s : State) (a : Arm) : s.swapReleased a = true ↔
    (s.arm a).state = .active ∧ (s.arm a).phase = .waitSwap ∧ s.corr.swapPending = false := by
  simp [State.swapReleased, and_assoc]

/-- A release lets nobody go, or one arm from its swap check, the counter of free values read where both could go. -/
theorem State.swapRelease_cases (s : State) :
    (s.swapRelease = none ∧ ∀ a, s.swapReleased a = false) ∨
      (∃ a, s.swapReleased a = true ∧ s.swapReleased a.other = false ∧ s.swapRelease = some (s.passSwap a)) ∨
      ∃ a, (∀ x, s.swapReleased x = true) ∧ s.swapRelease = some ({ s with free := s.free + 1 }.passSwap a) := by
  unfold State.swapRelease
  cases ha : s.swapReleased .A <;> cases hb : s.swapReleased .B
  · exact .inl ⟨rfl, fun a => by cases a <;> assumption⟩
  · exact .inr (.inl ⟨.B, hb, ha, rfl⟩)
  · exact .inr (.inl ⟨.A, ha, hb, rfl⟩)
  · exact .inr (.inr ⟨_, fun a => by cases a <;> assumption, rfl⟩)

/-- The barrier test of a ready swap: the swap takes effect and releases no arm, one arm, or one of two arms. -/
theorem State.swapBetween_cases (s : State) :
    (s.swapBetween = s ∧ s.swapReady = false) ∨
      (s.swapReady = true ∧
        ((s.swapBetween = s.doSwap ∧ ∀ a, s.doSwap.swapReleased a = false) ∨
          (∃ a, s.doSwap.swapReleased a = true ∧ s.doSwap.swapReleased a.other = false ∧
            s.swapBetween = s.doSwap.passSwap a) ∨
          ∃ a, (∀ x, s.doSwap.swapReleased x = true) ∧
            s.swapBetween = { s.doSwap with free := s.doSwap.free + 1 }.passSwap a)) := by
  unfold State.swapBetween
  cases h : s.swapReady
  · exact .inl ⟨rfl, rfl⟩
  · refine .inr ⟨rfl, ?_⟩
    rcases s.doSwap.swapRelease_cases with ⟨e, k⟩ | ⟨a, k, l, e⟩ | ⟨a, k, e⟩
    · exact .inl ⟨by simp [e], k⟩
    · exact .inr (.inl ⟨a, k, l, by simp [e]⟩)
    · exact .inr (.inr ⟨a, k, by simp [e]⟩)

end Sys2Proof.Machine
end

