-- ==== Sys2Proof/Laws/Zone.lean ====
section
/-! SUPPORT. What the release test can do, said once (R73, R77, R78). -/

namespace Sys2Proof.Machine

/-- A position clears the zone box exactly where it does not lie inside it. -/
theorem State.clears_iff (s : State) (a : Arm) (v : Vec) : s.clears a v ↔ (s.zoneBox a).inside v = false := by
  unfold State.clears State.zoneBox Box.inside
  rw [Bool.eq_false_iff, ne_eq, Bool.and_eq_true, Bool.and_eq_true, Bool.and_eq_true, decide_eq_true_iff, decide_eq_true_iff,
    decide_eq_true_iff, decide_eq_true_iff]
  dsimp only
  omega

/-- A release leaves the holder FREE where the other arm does not wait, and changes nothing else. -/
theorem State.zoneRelease_idle {s : State} {a : Arm} (h : s.zone.waits.get a.other = .idle) :
    s.zoneRelease a = { s with zone := { s.zone with holder := none } } := by
  simp [State.zoneRelease, State.zoneWaiting, h]

/-- A release gives the grant to the other arm where it waits. -/
theorem State.zoneRelease_waiting {s : State} {a : Arm} (h : s.zone.waits.get a.other ≠ .idle) :
    s.zoneRelease a = s.zoneGrant a.other := by
  simp [State.zoneRelease, State.zoneWaiting, h]

/-- The release test keeps the state, or the holder stands outside its box, its next block does not need the zone, and it
gives the grant up. -/
theorem State.releaseTest_cases (s : State) (a : Arm) (needs : Bool) :
    (s.releaseTest a needs = s ∧ (s.holdsGrant a = false ∨ ¬ s.clears a (s.arm a).cmd ∨ needs = true)) ∨
      (s.releaseTest a needs = s.zoneRelease a ∧ s.holdsGrant a = true ∧ s.clears a (s.arm a).cmd ∧ needs = false) := by
  rw [State.clears_iff]
  unfold State.releaseTest
  cases s.holdsGrant a <;> cases (s.zoneBox a).inside (s.arm a).cmd <;> cases needs <;> simp

/-- The release test of an arm whose grant no other arm waits for leaves what `State.tested` says. -/
theorem State.releaseTest_tested (s : State) (a : Arm) (needs : Bool) (h : s.unasked a = true) :
    s.tested (s.releaseTest a needs) a (s.arm a).cmd (some needs) := by
  rcases s.releaseTest_cases a needs with ⟨e, k⟩ | ⟨e, k, c, n⟩
  · rw [e]
    refine ⟨rfl, fun hold out no => ?_, fun _ => rfl⟩
    rcases k with k | k | k
    · simp [State.holdsGrant, hold] at k
    · exact absurd out k
    · simp [k] at no
  · have w : s.zone.waits.get a.other = .idle := by simpa [State.unasked, k] using h
    rw [e, State.zoneRelease_idle w]
    refine ⟨rfl, fun _ _ _ => rfl, fun kept => ?_⟩
    rcases kept with kept | kept | kept
    · simp [State.holdsGrant] at k; exact absurd k kept
    · exact absurd c kept
    · simp [n] at kept

end Sys2Proof.Machine
end

