-- ==== Sys2Proof/Tests/Slice0.lean ====
section
/-! SUPPORT. Tests: ill-formed commands are refused, single steps against values that the spec gives, and for every statement
with hypotheses a concrete state and operands that meet them all. -/

namespace Sys2Proof.Tests
set_option Elab.async false
open Sys2Proof.Machine

/-! ## Helpers -/

/-- The next state, or the state itself where there is none. -/
def after (c : Instr) (s : State) : State :=
  match exec c s with
  | .next t => t
  | _ => s

/-- The command has a next state. -/
def completes (c : Instr) (s : State) : Bool :=
  match exec c s with
  | .next _ => true
  | _ => false

/-- A slot copy: its index, kind, tag, options and body from word 4 on. -/
def copyOf (index kind tag options : Nat) (body : List Int) : SlotCopy :=
  ⟨index, [natWord (2 + kind * 256 + tag * 65536), natWord options, 0, 0] ++ body.map intWord⟩

/-- Soft limits wide enough for the worked cases. -/
def axisSet : AxisSet := ⟨-10000000, 60000000, 0, false, 100000⟩

/-- The arm of 3.11, with a seat timeout of 500 ms. -/
def armSettings : ArmSet := ⟨⟨axisSet, axisSet, axisSet⟩, 500000, 30000, 3000000, 200000, 5000000, 500, 50, .machine⟩

/-- Both arms referenced and IDLE in RUN, the stop line high and released, the lanes open, the zone boxes far away. -/
def base : State := { State.reset with
  device := .run
  settings := ⟨1000, ⟨armSettings, armSettings⟩, 100⟩
  unit := { State.reset.unit with stop := .released }
  lanes := ⟨⟨2048, 16, 0, false⟩, ⟨2560, 16, 0, false⟩⟩
  svcLane := ⟨3072, 8, 0, false⟩
  zone := { Zone.reset with boxes := ⟨⟨40000000, 50000000, 0, 20000000⟩, ⟨40000000, 50000000, 0, 20000000⟩⟩, limit := 5000 }
  pins := { Pins.undriven with stopLow := false, hseatLow := ⟨false, false⟩ }
  arms := ⟨{ ArmRec.reset false with state := .idle, referenced := true },
    { ArmRec.reset false with state := .idle, referenced := true }⟩ }

/-- Arm A changed. -/
def withA (f : ArmRec → ArmRec) : State := base.modArm .A f

/-- A block at the head of arm A's queue. -/
def headA (c : SlotCopy) (s : State := base) : State := s.modArm .A fun r => { r with queue := [c] }

/-- The service engine executes a request. -/
def serve (c : SlotCopy) (s : State := base) : State := { s with svc := some ⟨c, false⟩ }

/-- A latch unit allocated to arm A. -/
def owned : LatchUnit := { LatchUnit.reset with alloc := some .A }

/-- Units 0 to 15 allocated to arm A. -/
def ownedA (s : State := base) : State := { s with latches := Vector.replicate 16 owned }

/-- A probe record of arm A, qualified, at a place. -/
def probeAt (loc : Location) : Probe :=
  { Probe.blank with serial := 52001, qual := .qualified, loc := loc, lastPort := some 2 }

/-- Record 3 mounted on arm A, record 6 in port 4, port 2 empty, port 4 holding record 6 (8.7). -/
def mountedA (s : State := ownedA) : State := { s with
  tables := {
    probes := ((Tables.reset.probes.set 3 (probeAt (.mounted .A))).set 6
      { probeAt (.inPort 4) with serial := 52014, lastPort := some 4 })
    ports := (Tables.reset.ports.set 2 { Port.reset with state := .empty, approach := ⟨4000, 3000, 1000⟩, coverUnit := 12 }).set 4
      { Port.reset with state := .occupied 6, approach := ⟨5000, 3000, 1000⟩, coverUnit := 13 } } }.modArm .A fun r =>
        { r with mounted := .probe 3 }

/-- A segment of 1,003 counts along X. -/
def segment : Seg := Seg.between ⟨0, 0, 0⟩ ⟨1003, 0, 0⟩ 19660 19660 0 0

/-- A MOVE block without PASS, in slot 3. -/
def moveCopy : SlotCopy := copyOf 3 1 7 1 [300, 1, 1003, 2004, 500]

/-- Arm A executes a block in a phase, at rest. -/
def executing (c : SlotCopy) (p : Phase) (s : State := base) : State := s.modArm .A fun r =>
  { r with state := .active, phase := p, exec := some (s.startedBlock .A c .machine) }

/-- Arm A runs along the segment of a MOVE. -/
def movingA (s : State := base) : State := (executing moveCopy .moving s).modArm .A fun r =>
  { r with moving := true, seg := segment, exec := r.exec.map fun b => { b with targets := [⟨1003, 0, 0⟩] } }

/-- The drives answer the setpoints. -/
def follow (s : State) : Duo (Tri Reading) := ⟨(s.arm .A).cmd.map some, (s.arm .B).cmd.map some⟩

/-- Arm A's segment with a velocity, at a distance from its end. -/
def atGap (v gap : Nat) (s : State) : State := s.modArm .A fun r => { r with seg := { r.seg with v := v, pos := r.seg.total - gap } }

/-- The slot of a copy fits. -/
def fits (s : State) (c : SlotCopy) : Bool :=
  s.shm.wf && decide ((s.lanes.get .A).slotBase c.index + 32 ≤ 65536) && (s.arm .A).queue.all (·.index != c.index)

theorem slotFits_of_fits (s : State) (c : SlotCopy) : fits s c = true → s.slotFits .A c := by
  simp +contextual [fits, State.slotFits]

/-- Arm A holds the grant, its box elsewhere; its box around it. -/
def grantA (s : State) : State := { s with zone := { s.zone with holder := some .A, last := some .A } }
def insideA (s : State) : State :=
  let g := grantA s
  { g with zone := { g.zone with boxes := s.zone.boxes.set .A ⟨-10000000, 60000000, -10000000, 60000000⟩ } }

/-- A MOVE with which arm B waits for the grant of arm A. -/
def waitingBlock : Block :=
  { Block.fresh (copyOf 4 1 8 1 [300, 1, 5000, 600, 0]) with passed := true, targets := [⟨5000, 600, 0⟩] }
def waitingB (s : State) : State :=
  let g := grantA s
  { g with zone := { g.zone with waits := ⟨.idle, .waiting 7⟩ } }.modArm .B fun r =>
    { r with state := .active, phase := .waitZone, exec := some waitingBlock }

/-- Arm B waits so. -/
def asks (s : State) : Bool :=
  let r := s.arm .B
  r.state == .active && r.phase == .waitZone && r.exec == some waitingBlock && !r.moving && r.due == none && !r.holdLevel &&
    s.zone.waits.get .B != .idle && (s.legOf .B waitingBlock).len != 0

theorem waitsToMove_of_asks (s : State) (h : asks s = true) : s.waitsToMove .B waitingBlock := by
  have k : waitingBlock.slot.kind = some .move := by decide
  simp only [asks, Bool.and_eq_true, beq_iff_eq, bne_iff_ne, Bool.not_eq_true'] at h
  simp_all [State.waitsToMove]

/-- The standings of the grant in which a block of arm A ends: not held, held outside the box and inside it, and asked for
by arm B outside and inside the box. -/
def grants (s : State) : List State := [s, grantA s, insideA s, waitingB s, insideA (waitingB s)]

/-- Arm A may release at a tick of which arm B has the first part. -/
def releases (s : State) : Bool := s.unasked .A || asks s

theorem mayRelease_of_releases (s : State) (h : releases s = true) : s.mayRelease .B .A := by
  rcases Bool.or_eq_true _ _ ▸ h with h | h
  · exact .inl h
  · exact .inr ⟨rfl, _, waitsToMove_of_asks s h⟩

/-- Arm A, ACTIVE, not HOLDING and with no committed block, meets a tick at which it may release the grant, in a block that
passed step 2, whose slot is that of the copy and fits, and of which a test holds. -/
def meets (s : State) (c : SlotCopy) (p : Block → Bool) : Bool :=
  s.meetsTick .A (follow s) && (s.arm .A).state == .active && !(s.arm .A).holding && !(s.arm .A).holdLevel &&
    (s.arm .A).committed == none && fits s c && releases s &&
    (s.arm .A).exec.any fun b => b.slot == c && b.passed && b.limitHit == none && p b

/-- The first segment that a block's start plans. -/
def firstSeg (s : State) (a : Arm) (b : Block) (i feed : Nat) : Seg :=
  let f := perTickFeed s.settings.period (min feed (s.armSet a).maxFeed)
  Seg.between (s.arm a).cmd (b.target i) f f 0 0

/-! ## Ill-formed commands -/

theorem test_reset_cut_80_refused : WellFormed (.reset (some 80)) = false := by decide
theorem test_start_reading_refused :
    WellFormed (.startValidationEnd ⟨⟨some 2147483648, none, none⟩, ⟨none, none, none⟩⟩) = false := by decide
theorem test_tick_reading_refused :
    WellFormed (.tick .A ⟨⟨none, none, none⟩, ⟨none, none, some (-2147483649)⟩⟩) = false := by decide
theorem test_write_to_control_refused : WellFormed (.registerWriteIgnored 0x04 1) = false := by decide
theorem test_write_to_post_refused : WellFormed (.registerWriteIgnored 0x0C 1) = false := by decide
theorem test_write_to_mask_refused : WellFormed (.registerWriteIgnored 0x14 1) = false := by decide
theorem test_word_65536_refused : WellFormed (.sharedMemoryWrite 65536 1) = false := by decide

/-! ## Single steps against the spec's values -/

/-- 12.9: IDENT reads 0A726002h. -/
theorem test_ident : base.readRegister 0 = 0x0A726002 := by decide +kernel

/-- 3.11: the first tick of the segment adds 30,000 counts/s² at a period of 1 ms, which is 1,966 per tick². -/
theorem test_first_tick_velocity : (((after (.tick .A (follow movingA)) movingA).arm .A).seg).v = 1966 := by decide +kernel

/-- 1.8: the inputs of the capture on XA, one component. -/
def capture18 : ChainInputs :=
  ⟨⟨strain 45097 448, 0, 0⟩, strain 98784 512, some ⟨stretch 250000 (strain 49393 128), 0, 0⟩, ⟨2000000, 0, 0⟩,
    ⟨⟨3008, .valid⟩, ⟨2560, .valid⟩, ⟨2560, .valid⟩⟩, ⟨2816, .valid⟩, ⟨3072, .valid⟩⟩

/-- 1.8: m is 12,346,132 and r is 10,595,160. -/
theorem test_capture_chain : (capture18.toMachine ⟨12345678, 0, 0⟩).x = 12346132 ∧
    (capture18.toPart ⟨12345678, 0, 0⟩).map Tri.x = some 10595160 := by decide +kernel

/-- 1.9: the target 10,595,160 comes back to 12,345,678. -/
theorem test_target_chain : (capture18.fromPart ⟨10595160, 0, 0⟩).map Tri.x = some 12345678 := by decide +kernel

/-- 2.7: channel 12 with k = 2, value 2816; gain 65,536 and offset 0 make a code its temperature. -/
def channel12 : Channel := ⟨true, 0, 65536, 0, 4080, 256, 2, 3, 10, .valid, 2816, 0⟩

/-- 2.7: the five scans of channel 12. -/
theorem test_channel_filters : ((channel12.sample 2860).value = 2827) ∧
    (((channel12.sample 2860).sample 2880).value = 2840) ∧
    ((((channel12.sample 2860).sample 2880).sample 4095).state = .suspect) ∧
    ((((((channel12.sample 2860).sample 2880).sample 4095).sample 3300).sample 2890).value = 2853) := by decide +kernel

/-- 2.7: the group means, 2828.5 rounded to 2829 and 2841.5 to 2842. -/
theorem test_group_mean : (({ Group.reset with members := [12, 13] } : Machine.Group).evaluated [2827, 2830] none).temp = 2829 ∧
    (({ Group.reset with members := [12, 13] } : Machine.Group).evaluated [2853, 2830] none).temp = 2842 := by decide +kernel

/-- 3.11: the tenth tick stands at 108,130 of the path, at (1001, 2001, 500). -/
theorem test_tenth_tick : ({ Seg.between ⟨1000, 2000, 500⟩ ⟨1003, 2004, 500⟩ 19660 19660 0 0 with pos := 88470, v := 17694 }.step
    1966) = { Seg.between ⟨1000, 2000, 500⟩ ⟨1003, 2004, 500⟩ 19660 19660 0 0 with pos := 108130, v := 19660 } ∧
    { Seg.between ⟨1000, 2000, 500⟩ ⟨1003, 2004, 500⟩ 19660 19660 0 0 with pos := 108130 }.position = ⟨1001, 2001, 500⟩ := by
  decide +kernel

/-- 6.4: the start and the search end of the flange touch. -/
def flange : SlotCopy := copyOf 4 7 9 2
  [5000000, 2000000, 1000000, 11585, 53951, 20000, 10000, 3000, 200000, 20000, 5]

theorem test_probe_positions : flange.probeStart = ⟨4985858, 2000000, 1014142⟩ ∧
    flange.probeEnd = ⟨5007071, 2000000, 992929⟩ := by decide +kernel

/-- 6.6: touch W of the sphere, as quill positions. -/
theorem test_touch_plan : (Sphere.plan ⟨⟨4000000, 1500000, 800000⟩, 125000, 50000, 30000, ⟨0, 0, -1800000⟩, 15000⟩ ⟨1, 0, 0⟩) =
    ⟨⟨3810000, 1500000, 2790000⟩, ⟨3810000, 1500000, 2600000⟩, ⟨3860000, 1500000, 2600000⟩, ⟨3890000, 1500000, 2600000⟩⟩ := by
  decide +kernel

/-- 12.10: the identity of serial 52,014, kind TOUCH, has checksum 5 and is readable. -/
theorem test_identity : judge .readId ([1, 1, 0x2E, 0xCB] ++ List.replicate 27 0 ++ [5]) = none ∧
    identity? ([1, 1, 0x2E, 0xCB] ++ List.replicate 27 0 ++ [5]) = some (52014, .touch) := by decide +kernel

/-- 4.7: with no last holder the tie goes to arm A. -/
theorem test_zone_tie :
    (after .zoneArbiterDecision { base with zone := { base.zone with request := ⟨true, true⟩ } }).zone.holder = some .A := by
  decide +kernel

/-- 8.8: the stop line during the lock: record 6 and port 4 become UNKNOWN, the mounted value UNVERIFIED. -/
def lockingA : State :=
  let s : State := { mountedA with tables := mountedA.tables.setPortState 2 (.occupied 3) }
  let s : State := { s with tables := s.tables.setLoc 3 (Location.inPort 2) }
  (executing (copyOf 3 10 7 0 [6, 400000, 40000]) (.changing .engage .fetch) s).modArm .A fun r => { r with
    mounted := .none
    seatLow := true
    link := { r.link with engine := .replyWait, cmd := .lock }
    exec := r.exec.map fun b => { b with change := ⟨some 6, some 3, some 4, some 2, 0, 0, none⟩ } }

theorem test_stop_line_in_lock :
    let t := after (.stopInFall .A) lockingA
    (t.arm .A).state = .fault ∧ (t.arm .A).mounted = .unverified ∧ t.tables.probes[6].loc = .unknown ∧
      t.tables.ports[4].state = .unknown ∧ t.tables.probes[3].loc = Location.inPort 2 ∧ t.unit.notices = 0x259 := by
  decide +kernel

/-- R133, 12.10: UNLOCK sends 3Dh and C2h, least significant bit first, each between a low start bit and an even parity bit
with a high stop bit. -/
theorem test_unlock_levels : LinkCmd.unlock.levels =
    [false, true, false, true, true, true, true, false, false, true, true,
      false, false, true, false, false, false, false, true, true, true, true] := by decide +kernel

/-- R89, R91: a HOME refused at step 1, its unit above 15, reports the referenced flags and the commanded position. -/
theorem test_home_refused_result :
    let s := (headA (copyOf 3 6 7 0 [16])).modArm .A fun r =>
      { r with cmd := ⟨5, -6, 7⟩, axes := r.axes.set .Y { r.axes.y with referenced := true } }
    let t := after (.home .A) s
    field (t.shm.get (2048 + 96)) 0 8 = 4 ∧ t.shm.readList (2048 + 96 + 27) 4 = [2, 5, natWord 0xFFFFFFFA, 7] := by decide +kernel

/-- R88, R177: ALLOCATE CAPTURE with an unknown compare axis is BAD_FIELD (12.3), with a known one it is done. -/
theorem test_allocate_bad_axis :
    let t (axis : Int) := after (.setLatch .A) (headA (copyOf 3 5 7 0 [15, 0, 0, 0, 0, axis, 0, 0, 0]))
    field ((t 3).shm.get (2048 + 96)) 0 8 = 4 ∧ field ((t 3).shm.get (2048 + 98)) 8 8 = FaultCode.badField.code ∧
      field ((t 2).shm.get (2048 + 96)) 0 8 = 3 := by decide +kernel

/-- R53, R98: the first segment of a MOVE has ended at a tick with the arm at rest; a touch is no collision there, and the
second segment begins at the next tick. -/
def betweenSegs : State := (movingA mountedA).modArm .A fun r => { r with
  seg := { r.seg with v := 65536, pos := r.seg.total - 1 }
  exec := r.exec.map fun b => { b with targets := [⟨1003, 0, 0⟩, ⟨1003, 500, 0⟩] } }

theorem test_next_segment_waits :
    let rd : Duo (Tri Reading) := ⟨⟨some 1003, some 0, some 0⟩, ⟨some 0, some 0, some 0⟩⟩
    let t := after (.tick .A rd) betweenSegs
    let u := after (.trigChange .A true) t
    (t.arm .A).moving = false ∧ (u.arm .A).state = .active ∧
      ((after (.tick .A rd) u).arm .A).moving = true := by decide +kernel

/-! ## Witnesses: the machine as a whole -/

/-- A queue of one command. -/
def queued (c : Instr) (s : State := base) : State := { s with pending := [c] }

theorem witness_StepRunsFrontCommand : (queued .start).pending = .start :: [] := rfl

/-- The state that each of the five laws starts from meets them all and takes a step. -/
theorem witness_StepKeepsLaws : ∃ s t : State, s.shm.wf = true ∧ s.queuesBounded = true ∧ s.latchesLawful = true ∧
    s.zoneLawful = true ∧ s.stopLineLawful = true ∧ step s = .next t ∧ t.shm ≠ s.shm :=
  ⟨queued (.sharedMemoryWrite 5 7), _, by decide +kernel, by decide +kernel, by decide +kernel, by decide +kernel,
    by decide +kernel, rfl, by decide +kernel⟩

theorem witness_DeviceStateMoves : completes .start State.reset = true ∧
    (after .start State.reset).device ≠ State.reset.device := by decide +kernel

theorem witness_ActiveSetOnlyExchanged : completes .swapSet (serve (copyOf 0 0x12 1 0 [])) = true := by decide +kernel

theorem witness_HostWriteReachesOneWord : base.shm.wf = true ∧ 65535 < 65536 ∧ 65536 ≤ 65536 := by decide +kernel

theorem witness_RegisterWindowBehaves : 2 < (3 : Word).toNat ∧ 0x14 < 0x15 := by decide

theorem witness_ResetLeavesOddPageCount : ({ base with refreshDue := true } : State).shm.wf = true ∧
    ({ base with refreshDue := true } : State).device = .run ∧ 0 ≤ 79 ∧ 79 ≤ 79 ∧
    ({ base with refreshTimer := some 100 } : State).refreshDue = false ∧
    ({ base with refreshTimer := some 100 } : State).refreshTimer ≠ none := by decide +kernel

/-- The Start Record of 3.11's machine. -/
def record : List Word := List.map intWord <|
  [0, 1, 1000, 2048, 16, 2560, 16, 3072, 8] ++ List.replicate 7 0 ++
  [-250000, 60000000, -200000, 1, 100000, 0, 25000000, 5000000, 0, 100000, -1000000, 30000000, 30000000, 0, 100000] ++
  [-250000, 60000000, -200000, 1, 100000, 0, 25000000, 5000000, 0, 100000, -1000000, 30000000, 30000000, 0, 100000] ++
  [0, 0, 500000, 30000, 3000000, 200000, 5000000, 40000000, 50000000, 1000, 20000000, 500, 50] ++ List.replicate 5 0 ++
  [500000, 30000, 3000000, 200000, 5000000, 40000000, 50000000, 1000, 20000000, 500, 50] ++ List.replicate 5 0 ++
  [1, 2, 1000, 30, 100, 5000] ++ List.replicate 7 0

/-- CHECKING, with a copy of a Start Record. -/
def checking (r : List Word) : State := { base with device := .checking, copied := r }

theorem witness_StartChecksTheRecord_start : State.reset.device = .stopped ∧ base.device ≠ .stopped := by decide +kernel

/-- Index 1 fails on an empty record; index 61 alone fails with α_wp at 131,072. -/
theorem witness_StartChecksTheRecord_fails : (checking []).device = .checking ∧ StartCopy.test (checking []).copied 1 = false ∧
    StartCopy.test (record.set 92 131072) 61 = false ∧
    ∀ j, 1 ≤ j → j < 61 → StartCopy.test (record.set 92 131072) j = true := by
  refine ⟨by decide +kernel, by decide +kernel, by decide +kernel, ?_⟩
  have h : ((List.range 61).all fun j => j == 0 || StartCopy.test (record.set 92 131072) j) = true := by decide +kernel
  intro j h1 h2
  have := List.all_eq_true.mp h j (List.mem_range.mpr h2)
  simpa [show (j == 0) = false by simp; omega] using this

theorem record_passes : ∀ j, 1 ≤ j → j ≤ 61 → StartCopy.test record j = true := by
  have h : ((List.range 62).all fun j => j == 0 || StartCopy.test record j) = true := by decide +kernel
  intro j h1 h2
  have := List.all_eq_true.mp h j (List.mem_range.mpr (by omega))
  simpa [show (j == 0) = false by simp; omega] using this

theorem witness_StartEstablishesRun : (checking record).device = .checking ∧ (checking record).pins.stopLow = false ∧
    ∀ j, 1 ≤ j → j ≤ 61 → StartCopy.test (checking record).copied j = true :=
  ⟨by decide +kernel, by decide +kernel, record_passes⟩

/-- The stop line low. -/
def lineLow (s : State) : State := { s with pins := { s.pins with stopLow := true } }

theorem witness_StartUnderStopLineFaults : (lineLow (checking record)).device = .checking ∧
    (lineLow (checking record)).pins.stopLow = true ∧
    ∀ j, 1 ≤ j → j ≤ 61 → StartCopy.test (lineLow (checking record)).copied j = true :=
  ⟨by decide +kernel, by decide +kernel, record_passes⟩

/-! ## Witnesses: the stop line, hold and abort -/

theorem witness_StopLineFaultsStandingArms : base.calm = true ∧ base.device = .run ∧ base.unit.stop = .released ∧
    base.pins.stopLow = false ∧ ∀ a, (base.arm a).exec = none ∧ (base.arm a).probeLost = false ∧
      ((base.arm a).state = .idle ∨ (base.arm a).state = .unreferenced ∨ (base.arm a).state = .held) ∧
      ((base.lanes.get a).paused = true → (base.arm a).queue = []) :=
  ⟨by decide +kernel, by decide +kernel, by decide +kernel, by decide +kernel, fun a => by cases a <;> decide +kernel⟩

/-- Arm A moves with a verified probe. -/
def watched : State := (movingA mountedA).modArm .A fun r => { r with seg := { r.seg with v := 1966, pos := 1966 } }

/-- Arm A in HOLDING, in the stop phase of a touch, in STOPPING, in FAULT, and HELD along its segment. -/
def watchedHolding : State := watched.modArm .A fun r =>
  { r with holdLevel := true, holding := true, holdPhase := some .moving, seg := { r.seg with v := 3932, pos := 6000 } }
def braking : State := watched.modArm .A fun r => { r with phase := .touchStop, seg := { r.seg with v := 300000, pos := 900000 } }
def stoppingA : State := braking.modArm .A fun r => r.stopping .stopLine
def faultedA : State := base.modArm .A fun r => { r with state := .fault, axes := r.axes.map fun p => { p with count := 9 } }
def heldA : State := movingA.modArm .A fun r => { r with state := .held, holdLevel := true, holdPhase := some .moving }

theorem witness_StopLineFaultsStandingArms_moving : watched.settled = true ∧ watched.device = .run ∧
    watched.unit.stop = .released ∧ watched.pins.stopLow = false ∧ (watched.arm .A).exec ≠ none ∧
    (watched.arm .A).state = .active ∧ (watched.arm .A).moving = true ∧ 0 < (watched.arm .A).seg.v ∧
    (watched.arm .A).phase ≠ .waitSwap ∧ (watched.lanes.get .A).paused = false := by decide +kernel

/-- A dwell of 600 s and of 0. -/
def dwellCopy : SlotCopy := copyOf 3 2 7 0 [600000]
def dwellZero : SlotCopy := copyOf 3 2 7 0 [0]
/-- Arm A dwells. -/
def dwelling : State := (executing dwellCopy .dwelling).modArm .A fun r => { r with dwellTimer := some 600000 }

theorem witness_StopLineFaultsStandingArms_resting : dwelling.calm = true ∧ dwelling.device = .run ∧
    dwelling.unit.stop = .released ∧ dwelling.pins.stopLow = false ∧ dwelling.restingBlock .A = true ∧
    (dwelling.arm .A).exec ≠ none ∧ (dwelling.arm .A).committed = none ∧ dwelling.shm.wf = true ∧
    (dwelling.lanes.get .A).slotBase 3 + 32 ≤ 65536 ∧ (dwelling.lanes.get .A).paused = false ∧
    (dwelling.arm .B).exec = none ∧ (dwelling.arm .B).committed = none ∧ (dwelling.arm .B).queue = [] ∧
    (dwelling.arm .B).state ≠ .stopping ∧ (dwelling.arm .B).due = none ∧ dwelling.zone.holder ≠ some .B ∧
    (grantA dwelling).restingBlock .A = true ∧ (insideA dwelling).restingBlock .A = true := by decide +kernel

/-- Arm A dwells and arm B waits in WAIT_SWAP with a SET_FRAME; a swap is pending. -/
def swapAtStop : State :=
  { dwelling with corr := { dwelling.corr with staged := { dwelling.corr.staged with wp := 7 }, swapPending := true } }.modArm .B
    fun r => { r with
      state := .active
      phase := .waitSwap
      exec := some (dwelling.startedBlock .B (copyOf 4 4 8 1 [100, -200, 300]) .machine) }

theorem witness_StopLineFaultsStandingArms_swap : swapAtStop.settled = true ∧ swapAtStop.device = .run ∧
    swapAtStop.unit.stop = .released ∧ swapAtStop.pins.stopLow = false ∧ swapAtStop.corr.swapPending = true ∧
    swapAtStop.restingBlock .A = true ∧ (swapAtStop.arm .B).state = .active ∧ (swapAtStop.arm .B).phase = .waitSwap ∧
    (swapAtStop.arm .B).exec.any (fun b => b.slot.kind == some .setFrame) = true := by decide +kernel

/-- R20: taken first, the stop of the dwelling arm lets the swap take effect and the SET_FRAME complete DONE; taken second, it
leaves the SET_FRAME to end FAULTED in WAIT_SWAP, and the swap follows once both arms stand in FAULT. -/
theorem test_stop_line_swap_order :
    let t := after (.stopInFall .A) swapAtStop
    let u := after (.stopInFall .B) swapAtStop
    (t.arm .B).frameOffset = ⟨100, -200, 300⟩ ∧ field (t.shm.get (2560 + 128)) 0 8 = slotDone ∧ t.corr.active.wp = 7 ∧
      (u.arm .B).frameOffset = ⟨0, 0, 0⟩ ∧ field (u.shm.get (2560 + 128)) 0 8 = slotFaulted ∧ u.corr.active.wp = 7 := by
  decide +kernel

theorem witness_StopLineReleaseIsFiltered : State.reset.pins.stopLow = true ∧
    ({ base with unit := { base.unit with stop := .active, releaseTimer := true } } : State).pins.stopLow = false ∧
    ({ base with unit := { base.unit with stop := .active, releaseTimer := true } } : State).unit.stop = .active ∧
    ({ base with unit := { base.unit with stop := .active, releaseTimer := true } } : State).unit.releaseTimer = true := by
  decide +kernel

/-- Arm A with its hold level set. -/
def holdA (s : State) : State := s.modArm .A fun r => { r with holdLevel := true }

theorem witness_HoldLevelActsByStanding_set : (base.arm .A).holdLevel = false ∧ base.device = .run ∧
    (base.arm .A).state = .idle ∧ (movingA.arm .A).holdLevel = false ∧ movingA.device = .run ∧ movingA.settled = true ∧
    (movingA.arm .A).state = .active ∧ (movingA.arm .A).moving = true ∧ (movingA.arm .A).phase.brakes = false ∧
    State.reset.device ≠ .run ∧ (State.reset.arm .A).holdLevel = false ∧
    ((braking.arm .A).holdLevel = false ∧ braking.device = .run ∧ braking.settled = true ∧ (braking.arm .A).state = .active ∧
      (braking.arm .A).moving = true ∧ (braking.arm .A).phase.brakes = true) ∧
    (stoppingA.arm .A).holdLevel = false ∧ (stoppingA.arm .A).state = .stopping ∧ (faultedA.arm .A).holdLevel = false ∧
    (faultedA.arm .A).state = .fault := by decide +kernel

/-- At rest mid-block: in each part of the start sequence, and in each wait, a capture unit of the arm armed by the block
beside one that is not. -/
theorem witness_HoldLevelActsByStanding_atRest :
    let swap := ({ executing moveCopy .waitSwap with corr := { base.corr with swapPending := true } } : State).modArm .B fun r =>
      { r with state := .active, phase := .dwelling, exec := some (Block.fresh moveCopy) }
    (swap.device = .run ∧ swap.settled = true ∧ (swap.arm .A).holdLevel = false ∧ (swap.arm .A).state = .active ∧
      (swap.arm .A).moving = false ∧ (swap.arm .A).due = none ∧ (swap.arm .A).phase = .waitSwap) ∧
    (∀ p ∈ [Phase.startCheck, .waitZone, .dwelling, .waitingStable, .identifying, .changing .engage .fetch],
      let s := (executing moveCopy p ownedA).setUnit 5 { owned with state := .armed, armedBy := .block 3 }
      s.device = .run ∧ s.settled = true ∧ (s.arm .A).holdLevel = false ∧ (s.arm .A).state = .active ∧
        (s.arm .A).moving = false ∧ (s.arm .A).due = none ∧ (s.arm .A).phase = p ∧ s.latches[(5 : Fin 16)].alloc = some .A ∧
        s.latches[(5 : Fin 16)].mode = .capture ∧ s.latches[(5 : Fin 16)].armedBy = .block 3 ∧
        s.latches[(6 : Fin 16)].armedBy = .none) := by decide +kernel

theorem witness_HoldLevelActsByStanding_clear :
    let held := holdA (withA fun r => { r with state := .held })
    let mid := holdA (movingA.modArm .A fun r => { r with state := .held })
    (held.device = .run ∧ (held.arm .A).holdLevel = true ∧ (held.arm .A).state = .held ∧ (held.arm .A).exec = none) ∧
    (mid.device = .run ∧ (mid.arm .A).holdLevel = true ∧ mid.settled = true ∧ (mid.arm .A).state = .held ∧
      (mid.arm .A).exec ≠ none ∧ (mid.arm .A).phase = .moving ∧ (mid.arm .A).moving = true) ∧
    (holdA movingA).device = .run ∧ ((holdA movingA).arm .A).state = .active := by decide +kernel

/-- Arm A held mid-block with its hold level set, its units its own. -/
def heldIn (c : SlotCopy) (p : Phase) (s : State := ownedA) : State := (executing c p s).modArm .A fun r => { r with
  state := .held
  holdLevel := true
  holdPhase := some p
  exec := r.exec.map fun b => { b with targets := (List.range 20).map fun i => ⟨50 * i + 10, 50, 0⟩ } }

/-- Held in a wait, before a first segment with the grant taken, and along a search, with TRIG inactive and active. -/
theorem witness_HoldLevelActsByStanding_held :
    let due := (heldIn moveCopy .waitZone).modArm .A fun r => { r with due := some .stepSix }
    let along (c : SlotCopy) (p : Phase) : State :=
      (heldIn c p).modArm .A fun r => { r with moving := true, seg := Tests.segment }
    let home : SlotCopy := copyOf 3 6 7 0 [2]
    let touch : SlotCopy := copyOf 3 7 9 1 [5000000, 2000000, 1000000, 11585, 53951, 20000, 10000, 3000, 200000, 20000, 5]
    let qualify : SlotCopy := copyOf 3 8 9 0 [4000000, 1500000, 800000, 125000, 50000, 30000, 20000, 9, 10]
    let searches := [(along home (.homeSearch .X), some (2 : Fin 16)), (along touch .search, some 5),
      ((along touch .search).setTrig .A true, some 5), (along qualify (.touch 0 .search), some 9),
      ((along qualify (.touch 0 .search)).setTrig .A true, some 9)]
    (∀ p ∈ [Phase.dwelling, .waitingStable, .identifying, .changing .engage .fetch],
      let s := heldIn dwellCopy p
      s.device = .run ∧ (s.arm .A).holdLevel = true ∧ s.settled = true ∧ (s.arm .A).state = .held ∧
        (s.arm .A).exec ≠ none ∧ (s.arm .A).moving = false ∧ (s.arm .A).due = none ∧ (s.arm .A).phase = p) ∧
    (due.device = .run ∧ (due.arm .A).holdLevel = true ∧ due.settled = true ∧ (due.arm .A).state = .held ∧
      moveCopy.kind = some .move ∧ (due.arm .A).moving = false ∧ (due.arm .A).due = some .stepSix ∧
      (due.arm .A).phase ≠ .waitSwap ∧
      ((due.arm .A).exec.map fun b => b.slot == moveCopy && (due.legOf .A b).len != 0) = some true) ∧
    ∀ w ∈ searches, w.1.device = .run ∧ (w.1.arm .A).holdLevel = true ∧ w.1.settled = true ∧ (w.1.arm .A).state = .held ∧
      (w.1.arm .A).moving = true ∧ (w.1.arm .A).due = none ∧ (w.1.arm .A).exec.any (fun b => b.unit == w.2 &&
        (firstSeg w.1 .A b 0 1).len != 0 && (firstSeg w.1 .A b (3 * b.qual.k + 1) 1).len != 0) = true := by decide +kernel

theorem witness_AbortActsByStanding :
    let faulted := withA fun r => { r with state := .fault }
    let resting := executing (copyOf 3 2 7 0 [5]) .dwelling
    State.reset.device ≠ .run ∧ (faulted.settled = true ∧ (faulted.arm .A).state = .fault) ∧
    (base.device = .run ∧ base.settled = true ∧ (base.arm .A).state ≠ .fault ∧ (base.arm .A).state ≠ .stopping ∧
      (base.arm .A).exec = none ∧ (base.lanes.get .A).paused = false ∧ base.shm.wf = true) ∧
    (resting.calm = true ∧ resting.device = .run ∧ resting.restingBlock .A = true ∧ (resting.arm .A).exec ≠ none ∧
      (resting.arm .A).committed = none ∧ resting.shm.wf = true ∧ (resting.lanes.get .A).slotBase 3 + 32 ≤ 65536) := by
  decide +kernel

theorem witness_AbortActsByStanding_stopping :
    let s := movingA.modArm .A fun r => { r with state := .stopping, cause := some .abort }
    s.settled = true ∧ (s.arm .A).state = .stopping := by decide +kernel

/-- Two blocks wait in arm A's queue. -/
def abortQueue : State := withA fun r => { r with queue := [moveCopy, copyOf 4 1 8 0 []] }

theorem witness_AbortActsByStanding_queue : (abortQueue.arm .A).queue ≠ [] ∧
    ((abortQueue.arm .A).queue.map SlotCopy.index).Nodup ∧
    ∀ c ∈ (abortQueue.arm .A).queue, (abortQueue.lanes.get .A).slotBase c.index + 4 ≤ 65536 := by decide +kernel

theorem witness_AbortActsByStanding_moving : watched.settled = true ∧ watched.device = .run ∧
    (watched.arm .A).exec ≠ none ∧ (watched.arm .A).state = .active ∧ (watched.arm .A).moving = true ∧
    0 < (watched.arm .A).seg.v ∧ (watched.lanes.get .A).paused = false := by decide +kernel

/-! ## Witnesses: lanes, slots and the service engine -/

/-- All three lanes posted. -/
def posted (s : State := base) : State := { s with unit := { s.unit with posts := ⟨true, true, true⟩ } }

/-- A POSTED slot of kind MOVE at arm A's cursor. -/
def slotPosted : State := { base with shm := [(2048, 0x00070101)] }

theorem witness_LaneExaminationActs : posted.device = .run ∧ posted.unit.posts.motionA = true ∧
    posted.unit.posts.motionB = true ∧ posted.unit.posts.service = true ∧ posted.svcLane.paused = false ∧ posted.svc = none ∧
    State.reset.device ≠ .run := by decide +kernel

theorem witness_FillTakesPostedSlot_none : (State.reset.lanes.get .A).paused = true ∧
    8 ≤ ((withA fun r => { r with queue := List.replicate 8 moveCopy }).arm .A).queue.length ∧
    (base.lanes.get .A).posted base.shm = false := by decide +kernel

theorem witness_FillTakesPostedSlot_takes :
    let s := slotPosted.modArm .A fun r => { r with queue := List.replicate 7 moveCopy }
    let l := s.lanes.get .A
    l.paused = false ∧ (s.arm .A).queue.length = 7 ∧ l.posted s.shm = true ∧ s.holdsSlot .A l.cursor = false ∧
      s.shm.wf = true ∧ l.base + 32 * l.cursor + 32 ≤ 65536 := by decide +kernel

/-- Slot 3 of a lane whose fourth slot is the last of the window; twelve words. -/
theorem witness_CompletionWritesSlot : base.shm.wf = true ∧ (List.replicate 12 (7 : Word)).length ≤ 12 ∧
    (({ base with lanes := base.lanes.set .A ⟨65408, 4, 0, false⟩ } : State).lanes.get .A).slotBase moveCopy.index + 32 ≤
      65536 := by decide +kernel

theorem witness_BlockFaultEndsBlock :
    let s := (executing moveCopy .startCheck).modArm .A fun r => { r with queue := [copyOf 4 1 8 0 []] }
    (∀ g ∈ grants s, (g.arm .A).exec ≠ none ∧ (g.lanes.get .A).paused = false ∧ g.shm.wf = true ∧
      (g.lanes.get .A).slotBase 3 + 32 ≤ 65536 ∧ ∀ c ∈ (g.arm .A).queue, c.index ≠ 3) ∧
    (grantA s).unasked .A = true ∧ (waitingB s).unasked .A = false ∧ (insideA (waitingB s)).unasked .A = false ∧
    (waitingB s).clears .A ⟨0, 0, 0⟩ ∧ ¬ (insideA (waitingB s)).clears .A ⟨0, 0, 0⟩ := by
  unfold State.clears
  decide +kernel

theorem witness_ServiceAnswerCompletes :
    let s := serve (copyOf 7 0x17 1 0 [3])
    s.svc = some ⟨copyOf 7 0x17 1 0 [3], false⟩ ∧ s.shm.wf = true ∧ s.svcLane.slotBase 7 + 32 ≤ 65536 ∧
      s.svcLane.posted s.shm = false ∧ (Answer.done (List.replicate 12 1)).words.length ≤ 12 ∧
      (Answer.refused .badField).words.length ≤ 12 := by decide +kernel

/-! ## Witnesses: service requests -/

/-- Seven coefficients, at both ends of their range. -/
def stageCopy : SlotCopy := copyOf 0 0x11 1 0 [-131072, 131071, 0, 0, 0, 0, 131071]
/-- The last one out of range. -/
def stageBad : SlotCopy := copyOf 0 0x11 1 0 [0, 0, 0, 0, 0, 0, 131072]

theorem witness_StageSetChecksThenStages : (serve stageCopy).serving .stageSet stageCopy = true ∧
    (∀ k, k < 7 → -131072 ≤ stageCopy.int (4 + k) ∧ stageCopy.int (4 + k) ≤ 131071) ∧
    (serve stageBad).serving .stageSet stageBad = true ∧
    (∃ k, k < 7 ∧ (stageBad.int (4 + k) < -131072 ∨ 131071 < stageBad.int (4 + k))) := by
  refine ⟨by decide +kernel, by decide +kernel, by decide +kernel, 6, by decide +kernel, by decide +kernel⟩

/-- A SWAP_SET. -/
def swapCopy : SlotCopy := copyOf 0 0x12 1 0 []

theorem witness_SwapSetPendsOrSwaps :
    let pending := serve swapCopy { base with corr := { base.corr with swapPending := true } }
    let idle := serve swapCopy
    let busy := serve swapCopy movingA
    (pending.serving .swapSet swapCopy = true ∧ pending.corr.swapPending = true) ∧
    (idle.serving .swapSet swapCopy = true ∧ idle.calm = true) ∧
    (busy.serving .swapSet swapCopy = true ∧ busy.calm = true ∧ (busy.arm .A).exec ≠ none) := by decide +kernel

theorem witness_SwapSetPendsOrSwaps_arms :
    (∀ a, ((serve swapCopy).arm a).exec = none ∧ ((serve swapCopy).arm a).state ≠ .active) ∧
    (∀ a, ((serve swapCopy movingA).arm a).phase ≠ .waitSwap ∧ ((serve swapCopy movingA).arm a).phase ≠ .waitZone) :=
  ⟨fun a => by cases a <;> decide +kernel, fun a => by cases a <;> decide +kernel⟩

/-- Arm B dwells; a swap is pending. -/
def dwellB (s : State) : State := s.modArm .B fun r =>
  { r with state := .active, phase := .dwelling, dwellTimer := some 5, exec := some (Block.fresh (copyOf 1 2 8 0 [5])) }
def pendingSwap (s : State) : State := { s with corr := { s.corr with swapPending := true } }
/-- Arm A waits for the zone behind arm B; the swap set is asked for. -/
def zoneSwap : State := serve swapCopy { executing moveCopy .waitZone with
  zone := { base.zone with holder := some .B, last := some .B, waits := ⟨.waiting 5000, .idle⟩ } }

theorem witness_SwapSetPendsOrSwaps_zone :
    (∀ s ∈ [dwellB zoneSwap, zoneSwap], s.serving .swapSet swapCopy = true ∧ s.calm = true ∧ (s.arm .A).exec ≠ none ∧
      (s.arm .A).state = .active ∧ (s.arm .A).phase = .waitZone ∧ (s.arm .A).due = none) ∧
    (dwellB zoneSwap).executing .B = true ∧ ((dwellB zoneSwap).arm .B).phase ≠ .waitZone ∧
    (zoneSwap.arm .B).exec = none := by decide +kernel

/-- Step 2 lets a head go on. -/
def goesOn (s : State) (a : Arm) (c : SlotCopy) : Bool :=
  match s.stepOne a c with
  | .ok b =>
    match s.stepTwo a b with
    | .go _ => true
    | _ => false
  | .error _ => false

theorem witness_SwapSetPendsOrSwaps_start :
    let s := dwellB (pendingSwap (headA moveCopy))
    s.settled = true ∧ s.corr.swapPending = true ∧ s.startable .A = some moveCopy ∧ (s.arm .A).due = none ∧
      s.executing .B = true ∧ goesOn s .A moveCopy = true := by decide +kernel

/-- Arm B dwells and arm A waits behind it for the swap with a DWELL. -/
def swapWaiting : State := dwellB (pendingSwap (executing (copyOf 3 2 7 0 [600000]) .waitSwap))

theorem witness_SwapSetPendsOrSwaps_leaves :
    let s := swapWaiting
    s.settled = true ∧ s.corr.swapPending = true ∧ (s.arm .B).dwellTimer = some 5 ∧ s.unasked .B = true ∧
      (s.arm .A).state = .active ∧ (s.arm .A).phase = .waitSwap ∧
      ((s.arm .A).exec.map fun b => (b.slot.kind == some .dwell) && b.slot.nat 4 != 0) = some true ∧
      (s.arm .A).due = none ∧ (s.arm .A).moving = false ∧ (s.arm .A).holdLevel = false := by decide +kernel

/-- SET_SENSOR of channel 31, of no channel, and not listed. -/
def sensorCopy : SlotCopy := copyOf 0 0x13 1 0 [31, 1, 0, 65536, 0, 4080, 256, 2, 3, 10]
def sensorBad : SlotCopy := copyOf 0 0x13 1 0 [32]
def sensorOff : SlotCopy := copyOf 0 0x13 1 0 [31, 0]
/-- SET_GROUP of group 9 with two members. -/
def groupCopy : SlotCopy := copyOf 0 0x14 1 0 [9, 2, 12, 13, 0, 0, 255]

theorem witness_SensorAndGroupApplied : (serve sensorCopy).serving .setSensor sensorCopy = true ∧
    sensorCopy.nat 4 = (31 : Fin 32).val ∧ sensorCopy.nat 5 = 1 ∧ sensorCopy.sensorSettingsOk = true ∧
    (serve sensorCopy).therm.scan = none ∧ (serve sensorOff).serving .setSensor sensorOff = true ∧
    sensorOff.nat 4 = (31 : Fin 32).val ∧ sensorOff.nat 5 = 0 ∧ (serve sensorBad).serving .setSensor sensorBad = true ∧
    32 ≤ sensorBad.nat 4 := by decide +kernel

theorem witness_SensorAndGroupApplied_group : (serve groupCopy).serving .setGroup groupCopy = true ∧
    groupCopy.nat 4 = (9 : Fin 10).val ∧ groupCopy.groupMembers = some [12, 13] ∧ ([12, 13] : List (Fin 32)).Nodup ∧
    1 ≤ groupCopy.nat 10 ∧ groupCopy.nat 10 ≤ 255 ∧
    (∀ h : Fin 10, h ≠ 9 → ∀ m ∈ ([12, 13] : List (Fin 32)), m ∉ (serve groupCopy).therm.groups[h].members) ∧
    (serve groupCopy).therm.scan = none := by decide +kernel

theorem witness_SensorAndGroupApplied_held :
    let s := serve sensorOff { base with therm := { base.therm with scan := some [3] } }
    s.serving .setSensor sensorOff = true ∧ s.therm.scan = some [3] := by decide +kernel

theorem witness_SensorAndGroupApplied_otherGroup :
    let other : Thermal := { base.therm with groups := base.therm.groups.set 6 { Group.reset with members := [12] } }
    let s := serve groupCopy { base with therm := other }
    s.serving .setGroup groupCopy = true ∧ s.therm.scan = none ∧
      (∃ h : Fin 10, h ≠ 9 ∧ ∃ m ∈ ([12, 13] : List (Fin 32)), m ∈ s.therm.groups[h].members) ∧
      (serve groupCopy { base with therm := { other with scan := some [3] } }).serving .setGroup groupCopy = true := by
  decide +kernel

/-- SET_ZONE for arm A: just inside the soft limits, on a soft limit, and for no arm. -/
def zoneCopy : SlotCopy := copyOf 0 0x15 1 0 [0, 40000001, 59999999, -9999999, 59999999]
def zoneOut : SlotCopy := copyOf 0 0x15 1 0 [0, 40000001, 60000000, -9999999, 59999999]
def zoneNone : SlotCopy := copyOf 0 0x15 1 0 [2, 0, 0, 0, 0]

theorem witness_SetZoneReplacesBox :
    let ax := (base.armSet .A).axes
    let b : Box := ⟨zoneCopy.int 5, zoneCopy.int 6, zoneCopy.int 7, zoneCopy.int 8⟩
    ((serve zoneNone).serving .setZone zoneNone = true ∧ 2 ≤ zoneNone.nat 4) ∧
    (serve zoneCopy).serving .setZone zoneCopy = true ∧ zoneCopy.nat 4 = Arm.A.code ∧
    (b.xlo ≤ b.xhi ∧ b.ylo ≤ b.yhi ∧ ax.x.lo < b.xlo ∧ b.xhi < ax.x.hi ∧ ax.y.lo < b.ylo ∧ b.yhi < ax.y.hi) ∧
    (base.zone.holder = none ∧ base.zone.waits = ⟨.idle, .idle⟩ ∧ (base.arm .A).exec = none ∧ ¬ (b.xlo ≤ (base.arm .A).cmd.x)) ∧
    ({ base with zone := { base.zone with holder := some .B } } : State).zone.holder ≠ none ∧
    ((serve zoneOut).serving .setZone zoneOut = true ∧ zoneOut.nat 4 = Arm.A.code ∧ ¬ zoneOut.int 6 < ax.x.hi) := by
  decide +kernel

/-- SET_PROBE: record 7 into the empty port 2; record 3, which is mounted. -/
def probeCopy : SlotCopy := copyOf 0 0x16 1 0 [7, 81004, 1 + 65536 + 2 * 16777216, 0, 0, -1800000, 15000, 0, 384, 2560, 1, 255]
def probeMounted : SlotCopy := copyOf 0 0x16 1 0 [3, 81004, 1, 0, 0, -1800000, 15000, 0, 384, 2560, 1, 255]
/-- SET_PORT of port 11; READ_PROBE of record 23 and of no record. -/
def portCopy : SlotCopy := copyOf 0 0x18 1 0 [11, 2, 4000000, 3000000, 10000000, 4000000, 3000000, 8000000, 15, 2, 3000000, 1]
def readCopy : SlotCopy := copyOf 0 0x17 1 0 [23]
def readBad : SlotCopy := copyOf 0 0x17 1 0 [24]

theorem witness_ProbeAndPortRequests_probe :
    (serve probeCopy mountedA).serving .setProbe probeCopy = true ∧
    ((serve probeCopy mountedA).probeRequest probeCopy).map (serve probeCopy mountedA).probeRefusal = some none ∧
    ((serve probeCopy mountedA).probeRequest probeCopy).map (fun q => q.record.loc) = some (Location.inPort 2) ∧
    (serve probeMounted mountedA).serving .setProbe probeMounted = true ∧
    ((serve probeMounted mountedA).probeRequest probeMounted).map (serve probeMounted mountedA).probeRefusal =
      some (some .probeInUse) := by decide +kernel

theorem witness_ProbeAndPortRequests_port : (serve portCopy).serving .setPort portCopy = true ∧
    (portRequest portCopy).map (fun q => (serve portCopy).portInUse q.index) = some false ∧
    (serve readCopy).serving .readProbe readCopy = true ∧ readCopy.nat 4 = (23 : Fin 24).val ∧
    (serve readBad).serving .readProbe readBad = true ∧ 24 ≤ readBad.nat 4 := by decide +kernel

/-- SET_PORT of port 4 while a change uses it. -/
def portUsed : SlotCopy := copyOf 0 0x18 1 0 [4, 2, 0, 0, 0, 0, 0, 0, 15, 2, 3000000, 1]

theorem witness_ProbeAndPortRequests_used : (serve portUsed lockingA).serving .setPort portUsed = true ∧
    (portRequest portUsed).map (fun q => (serve portUsed lockingA).portInUse q.index) = some true := by decide +kernel

/-- A SET_PROBE of record `i` with serial 81,004, its word 6 and state, and one word of its body replaced. -/
def probeOf (i w6 state : Int) (word : Nat := 5) (value : Int := 81004) : SlotCopy :=
  let c := copyOf 0 0x16 1 0 [i, 81004, w6, 0, 0, -1800000, 15000, 0, 384, 2560, state, 255]
  { c with words := c.words.set word (intWord value) }
/-- An edge of every field of SET_PROBE and of SET_PORT: refused there. -/
def badProbes : List SlotCopy := [probeOf 24 1 1, probeOf 7 1 1 5 0, probeOf 7 1 1 5 52001, probeOf 7 0 1, probeOf 7 3 1,
  probeOf 7 513 1, probeOf 7 131073 1, probeOf 7 100728833 1, probeOf 7 1 1 15 6, probeOf 7 1 1 7 16777217,
  probeOf 7 1 1 8 (-16777217), probeOf 7 1 1 9 16777217, probeOf 7 1 1 10 16777217, probeOf 7 1 1 11 (-131073),
  probeOf 7 1 1 11 131072, probeOf 7 1 1 12 0, probeOf 7 1 1 12 10241, probeOf 7 1 1 13 (-2561), probeOf 7 1 1 13 7681,
  probeOf 7 1 2]
def portOf (word : Nat) (value : Int) : SlotCopy :=
  let c := copyOf 0 0x18 1 0 [11, 2, 0, 0, 0, 0, 0, 0, 15, 2, 3000000, 1]
  { c with words := c.words.set word (intWord value) }
def badPorts : List SlotCopy := [portOf 4 12, portOf 5 4, portOf 6 536870913, portOf 11 (-536870913), portOf 12 16,
  portOf 13 3, portOf 14 536870913, portOf 15 2]

theorem witness_ProbeAndPortRequests_badField :
    (∀ c ∈ badProbes, (serve c mountedA).serving .setProbe c = true ∧ (serve c mountedA).probeRequest c = none) ∧
    (∀ c ∈ badPorts, (serve c mountedA).serving .setPort c = true ∧ portRequest c = none) ∧
    ((probeOf 7 1 1 5 52001).nat 5 = mountedA.tables.probes[(3 : Fin 24)].serial ∧ 24 ≤ (probeOf 24 1 1).nat 4) ∧
    536870912 < ((portOf 11 (-536870913)).int (6 + 5)).natAbs := by decide +kernel

/-- SET_PROBE: record 6 while a change fetches it; record 7 into port 2, to which that change stows; record 7 into the
DISABLED port 5; record 6, which stands in port 4, to UNKNOWN. SET_PORT: port 4, which holds record 6, EMPTY and KEEP. -/
theorem witness_ProbeAndPortRequests_tables :
    let asked (s : State) (c : SlotCopy) : Option (Fin 24 × Location × Option (Fin 12)) :=
      (s.probeRequest c).map fun q => (q.index, q.record.loc, q.record.lastPort)
    asked lockingA (probeOf 6 1 1) = some (6, .absent, none) ∧
    ((lockingA.changeOf .A).map fun g => (g.target, g.stowPort)) = some (some 6, some 2) ∧
    asked lockingA (probeOf 7 33619969 0) = some (7, .inPort 2, some 2) ∧
    asked mountedA (probeOf 7 83951617 1) = some (7, .inPort 5, some 5) ∧
    mountedA.tables.ports[(5 : Fin 12)].state = .disabled ∧
    asked mountedA (probeOf 6 196609 1) = some (6, .unknown, none) ∧
    mountedA.tables.probes[(6 : Fin 24)].loc = Location.inPort 4 ∧
    mountedA.tables.ports[(4 : Fin 12)].state = .occupied 6 ∧
    (portRequest (portOf 4 4)).isSome = true ∧ (portRequest (portOf 5 0)).isSome = true := by decide +kernel

/-- A SCANNING_TOUCH of arm B in port 11, port FFh not examined; a record ABSENT with port 0, and UNKNOWN with none, as its
last port. -/
theorem witness_ProbeAndPortRequests_words :
    let asked (c : SlotCopy) (p : Probe → Bool) : Bool := (mountedA.probeRequest c).any fun q => p q.record
    asked (probeOf 7 (2 + 256 + 65536 + 11 * 16777216) 1) (fun p => p.kind == .scanningTouch && p.arm == .B &&
      p.loc == .inPort 11 && p.lastPort == some 11) = true ∧
    asked (probeOf 7 1 1 15 0) (fun p => p.kind == .touch && p.arm == .A && p.loc == .absent && p.lastPort == some 0) = true ∧
    asked (probeOf 7 (1 + 3 * 65536) 1) (fun p => p.loc == .unknown && p.lastPort == none) = true := by decide +kernel

/-- CLEAR_FAULT and REOPEN_LANE of arm A; cursor 15 is the last slot, 16 is none. -/
def clearCopy : SlotCopy := copyOf 0 0x19 1 0 [0]
def reopenCopy : SlotCopy := copyOf 0 0x1A 1 0 [0, 15]
def reopenBad : SlotCopy := copyOf 0 0x1A 1 0 [0, 16]

theorem witness_ClearFaultAndReopen_clear :
    let fault := serve clearCopy (withA fun r => { r with state := .fault })
    let active := { fault with unit := { fault.unit with stop := .active } }
    (fault.serving .clearFault clearCopy = true ∧ clearCopy.nat 4 = Arm.A.code ∧ fault.settled = true ∧
      fault.unit.stop = .released ∧ (fault.arm .A).state = .fault) ∧
    (active.serving .clearFault clearCopy = true ∧ active.settled = true ∧ active.unit.stop = .active) ∧
    ((serve clearCopy).serving .clearFault clearCopy = true ∧ (serve clearCopy).settled = true ∧
      (serve clearCopy).unit.stop = .released ∧ ((serve clearCopy).arm .A).state ≠ .fault) := by decide +kernel

theorem witness_ClearFaultAndReopen_reopen :
    let fault := serve reopenCopy (withA fun r => { r with state := .fault })
    ((serve reopenBad).serving .reopenLane reopenBad = true ∧ reopenBad.nat 4 = Arm.A.code ∧
      ((serve reopenBad).lanes.get .A).count ≤ reopenBad.nat 5) ∧
    (fault.serving .reopenLane reopenCopy = true ∧ reopenCopy.nat 5 < (fault.lanes.get .A).count ∧
      (fault.arm .A).state = .fault) ∧
    ((serve reopenCopy).serving .reopenLane reopenCopy = true ∧ ((serve reopenCopy).arm .A).state ≠ .fault ∧
      ((serve reopenCopy).arm .A).exec = none ∧ ((serve reopenCopy).arm .A).committed = none ∧
      ((serve reopenCopy).arm .A).queue = []) := by decide +kernel

/-- Arm 2 does not exist. -/
theorem witness_ClearFaultAndReopen_badField :
    let clear := copyOf 0 0x19 1 0 [2]
    let reopen := copyOf 0 0x1A 1 0 [2, 0]
    2 ≤ clear.nat 4 ∧ (serve clear).serving .clearFault clear = true ∧
      2 ≤ reopen.nat 4 ∧ (serve reopen).serving .reopenLane reopen = true := by decide +kernel

/-- An executing block, a committed one, a block in the queue. -/
theorem witness_ClearFaultAndReopen_wrongState :
    let own := serve reopenCopy movingA
    let committed := serve reopenCopy (withA fun r => { r with committed := some (Block.fresh moveCopy) })
    let queue := serve reopenCopy (headA moveCopy)
    (∀ s ∈ [own, committed, queue], s.serving .reopenLane reopenCopy = true ∧
      reopenCopy.nat 5 < (s.lanes.get .A).count) ∧
    (own.arm .A).exec ≠ none ∧ (committed.arm .A).committed ≠ none ∧ (queue.arm .A).queue ≠ [] := by decide +kernel

/-! ## Witnesses: block starts -/

/-- A slot of no motion kind; a MOVE with a count of 5. -/
def oddKind : SlotCopy := copyOf 3 0x11 7 0 []
def moveFive : SlotCopy := copyOf 3 1 7 1 [300, 5]

/-- Step 1 refuses a block with a fault. -/
def refuses (s : State) (a : Arm) (c : SlotCopy) (f : FaultCode) : Bool :=
  match s.stepOne a c with
  | .error g => g == f
  | .ok _ => false

theorem witness_BadKindsRefused :
    ((headA oddKind).boundary .A oddKind = true ∧ (headA oddKind).unasked .A = true ∧ oddKind.kind = none) ∧
    ((headA moveFive).boundary .A moveFive = true ∧ (headA moveFive).unasked .A = true ∧
      refuses (headA moveFive) .A moveFive .badField = true) ∧
    (serve moveCopy).svc = some ⟨moveCopy, false⟩ ∧
    ∀ k ∈ [0x11, 0x12, 0x13, 0x14, 0x15, 0x16, 0x17, 0x18, 0x19, 0x1A], moveCopy.kindCode ≠ k := by decide +kernel

/-- Step 2 refuses a head with a fault. -/
def refusesTwo (s : State) (a : Arm) (c : SlotCopy) (f : FaultCode) : Bool :=
  match s.stepOne a c with
  | .ok b => s.stepTwo a b == .refuse f
  | .error _ => false

/-- Step 4 refuses a head with a fault. -/
def refusesFour (s : State) (a : Arm) (c : SlotCopy) (f : FaultCode) : Bool :=
  match s.stepOne a c with
  | .ok b =>
    match s.stepTwo a b with
    | .go b2 => (s.bind a b2).2 == some f
    | _ => false
  | .error _ => false

/-- The heads of every refusal of step 2, with the standing that refuses them. -/
def refusedTwo : List (FaultCode × SlotCopy × State) :=
  let touch : SlotCopy := copyOf 3 7 9 1 [5000000, 2000000, 1000000, 11585, 53951, 20000, 10000, 3000, 200000, 20000, 5]
  let home : SlotCopy := copyOf 3 6 7 0 [2]
  let change (p : Int) : SlotCopy := copyOf 3 10 7 0 [p, 400000, 40000]
  let head (c : SlotCopy) (s : State) : SlotCopy × State := (c, headA c s)
  let mount (m : Mounted) (s : State := mountedA) : State := s.modArm .A fun r => { r with mounted := m }
  [(.notReferenced, head moveCopy (withA fun r => { r with referenced := false, state := .unreferenced })),
    (.noProbe, head touch (mount .none)), (.mountUnknown, head touch (mount .unverified)),
    (.mountUnknown, head touch (mount .foreign)),
    (.notQualified, head touch { mountedA with tables := mountedA.tables.modProbe 3 fun p => { p with qual := .new } }),
    (.latchNotOwned, head home base), (.latchBusy, head home (ownedA.setUnit 2 { owned with state := .fired })),
    (.probeEngaged, head touch (mountedA.setTrig .A true)), (.noProbe, head (copyOf 3 9 9 0 []) base),
    (.mountUnknown, head (change 6) (mount .foreign)), (.portState, head (change 5) (mount .none))]

theorem witness_BadKindsRefused_stepTwo : ∀ w ∈ refusedTwo, w.2.2.boundary .A w.2.1 = true ∧
    w.2.2.unasked .A = true ∧ refusesTwo w.2.2 .A w.2.1 w.1 = true := by decide +kernel

/-- A MOVE one count above a soft limit. -/
def moveFar : SlotCopy := copyOf 3 1 7 1 [300, 1, 60000001, 0, 0]

theorem witness_BadKindsRefused_stepFour : (headA moveFar).boundary .A moveFar = true ∧
    (headA moveFar).unasked .A = true ∧ refusesFour (headA moveFar) .A moveFar .outOfLimits = true := by decide +kernel

theorem witness_MoveBeginsSegmentsAndPasses :
    let s := headA moveCopy
    let b := (s.bind .A (s.startedBlock .A moveCopy .machine)).1
    s.boundary .A moveCopy = true ∧ moveCopy.kind = some .move ∧
      resolveFrame (s.armSet .A).frame .move moveCopy.selector = some .machine ∧ moveCopy.moveOk = true ∧
      s.commonCheck .A .move .machine = none ∧ (s.bind .A (s.startedBlock .A moveCopy .machine)).2 = none ∧
      s.blockNeedsZone .A (s.arm .A).cmd b = false ∧ (firstSeg s .A b 0 (moveCopy.nat 4)).len ≠ 0 := by decide +kernel

/-- A MOVE into arm A's box. -/
def moveIn : SlotCopy := copyOf 3 1 7 1 [300, 1, 40000000, 0, 500]

theorem witness_MoveBeginsSegmentsAndPasses_waits :
    let s := headA moveIn
    let b := (s.bind .A (s.startedBlock .A moveIn .machine)).1
    s.boundary .A moveIn = true ∧ moveIn.kind = some .move ∧
      resolveFrame (s.armSet .A).frame .move moveIn.selector = some .machine ∧ moveIn.moveOk = true ∧
      s.commonCheck .A .move .machine = none ∧ (s.bind .A (s.startedBlock .A moveIn .machine)).2 = none ∧
      s.blockNeedsZone .A (s.arm .A).cmd b = true ∧ s.holdsGrant .A = false := by decide +kernel

/-- A MOVE to where arm A stands. -/
def moveZero : SlotCopy := copyOf 3 1 7 1 [300, 1, 0, 0, 0]

theorem witness_MoveBeginsSegmentsAndPasses_zero :
    let s := headA moveZero
    let b := (s.bind .A (s.startedBlock .A moveZero .machine)).1
    s.boundary .A moveZero = true ∧ moveZero.kind = some .move ∧
      resolveFrame (s.armSet .A).frame .move moveZero.selector = some .machine ∧ moveZero.moveOk = true ∧
      s.commonCheck .A .move .machine = none ∧ (s.bind .A (s.startedBlock .A moveZero .machine)).2 = none ∧
      s.blockNeedsZone .A (s.arm .A).cmd b = false ∧ s.unasked .A = true ∧
      (firstSeg s .A b 0 (moveZero.nat 4)).len = 0 ∧ moveZero.moveCount = 1 := by decide +kernel

/-- A MOVE in slot `i` with options to one waypoint; arm A on the last segment of a MOVE with PASS, at its commit point. -/
def moveTo (i options : Nat) (point : List Int) : SlotCopy := copyOf i 1 8 options ([300, 1] ++ point)
def passing (q : List SlotCopy) : State := (atGap 19660 90000 movingA).modArm .A fun r =>
  { r with queue := q, exec := r.exec.map fun b => { b with slot := moveTo 3 5 [1003, 0, 0] } }
/-- Arm A has ended the first of two segments. -/
def legDue : State := betweenSegs.modArm .A fun r =>
  { r with moving := false, due := some .nextLeg, cmd := ⟨1003, 0, 0⟩, exec := r.exec.map fun b => { b with leg := 1 } }

theorem witness_MoveBeginsSegmentsAndPasses_next :
    let s := legDue
    let g := (Seg.between (s.arm .A).cmd ⟨1003, 500, 0⟩ 19660 19660 0 0).step (s.accOf .A)
    (s.arm .A).state = .active ∧ ((s.arm .A).exec.map fun b => (b.slot, b.target b.leg)) = some (moveCopy, ⟨1003, 500, 0⟩) ∧
      moveCopy.kind = some .move ∧ perTickFeed s.settings.period (min (moveCopy.nat 4) (s.armSet .A).maxFeed) = 19660 ∧
      (s.arm .A).due = some .nextLeg ∧ (s.arm .A).moving = false ∧ (s.arm .A).holding = false ∧
      (s.arm .A).holdLevel = false ∧ moveCopy.pass = false ∧ g.len ≠ 0 ∧ g.atEnd = false ∧
      s.loneTick .A g.position (follow s) = true := by decide +kernel

/-- The head's block as step 4 leaves it, where steps 1 and 2 let it go on. -/
def headBound (s : State) (c : SlotCopy) : Option (Block × Option FaultCode) :=
  match s.stepOne .A c with
  | .ok b =>
    match s.stepTwo .A b with
    | .go b2 => some (s.bind .A b2)
    | _ => none
  | .error _ => none

/-- The commit point with no head, a DWELL, a MOVE refused at step 1, at step 2 and at step 4, one to where the executing
block ends, one into the zone box with no grant, and one that is committed; with the grant held, one to where the
executing block ends, and one into the zone box and one outside it that are committed. -/
theorem witness_MoveBeginsSegmentsAndPasses_commitPoint :
    let dwell := passing [copyOf 4 2 8 0 [5]]
    let part := moveTo 4 2 [1500, 0, 0]
    let limit := moveTo 4 1 [60000001, 0, 0]
    let same := moveTo 4 1 [1003, 0, 0]
    let zone := moveTo 4 1 [40000000, 0, 0]
    let next := moveTo 4 1 [1500, 0, 0]
    let reached (s : State) : State := s.modArm .A fun r => { r with seg := { r.seg with vEnd := 19660 } }
    let held := grantA (passing [zone])
    (∀ s ∈ [passing [], dwell, passing [moveFive], passing [part], passing [limit], passing [same], passing [zone],
        reached (passing [next]), grantA (passing [same]), reached held, reached (grantA (passing [next]))],
      (s.arm .A).state = .active ∧ ((s.arm .A).exec.map fun b => s.atCommitPoint .A b && b.slot.kind == some .move) = some true ∧
        s.meetsTick .A (follow s) = true ∧ (s.tickedSeg .A).atEnd = false) ∧
    ((copyOf 4 2 8 0 [5]).kind ≠ some .move) ∧ refuses (passing [moveFive]) .A moveFive .badField = true ∧
    refusesTwo (passing [part]) .A part .noProbe = true ∧
    ((headBound (passing [limit]) limit).map Prod.snd = some (some .outOfLimits)) ∧
    ((headBound (passing [same]) same).map fun h => h.1.target 0) = some ⟨1003, 0, 0⟩ ∧
    ((headBound (passing [zone]) zone).map fun h => (passing [zone]).blockNeedsZone .A ⟨1003, 0, 0⟩ h.1) = some true ∧
    (passing [zone]).holdsGrant .A = false ∧ (grantA (passing [same])).holdsGrant .A = true ∧
    ((headBound (grantA (passing [same])) same).map fun h => h.1.target 0) = some ⟨1003, 0, 0⟩ ∧
    ((headBound held zone).map fun h => (h.2, h.1.target 0, held.blockNeedsZone .A ⟨1003, 0, 0⟩ h.1)) =
      some (none, ⟨40000000, 0, 0⟩, true) ∧ held.holdsGrant .A = true ∧ zone.kind = some .move ∧
    (held.arm .A).queue = zone :: [] ∧ min (held.arm .A).seg.f2 (perTickFeed 1000 (min (zone.nat 4) 500000)) = 19660 ∧
    ((headBound (grantA (passing [next])) next).map Prod.snd) = some none ∧
    ((headBound (passing [next]) next).map fun h =>
      (h.2, h.1.target 0, (passing [next]).blockNeedsZone .A ⟨1003, 0, 0⟩ h.1)) = some (none, ⟨1500, 0, 0⟩, false) ∧
    next.kind = some .move ∧ ((passing [next]).arm .A).queue = next :: [] ∧
    min ((passing [next]).arm .A).seg.f2 (perTickFeed 1000 (min (next.nat 4) 500000)) = 19660 := by decide +kernel

/-- A MOVE that is committed to follow, in slot 4. -/
def committing (s : State) : State := s.modArm .A fun r =>
  { r with committed := some { Block.fresh (moveTo 4 1 [1500, 0, 0]) with passed := true, targets := [⟨1500, 0, 0⟩] } }

theorem witness_MoveBeginsSegmentsAndPasses_over :
    ∀ s ∈ grants (committing (atGap 19660 100 movingA)), releases s = true ∧ s.meetsTick .A (follow s) = true ∧
      (s.arm .A).state = .active ∧ (s.arm .A).phase = .moving ∧
      (s.arm .A).holding = false ∧ (s.arm .A).committed ≠ none ∧ fits s moveCopy = true ∧ moveCopy.kind = some .move ∧
      ((s.arm .A).exec.any fun b => !s.atCommitPoint .A b && b.passed && b.limitHit == none &&
        b.leg + 1 == b.targets.length && b.slot == moveCopy) = true ∧ (s.tickedSeg .A).atEnd = true := by decide +kernel

/-- A wait for group 9 with the largest band and timeout. -/
def stableCopy : SlotCopy := copyOf 3 3 7 0 [9, 10240, 3600]
/-- The same wait with no timeout. -/
def stableZero : SlotCopy := copyOf 3 3 7 0 [9, 10240, 0]
/-- Group 9 with a full ring. -/
def ringGroups : Vector Machine.Group 10 := Thermal.reset.groups.set 9 { Group.reset with ring := List.replicate 16 2560 }
def ringFull : State := { base with therm := { base.therm with groups := ringGroups } }

theorem witness_WaitsBeginOrCompleteAtOnce_dwell :
    (headA dwellCopy).boundary .A dwellCopy = true ∧ dwellCopy.kind = some .dwell ∧
    resolveFrame ((headA dwellCopy).armSet .A).frame .dwell dwellCopy.selector = some .machine ∧ dwellCopy.nat 4 ≤ 600000 ∧
    dwellCopy.nat 4 ≠ 0 ∧ (headA dwellZero).boundary .A dwellZero = true ∧ dwellZero.kind = some .dwell ∧
    dwellZero.nat 4 = 0 ∧ (headA dwellZero).unasked .A = true := by decide +kernel

theorem witness_WaitsBeginOrCompleteAtOnce_stable :
    (headA stableCopy).boundary .A stableCopy = true ∧ stableCopy.kind = some .waitStable ∧
    resolveFrame ((headA stableCopy).armSet .A).frame .waitStable stableCopy.selector = some .machine ∧
    stableCopy.nat 4 ≤ 9 ∧ stableCopy.nat 5 ≤ 10240 ∧ stableCopy.nat 6 ≤ 3600 ∧
    (headA stableCopy).stableNow stableCopy = false ∧ stableCopy.nat 6 ≠ 0 ∧
    (headA stableCopy ringFull).boundary .A stableCopy = true ∧ (headA stableCopy ringFull).stableNow stableCopy = true ∧
    (headA stableCopy ringFull).unasked .A = true ∧
    (headA stableZero).boundary .A stableZero = true ∧ stableZero.kind = some .waitStable ∧
    resolveFrame ((headA stableZero).armSet .A).frame .waitStable stableZero.selector = some .machine ∧
    stableZero.nat 4 ≤ 9 ∧ stableZero.nat 5 ≤ 10240 ∧ stableZero.nat 6 = 0 ∧
    (headA stableZero).stableNow stableZero = false ∧ (headA stableZero).unasked .A = true := by decide +kernel

/-- An offset at the largest magnitude. -/
def frameCopy : SlotCopy := copyOf 3 4 7 1 [536870912, -536870912, 0]

theorem witness_SetFrameReplacesOffset : (headA frameCopy).boundary .A frameCopy = true ∧
    (headA frameCopy).unasked .A = true ∧ frameCopy.kind = some .setFrame ∧
    resolveFrame ((headA frameCopy).armSet .A).frame .setFrame frameCopy.selector = some .machine ∧
    (frameCopy.vec 4).coordOk = true := by decide +kernel

/-- SET_LATCH of unit 15 with an action. -/
def latchCopy (action : Int) : SlotCopy := copyOf 3 5 7 0 [15, action, 0, 7, 2]

theorem witness_SetLatchActsOnUnit : ∀ n ∈ [(0, LatchAction.allocate), (1, .release), (2, .arm), (3, .disarm), (4, .read)],
    let c := latchCopy n.1
    let s := headA c ownedA
    s.boundary .A c = true ∧ s.unasked .A = true ∧ c.kind = some .setLatch ∧
      resolveFrame (s.armSet .A).frame .setLatch c.selector = some .machine ∧ c.setLatchOk = true ∧
      c.nat 4 = (15 : Fin 16).val ∧ latchAction? (c.nat 5) = some n.2 ∧ s.latchCheck .A c = none := by decide +kernel

/-- A HOME with unit 2. -/
def homeCopy : SlotCopy := copyOf 3 6 7 0 [2]

theorem witness_HomeSearchesAndReferences :
    let s := headA homeCopy (ownedA { base with zone := { base.zone with holder := some .A, last := some .A } })
    let f := perTickFeed s.settings.period (min (s.armSet .A).homeFeed (s.armSet .A).maxFeed)
    s.boundary .A homeCopy = true ∧ homeCopy.kind = some .home ∧ homeCopy.selector ≠ 3 ∧
      homeCopy.nat 4 = (2 : Fin 16).val ∧ s.unitCheck .A 2 = none ∧ s.holdsGrant .A = true ∧
      (Seg.between (s.arm .A).cmd (s.homeEnd .A .Z) f f 0 0).len ≠ 0 ∧
      (headA homeCopy ownedA).boundary .A homeCopy = true ∧ (headA homeCopy ownedA).holdsGrant .A = false := by
  decide +kernel

/-- Arm A in a phase of a HOME in slot 3, its unit armed, the compare unit 9 on X; the reference of every axis at a count.
-/
def homingA (p : Phase) (reference : Int) : State :=
  let s := (ownedA movingA).modArm .A fun r => { r with phase := p, exec := r.exec.map fun b => { b with slot := homeCopy, targets := [] } }
  let set : ArmSet := { armSettings with axes := armSettings.axes.map fun x => { x with reference := reference } }
  ({ s with settings := { s.settings with arms := ⟨set, armSettings⟩ } }.setUnit 2 { owned with
    state := .fired, armedBy := .block 3, input := .refm .Z, cap := ⟨⟨400, 30, -7⟩, 4, false⟩ }).setUnit 9 { owned with
      mode := .compare, state := .armed, armedBy := .standing }

/-- The stop of each search at rest, Y's with its shift inside and outside the soft limits; the end of a search with its
unit armed; the end of the limit return. -/
theorem witness_HomeSearchesAndReferences_tick :
    let stops := [homingA (.homeStop .Z) 0, homingA (.homeStop .X) 0, homingA (.homeStop .Y) 0, homingA (.homeStop .Y) 60000500].flatMap
      fun s => grants (atGap 100 9000 s)
    let ends := [homingA (.homeSearch .Z) 0, homingA (.homeSearch .X) 0, homingA (.homeSearch .Y) 0, homingA .limitReturn 0].flatMap
      fun s => grants (atGap 19660 100 s)
    (∀ s ∈ stops ++ ends, meets s homeCopy (fun b => b.unit == some 2) = true ∧
      s.latches[(2 : Fin 16)].alloc = some .A ∧ s.latches[(2 : Fin 16)].mode = .capture ∧
      s.latches[(9 : Fin 16)].alloc = some .A ∧ s.latches[(9 : Fin 16)].mode = .compare ∧ s.latches[(9 : Fin 16)].axis = .X) ∧
    (∀ s ∈ stops, (s.tickedSeg .A).v = 0) ∧ (∀ s ∈ ends, (s.tickedSeg .A).atEnd = true) := by decide +kernel

/-- The release test of an arm at rest: with its box elsewhere and around it, and with each queue head whose kind alone
tells whether it needs the zone, one of a moving kind, and none. -/
theorem witness_HomeSearchesAndReferences_release :
    (grantA base).clears .A ⟨0, 0, 0⟩ ∧ ¬ (insideA base).clears .A ⟨0, 0, 0⟩ ∧ (grantA base).zone.holder = some .A ∧
      (grantA base).unasked .A = true ∧ asks (waitingB base) = true ∧ asks (insideA (waitingB base)) = true ∧
      (waitingB base).holdsGrant .A = true ∧ queueNeeds [] = some false ∧ queueNeeds [homeCopy] = some true ∧
      queueNeeds [dwellCopy] = some false ∧ queueNeeds [moveCopy] = none := by
  unfold State.clears
  decide +kernel

/-- From the stop of Y, the shift stays inside the limits with reference 0 and leaves them with 60,000,500. -/
theorem witness_HomeSearchesAndReferences_limits :
    let shifted (reference : Int) : Int := 0 + (reference - 30)
    let nearest (c : Int) : Int := max axisSet.lo (min c axisSet.hi)
    nearest (shifted 0) = shifted 0 ∧ nearest (shifted 60000500) ≠ shifted 60000500 ∧
      (Seg.between ⟨0, shifted 60000500, 0⟩ ⟨0, nearest (shifted 60000500), 0⟩ 0 0 0 0).len ≠ 0 := by decide +kernel

/-- The flange touch of 6.4 in the MACHINE frame. -/
def touchCopy : SlotCopy := copyOf 3 7 9 1 [5000000, 2000000, 1000000, 11585, 53951, 20000, 10000, 3000, 200000, 20000, 5]

theorem witness_ProbePointRunsItsTouch :
    let s := headA touchCopy mountedA
    let b := (s.bind .A (s.startedBlock .A touchCopy .machine)).1
    s.boundary .A touchCopy = true ∧ touchCopy.kind = some .probePoint ∧
      resolveFrame (s.armSet .A).frame .probePoint touchCopy.selector = some .machine ∧ touchCopy.probePointOk = true ∧
      touchCopy.nat 14 = (5 : Fin 16).val ∧ s.commonCheck .A .probePoint .machine = none ∧ s.unitCheck .A 5 = none ∧
      s.pins.trig.get .A = false ∧ (s.bind .A (s.startedBlock .A touchCopy .machine)).2 = none ∧
      s.blockNeedsZone .A (s.arm .A).cmd b = false ∧ (firstSeg s .A b 0 (touchCopy.nat 12)).len ≠ 0 := by decide +kernel

/-- Arm A in a phase of a PROBE_POINT in slot 3, its unit armed. -/
def touchingA (p : Phase) : State := ((movingA mountedA).modArm .A fun r => { r with
  phase := p
  exec := r.exec.map fun b => { b with slot := touchCopy, targets := [⟨0, 50, 0⟩, ⟨700, 0, 0⟩, ⟨1003, 90, 0⟩] } }).setUnit 5 { owned with
    state := .fired, armedBy := .block 3 }

theorem witness_ProbePointRunsItsTouch_tick :
    let converted := (touchingA .retract).modExec .A fun b =>
      { b with touch := ⟨some ⟨⟨1, 2, 3⟩, ⟨4, 5, 6⟩, (mountedA.chain .A).used .part, 7⟩, false⟩ }
    let ends := [touchingA .approach, (touchingA .approach).setTrig .A true, touchingA .search, touchingA .retract, converted,
      converted.setTrig .A true].flatMap fun s => grants (atGap 19660 100 s)
    let stop := atGap 100 9000 (touchingA .touchStop)
    (∀ s ∈ stop :: ends, meets s touchCopy (fun b => b.slot.kind == some .probePoint && b.unit == some 5) = true ∧
      s.latches[(5 : Fin 16)].alloc = some .A ∧ s.latches[(5 : Fin 16)].mode = .capture ∧
      (Seg.between (s.tickedSeg .A).position ⟨0, 50, 0⟩ 0 0 0 0).len ≠ 0 ∧
      (Seg.between (s.tickedSeg .A).position ⟨1003, 90, 0⟩ 0 0 0 0).len ≠ 0) ∧
    (stop.tickedSeg .A).v = 0 ∧ (∀ s ∈ ends, (s.tickedSeg .A).atEnd = true) := by decide +kernel

/-- HEAD at 2560: the drift limit of 0 is met exactly at T_q 2560 and passed at 2561. -/
theorem witness_ProbePointRunsItsTouch_drift :
    let record (q : QualState) (tq : Int) : State := touchingA .search |> fun s => { s with
      tables := s.tables.modProbe 3 fun p => { p with qual := q, tq := tq, driftLimit := 0 } }
    (∀ s ∈ [record .qualified 2560, record .qualified 2561, record .drifted 2560], (s.arm .A).mounted = .probe 3 ∧
      (s.arm .A).exec ≠ none ∧ s.therm.snap.groups[(6 : Fin 10)].temp = 2560) ∧
    ((record .qualified 2561).tables.probes[(3 : Fin 24)].driftLimit <
      |2560 - (record .qualified 2561).tables.probes[(3 : Fin 24)].tq|) ∧
    |2560 - (record .qualified 2560).tables.probes[(3 : Fin 24)].tq| ≤
      (record .qualified 2560).tables.probes[(3 : Fin 24)].driftLimit := by decide +kernel

/-- The sphere of 6.6 on arm A. -/
def qualCopy : SlotCopy := copyOf 3 8 9 0 [4000000, 1500000, 800000, 125000, 50000, 30000, 20000, 9, 10]

theorem witness_QualifyTouchesAndComputes :
    let s := headA qualCopy mountedA
    let b := (s.bind .A (s.startedBlock .A qualCopy .machine)).1
    s.boundary .A qualCopy = true ∧ qualCopy.kind = some .qualify ∧ qualCopy.selector ≠ 3 ∧
      qualCopy.qualifyFieldsOk = true ∧ s.qualifyPositionsOk .A qualCopy = true ∧ qualCopy.nat 11 = (9 : Fin 16).val ∧
      s.commonCheck .A .qualify .machine = none ∧ s.unitCheck .A 9 = none ∧ s.pins.trig.get .A = false ∧
      (s.bind .A (s.startedBlock .A qualCopy .machine)).2 = none ∧
      s.blockNeedsZone .A (s.arm .A).cmd b = false ∧ (firstSeg s .A b 0 (s.armSet .A).homeFeed).len ≠ 0 := by decide +kernel

/-- Arm A near the end of the retract of touch `k` of the sphere's QUALIFY in slot 3. -/
def qualifyingA (k : Nat) (caps : List Vec) (missed : Bool := false) : State :=
  atGap 19660 100 ((movingA mountedA).modArm .A fun r => { r with
    phase := .touch k .retract
    exec := r.exec.map fun b => { b with slot := qualCopy, qual := ⟨k, 1, caps, 2600, 0, missed, none⟩ } })
/-- Arm A in another phase of touch `k`, a transit's segment counted. -/
def qualifyingIn (p : Phase) (k leg : Nat) : State :=
  ((qualifyingA k []).modArm .A fun r => { r with
    phase := p
    exec := r.exec.map fun b => { b with
      qual := { b.qual with leg := leg }
      targets := (List.range 20).map fun i => ⟨50 * i, 50, 0⟩ } }).setUnit 9 { owned with
        state := .fired, armedBy := .block 3, cap := ⟨⟨400, 30, -7⟩, 4, false⟩ }

/-- The end of a TRANSIT segment, the first, the last of touch 0 and of touch 3, and that with TRIG active; the end of a
search, and of a stop. -/
theorem witness_QualifyTouchesAndComputes_touch :
    let transits := [(qualifyingIn .transit 0 0, 0), (qualifyingIn .transit 3 1, 3), (qualifyingIn .transit 0 1, 0),
      (qualifyingIn .transit 3 2, 3), ((qualifyingIn .transit 3 2).setTrig .A true, 3)]
    let touches := [(qualifyingIn (.touch 0 .search) 0 1, 0), (qualifyingIn (.touch 4 .search) 4 2, 4),
      (atGap 100 9000 (qualifyingIn (.touch 4 .stop) 4 2), 4), (atGap 19660000 100 (qualifyingIn (.touch 0 .stop) 0 1), 0)]
    (∀ w ∈ transits ++ touches, ∀ s ∈ grants w.1,
      meets s qualCopy (fun b => b.slot.kind == some .qualify && b.unit == some 9 && b.qual.k == w.2) = true ∧
        s.latches[(9 : Fin 16)].alloc = some .A ∧ s.latches[(9 : Fin 16)].mode = .capture ∧
        (Seg.between (s.tickedSeg .A).position ⟨50 * (15 + w.2), 50, 0⟩ 0 0 0 0).len ≠ 0 ∧
        (Seg.between (s.tickedSeg .A).position ⟨50 * (3 * w.2 + 1), 50, 0⟩ 0 0 0 0).len ≠ 0 ∧
        ((s.tickedSeg .A).v = 0 ∨ (s.tickedSeg .A).atEnd = true)) ∧
    (∀ w ∈ transits, (w.1.tickedSeg .A).atEnd = true) ∧
    ((touches.map fun w => (w.1.arm .A).phase) = [.touch 0 .search, .touch 4 .search, .touch 4 .stop, .touch 0 .stop]) ∧
    (∀ s ∈ [qualifyingIn (.touch 0 .search) 0 1, qualifyingIn (.touch 4 .search) 4 2], (s.tickedSeg .A).atEnd = true) := by
  decide +kernel

/-- Captures with touch E a distance further and the top at a height: radii 15,000 + e / 2 and 15,000. -/
def capsE (e top : Int) : List Vec := [⟨3860000, 1500000, 2600000⟩, ⟨4140000 + e, 1500000, 2600000⟩,
  ⟨4000000, 1360000, 2600000⟩, ⟨4000000, 1640000, 2600000⟩, ⟨4000000, 1500000, top⟩]

/-- With TRIG active, missed, before touch 4, and after it: the spread at its limit of 10 and one above, a tip too far. -/
theorem witness_QualifyTouchesAndComputes_tick :
    (∀ s ∈ [(qualifyingA 0 []).setTrig .A true, qualifyingA 2 [] true, qualifyingA 3 [], qualifyingA 4 (capsE 20 2740000),
        qualifyingA 4 (capsE 22 2740000), qualifyingA 4 (capsE 0 (-20000000))].flatMap grants,
      meets s qualCopy (fun b => b.slot.kind == some .qualify && (s.arm .A).phase == .touch b.qual.k .retract) = true ∧
        (s.tickedSeg .A).atEnd = true ∧ (s.arm .A).mounted = .probe 3) ∧
    (qualCopy.nat 12 = 10 ∧ qualCopy.int 7 = 125000 ∧ roundDiv (4140020 - 3860000) 2 - 125000 = 15010 ∧
      roundDiv (4140022 - 3860000) 2 - 125000 = 15011 ∧ roundDiv (1640000 - 1360000) 2 - 125000 = 15000) ∧
    16777216 < |qualCopy.int 6 + 125000 + 15000 - (-20000000)| := by decide +kernel

/-- An IDENTIFY. -/
def identCopy : SlotCopy := copyOf 3 9 9 0 []

theorem witness_IdentifyBeginsReadId : (headA identCopy mountedA).boundary .A identCopy = true ∧
    identCopy.kind = some .identify ∧ identCopy.selector ≠ 3 ∧ ((headA identCopy mountedA).arm .A).mounted ≠ .none := by
  decide +kernel

/-- The change of 8.7, a fetch alone, and a change to the mounted probe. -/
def changeCopy : SlotCopy := copyOf 3 10 7 0 [6, 400000, 40000]
def changeSame : SlotCopy := copyOf 3 10 7 0 [3, 400000, 40000]

/-- The block after step 2, if it goes on. -/
def wentOn : Gate → Option Block
  | .go b => some b
  | _ => none

theorem witness_ChangeProbeBegins :
    let s := headA changeCopy mountedA
    s.boundary .A changeCopy = true ∧ changeCopy.kind = some .changeProbe ∧ changeCopy.selector ≠ 3 ∧
      1 ≤ changeCopy.int 5 ∧ 1 ≤ changeCopy.int 6 ∧ (s.arm .A).referenced = true ∧ changeCopy.nat 4 ≤ 23 ∧
      (match wentOn (s.stepTwo .A (Block.fresh changeCopy)) with
        | some b2 => (s.bind .A b2).2 == none && b2.change.stowPort == some 2 &&
          !s.blockNeedsZone .A (s.arm .A).cmd (s.bind .A b2).1 &&
          (firstSeg s .A (s.bind .A b2).1 0 (changeCopy.nat 5)).len != 0
        | none => false) = true := by decide +kernel

theorem witness_ChangeProbeBegins_fetch :
    let s := headA changeCopy (mountedA.modArm .A fun r => { r with mounted := .none })
    s.boundary .A changeCopy = true ∧ (s.arm .A).referenced = true ∧
      (match wentOn (s.stepTwo .A (Block.fresh changeCopy)) with
        | some b2 => (s.bind .A b2).2 == none && b2.change.stowPort == none &&
          !s.blockNeedsZone .A (s.arm .A).cmd (s.bind .A b2).1 &&
          (firstSeg s .A (s.bind .A b2).1 0 (changeCopy.nat 5)).len != 0
        | none => false) = true := by decide +kernel

/-- Arm A near the end of a segment of the change of 8.7, SEAT low or high, COVER_OPEN, a fault that waits for the
retract. -/
def changeEnding (p : ChangePhase) (h : Half) (low cover : Bool) (fault : Option FaultCode) : State :=
  { atGap 19660 100 ((movingA mountedA).modArm .A fun r => { r with
      phase := .changing p h
      seatLow := low
      exec := r.exec.map fun b => { b with
        slot := changeCopy
        change := ⟨some 6, some 3, some 4, some 2, 0, 0, fault⟩
        targets := [⟨4000, 3000, 1000⟩, ⟨4000, 3000, 500⟩, ⟨5000, 3000, 1000⟩, ⟨5000, 3000, 500⟩] } }) with
    pins := { mountedA.pins with coverOpen := ⟨cover, false⟩ } }

/-- The end of each segment of a change: an approach with COVER_OPEN active and not, DOCK of each half with SEAT low and
high, the stow half's PORT_RETRACT, and the fetch half's with no fault, ID_MISMATCH and NO_PROBE. -/
theorem witness_ChangeProbeBegins_ends :
    let cases := [changeEnding .stowApproach .stow true true none, changeEnding .stowApproach .stow true false none,
      changeEnding .fetchApproach .fetch false true none, changeEnding .dock .stow true true none,
      changeEnding .dock .fetch true true none, changeEnding .dock .fetch false true none,
      changeEnding .portRetract .stow true true none, changeEnding .portRetract .stow false true none,
      changeEnding .portRetract .fetch true true none, changeEnding .portRetract .fetch true true (some .idMismatch),
      changeEnding .portRetract .fetch false true (some .noProbe)]
    (∀ u ∈ cases, ∀ s ∈ grants u,
      meets s changeCopy (fun b => b.slot.kind == some .changeProbe && b.change.stowPort == some 2 &&
        b.change.fetchPort == some 4 && [0, 1, 2, 3].all fun i => (Seg.between (s.tickedSeg .A).position (b.target i) 0 0 0 0).len != 0) = true ∧
        (s.tickedSeg .A).atEnd = true ∧ s.latches[(12 : Fin 16)].alloc = some .A ∧ s.latches[(13 : Fin 16)].alloc = some .A ∧
        s.tables.ports[(2 : Fin 12)].coverUnit = 12 ∧ s.tables.ports[(4 : Fin 12)].coverUnit = 13) := by decide +kernel

theorem witness_ChangeProbeBegins_same :
    let s := headA changeSame mountedA
    s.boundary .A changeSame = true ∧ changeSame.kind = some .changeProbe ∧ changeSame.selector ≠ 3 ∧
      1 ≤ changeSame.int 5 ∧ 1 ≤ changeSame.int 6 ∧ (s.arm .A).referenced = true ∧
      changeSame.nat 4 = (3 : Fin 24).val ∧ (s.arm .A).mounted = .probe 3 ∧ s.unasked .A = true := by decide +kernel

/-! ## Witnesses: the arbiter, the timers and the tick -/

theorem witness_ZoneDecisionGrantsOrWaits :
    let against : State := { base with zone := { base.zone with holder := some .B, last := some .B, request := ⟨true, false⟩ } }
    let lone : State := { base with zone := { base.zone with request := ⟨true, false⟩ } }
    let tie : State := { base with zone := { base.zone with request := ⟨true, true⟩ } }
    let later : State := { tie with zone := { tie.zone with last := some .A } }
    (against.settled = true ∧ against.zone.holder = some .B ∧ against.zone.request.get .A = true) ∧
    (lone.zone.holder = none ∧ lone.zone.request.get .A = true ∧ lone.zone.request.get .B = false) ∧
    (tie.zone.holder = none ∧ tie.zone.request = ⟨true, true⟩ ∧ tie.zone.last = none) ∧
    later.zone.holder = none ∧ later.zone.request = ⟨true, true⟩ ∧ later.zone.last = some Arm.A := by decide +kernel

/-- Arm A waits for the zone. -/
def zoneWaiting (limit : Nat) : State :=
  let s := executing moveIn .waitZone
  { s with zone := { s.zone with holder := some .B, last := some .B, waits := ⟨.waiting limit, .idle⟩ } }

theorem witness_WaitExpiriesEndBlock_faults : (zoneWaiting 1).calm = true ∧ (zoneWaiting 1).unasked .A = true ∧
    (zoneWaiting 1).zone.waits.get .A = .waiting (0 + 1) ∧ (zoneWaiting 0).calm = true ∧
    (zoneWaiting 0).zone.waits.get .A = .waiting 0 := by decide +kernel

/-- Arm A waits for the cover of the stow port; it waits for a stable group. -/
def coverWaiting : State := (executing changeCopy (.changing .stowApproach .stow) mountedA).modArm .A fun r =>
  { r with coverTimer := some 500, exec := r.exec.map fun b => { b with
      change := ⟨some 6, some 3, some 4, some 2, 0, 0, none⟩
      targets := [⟨4000, 3000, 1000⟩, ⟨4000, 3000, 500⟩, ⟨5000, 3000, 1000⟩, ⟨5000, 3000, 500⟩] } }
def stabilising : State := (executing stableCopy .waitingStable).modArm .A fun r => { r with stableTimer := some 3600 }

theorem witness_WaitExpiriesEndBlock : coverWaiting.calm = true ∧ coverWaiting.unasked .A = true ∧
    (coverWaiting.arm .A).coverTimer = some 500 ∧ dwelling.calm = true ∧ dwelling.unasked .A = true ∧
    (dwelling.arm .A).dwellTimer = some 600000 ∧ stabilising.calm = true ∧ stabilising.unasked .A = true ∧
    (stabilising.arm .A).stableTimer = some 3600 := by decide +kernel

/-- A dwell ends with the grant held: outside and inside the box, with a HOME at the head, and asked for by arm B. -/
theorem witness_WaitExpiriesEndBlock_grant :
    (∀ s ∈ [grantA dwelling, insideA dwelling, (grantA dwelling).modArm .A fun r => { r with queue := [homeCopy] },
        waitingB dwelling, insideA (waitingB dwelling)],
      s.calm = true ∧ s.holdsGrant .A = true ∧ (s.arm .A).dwellTimer = some 600000) ∧
    (grantA dwelling).clears .A (dwelling.arm .A).cmd ∧ ¬ (insideA dwelling).clears .A (dwelling.arm .A).cmd ∧
    (grantA dwelling).headNeedsZone .A homeCopy = true ∧ (grantA dwelling).zone.waits.get .B = .idle ∧
    asks (waitingB dwelling) = true := by
  unfold State.clears
  decide +kernel

theorem witness_TickAdvancesAndEnds : movingA.settled = true ∧ movingA.device = .run ∧ movingA.underway .A = true ∧
    (∀ a, movingA.plainTick a ((follow movingA).get a) = true) ∧ State.reset.device ≠ .run :=
  ⟨by decide +kernel, by decide +kernel, by decide +kernel, fun a => by cases a <;> decide +kernel, by decide +kernel⟩

/-- The same in HOLDING, in a stop phase, in STOPPING, in FAULT with its axes away from their setpoints, and HELD. -/
theorem witness_TickAdvancesAndEnds_phases :
    (∀ s ∈ [watchedHolding, braking, stoppingA], s.settled = true ∧ s.device = .run ∧ s.underway .A = true ∧
      s.plainTick .A ((follow s).get .A) = true ∧ s.plainTick .B ((follow s).get .B) = true) ∧
    ∀ s ∈ [faultedA, heldA], s.settled = true ∧ s.device = .run ∧ s.underway .A = false ∧
      s.plainTick .A ((follow s).get .A) = true ∧ s.plainTick .B ((follow s).get .B) = true := by decide +kernel

/-- Readings of arm A, arm B following. -/
def readA (s : State) (x : Reading) : Duo (Tri Reading) := ⟨{ (follow s).a with x := x }, (follow s).b⟩
/-- The grant is arm B's; arm A decelerates for the stop line; arm A stands unreferenced. -/
def grantB (s : State) : State := { s with zone := { s.zone with holder := some .B, last := some .B } }
def standing : State := withA fun r => { r with referenced := false, state := .unreferenced }

/-- One axis 100,001 counts away; no reading; into the box, at 42,000,000, with the grant FREE and with arm B; in
STOPPING. -/
theorem witness_TickAdvancesAndEnds_faults :
    (∀ w ∈ [(movingA, some 100002), (movingA, none), (base, some 42000000), (grantB base, some 42000000),
        (stoppingA, none), (standing, some 42000000), (grantA base, some 42000000), (grantA movingA, none)],
      let s : State := w.1
      let rd := readA s w.2
      s.calm = true ∧ s.device = .run ∧ s.plainTick .B (rd.get .B) = true ∧
        (s.underway .A = true ∨ s.runs .A = false) ∧ (s.arm .A).due ≠ some .nextLeg ∧ (s.arm .A).state ≠ .fault ∧
        s.unasked .A = true ∧
        (w.2 = none ∨ ∃ c, w.2 = some c ∧ ((s.armSet .A).axes.get .X).following <
          |(s.tickedArm .A (rd.get .A)).cmd.x - (c + (s.arm .A).axes.x.offset)|)) := by
  intro w h
  simp only [List.mem_cons, List.not_mem_nil, or_false] at h
  rcases h with rfl | rfl | rfl | rfl | rfl | rfl | rfl | rfl <;>
    refine ⟨by decide +kernel, by decide +kernel, by decide +kernel, by decide +kernel, by decide +kernel,
      by decide +kernel, by decide +kernel, ?_⟩
  · exact .inr ⟨_, rfl, by decide +kernel⟩
  · exact .inl rfl
  · exact .inr ⟨_, rfl, by decide +kernel⟩
  · exact .inr ⟨_, rfl, by decide +kernel⟩
  · exact .inl rfl
  · exact .inr ⟨_, rfl, by decide +kernel⟩
  · exact .inr ⟨_, rfl, by decide +kernel⟩
  · exact .inl rfl

/-- The end of a MOVE's segment, not the last and the last; HOLDING at rest. -/
theorem witness_TickAdvancesAndEnds_ends :
    (∀ w ∈ (grants betweenSegs).map (·, false) ++ (grants (atGap 19660 100 movingA)).map (·, true),
      meets w.1 moveCopy (fun b => !w.1.atCommitPoint .A b && (b.leg + 1 == b.targets.length) == w.2) = true ∧
        (w.1.arm .A).phase = .moving ∧ moveCopy.kind = some .move ∧ (w.1.tickedSeg .A).atEnd = true) ∧
    let s := (atGap 100 9000 watchedHolding).setUnit 5 { owned with state := .armed, armedBy := .block 3 }
    s.meetsTick .A (follow s) = true ∧ (s.arm .A).exec ≠ none ∧ (s.arm .A).state = .active ∧ (s.arm .A).holding = true ∧
      (s.arm .A).phase.brakes = false ∧ (s.tickedSeg .A).v = 0 ∧ (s.tickedSeg .A).atEnd = false ∧
      s.latches[(5 : Fin 16)].alloc = some .A ∧ s.latches[(5 : Fin 16)].mode = .capture := by decide +kernel

/-- STOPPING of a MOVE for a cause, its lane paused, with a velocity and at a distance from the segment's end. -/
def stoppingFor (c : Cause) (v gap : Nat) (s : State := movingA) : State :=
  let t := atGap v gap (s.modArm .A fun r => r.stopping c)
  { t with lanes := t.lanes.set .A { t.lanes.a with paused := true } }

/-- At rest on the way for each cause, with a loss of the probe noted in one; at the segment's end; after the crossing; and
where it crosses. -/
theorem witness_TickAdvancesAndEnds_stopping :
    let lost := stoppingFor (.fault .probeLost) 100 9000 ((movingA mountedA).modArm .A fun r => { r with probeLost := true })
    let crossed := (stoppingFor .stopLine 400000 100 (committing movingA)).modArm .A fun r => { r with crossed := true }
    let crosses := stoppingFor .abort 400000 100 (committing movingA)
    (∀ s ∈ [stoppingFor .abort 100 9000, stoppingFor .stopLine 100 9000 (committing movingA), lost,
        stoppingFor (.fault .collision) 400000 100, crossed].flatMap grants,
      releases s = true ∧ s.meetsTick .A (follow s) = true ∧ (s.arm .A).state = .stopping ∧
        ((s.arm .A).exec.map Block.slot) = some moveCopy ∧
        (s.arm .A).cause ≠ none ∧ ((s.tickedSeg .A).v = 0 ∨ ((s.tickedSeg .A).atEnd = true ∧
          ((s.arm .A).committed = none ∨ (s.arm .A).crossed = true))) ∧
        (s.lanes.get .A).paused = true ∧ fits s moveCopy = true ∧ (s.arm .A).changing = false ∧
        (s.arm .A).committed.all (fun h => h.slot.index != 3 && h.slot == moveTo 4 1 [1500, 0, 0]) = true ∧
        fits s (moveTo 4 1 [1500, 0, 0]) = true) ∧
    ((lost.arm .A).probeLost = true ∧ (lost.arm .A).mounted = .probe 3) ∧
    (crosses.meetsTick .A (follow crosses) = true ∧ (crosses.arm .A).exec ≠ none ∧ (crosses.arm .A).state = .stopping ∧
      (crosses.arm .A).committed ≠ none ∧ (crosses.arm .A).crossed = false ∧ (crosses.tickedSeg .A).v ≠ 0 ∧
      (crosses.tickedSeg .A).atEnd = true) := by decide +kernel

theorem witness_SegmentReachesItsEnd : 0 < 1966 ∧ 0 < segment.f1 ∧ 0 < segment.f2 ∧ segment.pos ≤ segment.total ∧
    segment.pos < segment.total ∧ 0 < segment.len ∧ ({ segment with pos := segment.total } : Seg).pos = segment.total := by
  decide +kernel

theorem witness_ChainComesBack : mountedA.corr.active.ok = true ∧
    ((mountedA.chain .A).fromPart ⟨10595160, 0, 0⟩).isSome = true := by decide +kernel

/-! ## Witnesses: the lines and the head link -/

theorem witness_LineChangeReachesUnits :
    let s := ownedA.setUnit 5 { owned with state := .armed, armedBy := .standing }
    s.settled = true ∧ s.pins.trig.get .A ≠ true ∧ s.firing .A .trig true = false ∧ s.watchOn .A = false ∧
      (s.pins.refm.get .A).get .Z ≠ true ∧ s.firing .A (.refm .Z) true = false ∧ s.pins.ext[(3 : Fin 4)] ≠ true ∧
      s.firing .A (.ext 3) true = false ∧ s.firing .B (.ext 3) true = false := by decide +kernel

/-- Arm A runs in a phase of a block in slot 3 whose unit, 5, is armed on a line. -/
def searching (p : Phase) (input : CaptureInput) (st : ArmState := .active) : State :=
  let s := (movingA mountedA).modArm .A fun r =>
    { r with state := st, phase := p, seg := { r.seg with v := 1966 }
             exec := r.exec.map fun b => { b with slot := copyOf 3 7 9 1 [] } }
  s.setUnit 5 { owned with state := .armed, armedBy := .block 3, input := input }

theorem witness_LineChangeReachesUnits_block :
    (∀ w ∈ [(Phase.search, ArmState.active), (.search, .stopping), (.touch 4 .search, .active)],
      let s := searching w.1 .trig w.2
      s.settled = true ∧ s.pins.trig.get .A = false ∧ s.firing .A .trig true = true ∧ (s.arm .A).moving = true ∧
        (s.arm .A).exec ≠ none ∧ (s.arm .A).phase = w.1 ∧ (s.arm .A).state = w.2 ∧ 0 < (s.arm .A).seg.v ∧
        ((s.chain .A).toPart (s.counts .A)).isSome = true) ∧
    let s := searching (.homeSearch .Z) (.refm .Z)
    s.settled = true ∧ (s.pins.refm.get .A).get .Z = false ∧ s.firing .A (.refm .Z) true = true ∧
      (s.arm .A).phase = .homeSearch .Z ∧ (s.arm .A).state = .active ∧ (s.arm .A).moving = true ∧
      0 < (s.arm .A).seg.v := by decide +kernel

theorem witness_CollisionStopsArm : watched.calm = true ∧ watched.pins.trig.get .A = false ∧ watched.watchOn .A = true ∧
    watched.firing .A .trig true = false ∧ (watched.arm .A).state = .active ∧ 0 < (watched.arm .A).seg.v := by decide +kernel

theorem witness_CoverOpenEndsWait :
    let s := coverWaiting
    (s.settled = true ∧ s.pins.coverOpen.get .A ≠ true ∧ (s.arm .A).coverTimer = some 500 ∧
      (s.arm .A).phase = .changing .stowApproach .stow ∧ (s.arm .A).exec ≠ none ∧ (s.arm .A).state = .active ∧
      (s.arm .A).moving = false ∧ (s.arm .A).holdLevel = false ∧ (s.arm .A).due = none ∧
      ((s.arm .A).exec.map fun b => (firstSeg s .A b (b.approachIndex .stow + 1) (b.slot.nat 6)).len != 0) = some true) ∧
    base.settled = true ∧ base.pins.coverOpen.get .A ≠ true ∧ (base.arm .A).coverTimer = none := by decide +kernel

/-- Arm A waits for SEAT high after UNLOCK. -/
def seatWaiting : State := (executing changeCopy (.changing .release .stow) mountedA).modArm .A fun r =>
  { r with seatWait := .high 500, seatLow := true, exec := r.exec.map fun b => { b with
      change := ⟨some 6, some 3, some 4, some 2, 0, 0, none⟩ } }

theorem witness_SeatTimeoutFaultsAndSettles :
    (∀ s ∈ [seatWaiting, grantA seatWaiting, insideA seatWaiting], s.calm = true ∧ s.restingBlock .A = true ∧
      (s.arm .A).seatWait ≠ .none) ∧
    ∀ s ∈ [waitingB seatWaiting, insideA (waitingB seatWaiting)], s.calm = true ∧ (s.arm .A).exec ≠ none ∧
      (s.arm .A).moving = false ∧ (s.arm .A).state = .active ∧ (s.arm .A).seatWait ≠ .none ∧ s.holdsGrant .A = true ∧
      asks s = true := by decide +kernel

/-- Arm A in a phase of the change of 8.7, with a mounted value and SEAT low or high. -/
def changing (p : ChangePhase) (h : Half) (m : Mounted) (low : Bool) : State :=
  (executing changeCopy (.changing p h) mountedA).modArm .A fun r => { r with
    mounted := m
    seatLow := low
    exec := r.exec.map fun b => { b with
      change := ⟨some 6, some 3, some 4, some 2, 0, 0, none⟩
      targets := [⟨4000, 3000, 1000⟩, ⟨4000, 3000, 500⟩, ⟨5000, 3000, 1000⟩, ⟨5000, 3000, 500⟩] } }

/-- The settlement in the wait of RELEASE, in a cover wait, and at an ABORT in ENGAGE, where port 4 holds record 6. -/
theorem witness_SeatTimeoutFaultsAndSettles_settled :
    (∀ s ∈ [seatWaiting, coverWaiting, changing .engage .fetch .none true, changing .release .stow (.probe 3) false],
      s.calm = true ∧ s.restingBlock .A = true ∧ (s.arm .A).exec ≠ none ∧ (s.arm .A).changing = true ∧
        (s.arm .A).probeLost = false ∧ s.device = .run) ∧
    ((seatWaiting.arm .A).seatWait ≠ .none ∧ (seatWaiting.arm .A).debouncing = false) ∧
    (coverWaiting.arm .A).coverTimer = some 500 ∧
    ((changing .engage .fetch .none true).changeOf .A).bind (·.fetchPort) = some 4 ∧
    mountedA.tables.ports[(4 : Fin 12)].state = .occupied 6 := by decide +kernel

/-- A debounce of arm A runs toward a level. -/
def debouncing (low : Bool) (m : Mounted) (s : State := base) : State :=
  { s with pins := { s.pins with hseatLow := ⟨low, false⟩ } }.modArm .A fun r =>
    { r with debouncing := true, seatLow := !low, mounted := m }

theorem witness_SeatIsDebouncedAndRead :
    base.pins.hseatLow.get .A ≠ true ∧
    (∀ s ∈ [debouncing true .none, debouncing false .unverified, debouncing false .foreign, debouncing false (.probe 3) mountedA],
      s.calm = true ∧ (s.arm .A).debouncing = true ∧ (s.arm .A).exec = none ∧ (s.arm .A).phase = .none ∧
        s.unasked .A = true ∧ (s.arm .A).moving = false ∧ (s.arm .A).state = .idle) ∧
    (debouncing true .none).pins.hseatLow.get .A = true ∧
    (debouncing false (.probe 3) mountedA).pins.hseatLow.get .A = false := by decide +kernel

/-- A debounce toward a level runs in a block of arm A. -/
def turning (low : Bool) (s : State) : State :=
  { s with pins := { s.pins with hseatLow := ⟨low, false⟩ } }.modArm .A fun r => { r with debouncing := true, seatLow := !low }
def waitsSeat (s : State) : State := s.modArm .A fun r => { r with seatWait := .high 500 }
def runsA (s : State) : State := s.modArm .A fun r => { r with moving := true, seg := { Tests.segment with v := 1966 } }
/-- An IDENTIFY of arm A with a mounted value. -/
def identifying (m : Mounted) : State := (executing identCopy .identifying mountedA).modArm .A fun r => { r with mounted := m }

/-- SEAT goes high: in an IDENTIFY and in the phases that read it, then in those that let it pass. -/
theorem witness_SeatIsDebouncedAndRead_high :
    let read := [identifying .foreign, identifying (.probe 3), changing .engage .fetch .none true,
      changing .identify .fetch .unverified true, changing .stowApproach .stow (.probe 3) true,
      runsA (changing .stowApproach .stow (.probe 3) true), runsA (changing .portRetract .fetch (.probe 6) true),
      runsA (changing .portRetract .fetch .foreign true), waitsSeat (changing .release .stow (.probe 3) true),
      waitsSeat (changing .portRetract .stow .none true)]
    let quiet := [changing .dock .stow (.probe 3) true, changing .fetchApproach .fetch .none true,
      changing .release .stow (.probe 3) true, changing .portRetract .stow .none true,
      waitsSeat (changing .engage .fetch .none true)]
    (∀ u ∈ read ++ quiet,
      let s := turning false u
      s.calm = true ∧ (s.arm .A).debouncing = true ∧ (s.arm .A).exec ≠ none ∧ s.pins.hseatLow.get .A = false ∧
        (s.arm .A).state = .active ∧ s.unasked .A = true ∧ (s.lanes.get .A).paused = false ∧ (s.arm .A).due = none ∧
        (s.arm .A).holdLevel = false ∧ ((s.arm .A).moving = false → s.restingBlock .A = true) ∧
        ((s.arm .A).moving = true → 0 < (s.arm .A).seg.v)) ∧
    (∀ w ∈ [(waitsSeat (changing .release .stow (.probe 3) true), 0), (waitsSeat (changing .portRetract .stow .none true), 2)],
      ((w.1.arm .A).exec.any fun b => b.passed && b.slot.kind == some .changeProbe && b.change.stowed == some 3 &&
        b.change.stowPort == some 2 && (firstSeg w.1 .A b w.2 (b.slot.nat (if w.2 = 0 then 6 else 5))).len != 0) = true) := by
  decide +kernel

/-- SEAT goes low: in a phase that lets it pass, in the wait of ENGAGE and in an IDENTIFY. -/
theorem witness_SeatIsDebouncedAndRead_low :
    (∀ u ∈ [changing .dock .fetch .none false, waitsSeat (changing .engage .fetch .none false), identifying .foreign],
      let s := turning true u
      s.calm = true ∧ (s.arm .A).debouncing = true ∧ (s.arm .A).exec ≠ none ∧ s.pins.hseatLow.get .A = true ∧
        (s.arm .A).state = .active ∧ (s.arm .A).moving = false ∧ (s.arm .A).due = none ∧ (s.arm .A).holdLevel = false) ∧
    ((waitsSeat (changing .engage .fetch .none false)).arm .A).seatWait ≠ .none ∧
    ((identifying .foreign).arm .A).mounted ≠ .none := by decide +kernel

/-- Arm A's controller in a state of its engine, in an IDENTIFY. -/
def linkIn (e : Engine) (c : LinkCmd := .readId) (buf : List Byte := []) : State :=
  (executing identCopy .identifying mountedA).modArm .A fun r => { r with link := ⟨e, c, 1, none, 104, buf⟩ }

theorem witness_LinkEventsAdvanceEngine : (linkIn .wake).engine .A = .wake ∧ (linkIn .syncWait).engine .A = .syncWait ∧
    (linkIn .sync).engine .A = .sync ∧ 13 ≤ (2 * (125 : BitVec 16).toNat + 10) / 20 ∧ (linkIn .send).engine .A = .send ∧
    (linkIn .replyWait).settled = true ∧ (linkIn .replyWait).engine .A = .replyWait ∧
    ((linkIn .replyWait).arm .A).link.buf.length < ((linkIn .replyWait).arm .A).link.cmd.expected ∧
    (linkIn .pause).engine .A = .pause := by decide +kernel

/-- A READ_ID reply with the identity of 12.10's serial and kind, whose sum is 0; and one byte of it wrong. -/
def reply52014 : List Byte := [1, 1, 0x2E, 0xCB] ++ List.replicate 27 0 ++ [5]
def replyBad : List Byte := [1, 1, 0x2E, 0xCB] ++ List.replicate 27 0 ++ [6]
/-- The commands at which an attempt fails, with the state of the engine, its command and bytes, and the kind. -/
def failures : List (Instr × Engine × LinkCmd × List Byte × LinkKind) :=
  [(.syncTimeout .A, .syncWait, .readId, [], .timeout), (.syncOverflow .A, .sync, .readId, [], .rate),
    (.syncRise .A 124, .sync, .readId, [], .rate), (.syncRise .A 0, .sync, .readId, [], .rate),
    (.replyTimeout .A, .replyWait, .readId, [], .timeout), (.replyByte .A 0x7FF, .receive, .readId, [1], .framing),
    (.replyByte .A 0x600, .replyWait, .readId, [], .parity), (.replyByte .A 0x54A, .receive, .lock, [0xA5], .length),
    (.replyGapExpiry .A, .receive, .readId, reply52014.take 31, .timeout),
    (.replyGapExpiry .A, .receive, .readId, replyBad, .checksum), (.replyGapExpiry .A, .receive, .unlock, [0x5A], .refused),
    (.replyGapExpiry .A, .receive, .lock, [0x77], .framing)]

/-- An attempt of arm A in IDENTIFY or in a phase of a change. -/
def attempt (n : Nat) (w : Instr × Engine × LinkCmd × List Byte × LinkKind) (s : State) : State :=
  s.modArm .A fun r => { r with link := ⟨w.2.1, w.2.2.1, n, some .rate, 104, w.2.2.2.1⟩ }

theorem witness_LinkAttemptEnds : ∀ w ∈ failures, ∀ n s, (attempt n w s).linkFails .A w.1 w.2.2.2.2 := by
  intro w hw n s
  have h : ((attempt n w s).arm .A).link = ⟨w.2.1, w.2.2.1, n, some .rate, 104, w.2.2.2.1⟩ := rfl
  simp only [State.linkFails, h]
  simp only [failures, List.mem_cons, List.not_mem_nil, or_false] at hw
  rcases hw with rfl | rfl | rfl | rfl | rfl | rfl | rfl | rfl | rfl | rfl | rfl | rfl <;>
    simp [LinkCmd.expected, reply52014, replyBad, byteSum]
  all_goals decide

theorem witness_LinkAttemptEnds_standing : ∀ w ∈ failures,
    ((attempt 1 w (linkIn .idle)).settled = true ∧ ((attempt 1 w (linkIn .idle)).arm .A).link.attempt = 1) ∧
    (∀ s ∈ [attempt 2 w (linkIn .idle), attempt 2 w seatWaiting], s.calm = true ∧ (s.arm .A).link.attempt = 2 ∧
      (s.arm .A).exec ≠ none ∧ s.unasked .A = true ∧ s.restingBlock .A = true ∧ (s.arm .A).committed = none ∧
      s.shm.wf = true ∧ (s.lanes.get .A).slotBase 3 + 32 ≤ 65536) ∧
    ((attempt 2 w (linkIn .idle)).arm .A).phase = .identifying ∧
    ((attempt 2 w seatWaiting).arm .A).phase = .changing .release .stow := by decide +kernel

/-- UNLOCK has been answered with ACK. -/
def unlocking : State := (executing changeCopy (.changing .release .stow) mountedA).modArm .A fun r =>
  { r with seatLow := true, link := ⟨.receive, .unlock, 1, none, 104, [0xA5]⟩ }

theorem witness_LinkAttemptEnds_unlock : unlocking.settled = true ∧ unlocking.engine .A = .receive ∧
    (unlocking.arm .A).link.cmd = .unlock ∧ (unlocking.arm .A).link.buf = [0xA5] ∧
    (unlocking.arm .A).phase = .changing .release .stow ∧ (unlocking.arm .A).exec ≠ none ∧
    (unlocking.arm .A).seatLow = true := by decide +kernel

/-- Arm A in a phase of the fetch of record 6 from port 4, a reply received. -/
def fetching (p : ChangePhase) (cmd : LinkCmd) (buf : List Byte) (target : Fin 24 := 6) : State :=
  (executing changeCopy (.changing p .fetch) mountedA).modArm .A fun r => { r with
    mounted := .unverified
    link := ⟨.receive, cmd, 1, none, 104, buf⟩
    exec := r.exec.map fun b => { b with
      change := ⟨some target, none, some 4, none, 0, 0, none⟩
      targets := [⟨5000, 3000, 1000⟩, ⟨5000, 3000, 500⟩] } }

theorem witness_LinkAttemptEnds_change :
    (∀ s ∈ [fetching .engage .lock [0xA5], fetching .identify .readId reply52014, fetching .identify .readId reply52014 5],
      s.settled = true ∧ s.engine .A = .receive ∧ ((s.arm .A).exec.map fun b => b.passed && b.slot.kind == some .changeProbe) =
        some true ∧ (s.arm .A).state = .active ∧ (s.arm .A).moving = false ∧ (s.arm .A).due = none ∧
        (s.arm .A).holdLevel = false ∧ (s.arm .B).exec = none ∧
        ((s.arm .A).exec.map fun b => (firstSeg s .A b (b.approachIndex .fetch) (b.slot.nat 6)).len != 0) = some true) ∧
    ((fetching .engage .lock [0xA5]).arm .A).phase = .changing .engage .fetch ∧
    ((fetching .identify .readId reply52014).arm .A).phase = .changing .identify .fetch := by decide +kernel

/-- The reply names record 6; with the serial of no record it names none. -/
def reply52015 : List Byte := [1, 1, 0x2F, 0xCB] ++ List.replicate 27 0 ++ [4]

theorem witness_LinkAttemptEnds_identity :
    (∀ s ∈ [fetching .identify .readId reply52014, linkIn .receive .readId reply52014],
      s.identityRead .A ∧ s.identifies .A 6) ∧
    (linkIn .receive .readId reply52015).identityRead .A ∧ (∀ q, ¬ (linkIn .receive .readId reply52015).names .A q) ∧
    (linkIn .receive .readId reply52014).calm = true ∧ (linkIn .receive .readId reply52014).engine .A = .receive ∧
    ((linkIn .receive .readId reply52014).arm .A).exec ≠ none ∧ ((linkIn .receive).arm .B).exec = none ∧
    (linkIn .receive).unasked .A = true ∧ (linkIn .receive).shm.wf = true ∧
    ((linkIn .receive).lanes.get .A).slotBase 3 + 32 ≤ 65536 := by
  unfold State.identityRead State.identifies State.names
  decide +kernel

/-- Arm A reads record 6 in an IDENTIFY, beside arm B in a block with a mounted value, record 6 at a place. -/
def beside (c : SlotCopy) (p : Phase) (m : Mounted) (at_ : Location) (change : ChangeProg := (Block.fresh c).change) : State :=
  let s := (linkIn .receive .readId reply52014).modArm .B fun r => { r with
    state := .active, phase := p, mounted := m, seatLow := true
    exec := some { Block.fresh c with passed := true, change := change } }
  { s with tables := s.tables.modProbe 6 fun q => { q with loc := at_ } }.setUnit 8 { owned with
    alloc := some .B, state := .armed, armedBy := .block 3 }

/-- The record that arm B probes with; one that is mounted on arm B, named in the program of its change, or in its port. -/
def besideTouches : List State :=
  [beside touchCopy .search (.probe 6) (.mounted .B), beside qualCopy (.touch 0 .search) (.probe 6) (.mounted .B)]
def besideChanges : List State :=
  let change (target : Fin 24) : ChangeProg := ⟨some target, none, some 4, none, 0, 0, none⟩
  [beside changeCopy (.changing .stowApproach .stow) (.probe 6) (.mounted .B) (change 7),
    beside changeCopy (.changing .identify .fetch) .unverified .unknown (change 6),
    beside changeCopy (.changing .engage .fetch) .none (.inPort 4) (change 7)]

theorem witness_LinkAttemptEnds_otherArm :
    ∀ s ∈ besideTouches ++ besideChanges, s.identityRead .A ∧ s.identifies .A 6 := by
  unfold State.identityRead State.identifies State.names
  decide +kernel

theorem witness_LinkAttemptEnds_otherArm_standing :
    (∀ s ∈ besideTouches ++ besideChanges, s.calm = true ∧ s.engine .A = .receive ∧ (s.arm .A).phase = .identifying ∧
      (s.arm .A).exec ≠ none ∧ s.unasked .A = true ∧ s.unasked .B = true ∧
      (s.arm .B).exec.any (fun b => b.passed) = true ∧ (s.arm .B).state = .active ∧
      s.latches[(8 : Fin 16)].alloc = some .B ∧ s.latches[(8 : Fin 16)].armedBy = .block 3) ∧
    (∀ s ∈ besideTouches, (s.arm .B).changing = false ∧ (s.arm .B).mounted = .probe 6 ∧
      s.tables.probes[(6 : Fin 24)].loc = .mounted .B) ∧
    (besideChanges.map fun s => (s.arm .B).exec.map fun b => (b.slot.kind, b.change.target, b.change.fetchPort)) =
      [some (some .changeProbe, some 7, some 4), some (some .changeProbe, some 6, some 4),
        some (some .changeProbe, some 7, some 4)] ∧
    (besideChanges.map fun s => s.tables.probes[(6 : Fin 24)].loc) = [.mounted .B, .unknown, .inPort 4] ∧
    ∀ s ∈ besideChanges, s.tables.ports[(4 : Fin 12)].state ≠ .unknown := by decide +kernel

/-! ## Witnesses: temperatures and the Condition Page -/

/-- A channel at the ends of its ranges. -/
theorem witness_SampleTemperatureAndTests :
    let c : Channel := { channel12 with gain := 1048576, offset := 32767 }
    4095 ≤ 4095 ∧ (c.gain).natAbs ≤ 1048576 ∧ -32768 ≤ c.offset ∧ c.offset ≤ 32767 := by decide +kernel

/-- Bad and good samples of 2.7's channel in each of its states: hold limits 1 and 3, shifts 0 and 2, a code at the low
one. -/
theorem witness_SampleTemperatureAndTests_records :
    let c (st : ChanState) (f : Nat) : Channel := { channel12 with state := st, bad := f }
    (∀ d ∈ [c .valid 0, { c .valid 0 with holdLimit := 1 }, c .suspect 1, c .suspect 2, c .lost 2, c .lost 3],
      d.sampleBad 0 = true ∧ 1 ≤ d.holdLimit) ∧
    (∀ d ∈ [c .valid 0, c .suspect 2, c .lost 3, { c .valid 0 with shift := 0 }], d.sampleBad 2860 = false) ∧
    (c .suspect 2).holdLimit = 2 + 1 ∧ 1 ≤ (c .valid 0).shift ∧ ((0 : Nat) : Int) ≤ (c .valid 0).codeLo := by decide +kernel

/-- Channels 12 and 13 VALID in group 6 (2.7). -/
def headGroups : Thermal := { Thermal.reset with
  chans := (Thermal.reset.chans.set 12 { channel12 with value := 2827 }).set 13 { channel12 with value := 2830 }
  groups := Thermal.reset.groups.set 6 { Group.reset with members := [12, 13] } }

theorem witness_GroupTakesRoundedMean : headGroups.validValues headGroups.groups[(6 : Fin 10)] ≠ [] := by decide +kernel

/-- A group whose members are not VALID, below its hold limit and at it, beside an AIR that is VALID and one that is not;
AIR at its own limit; a group with no members. -/
theorem witness_GroupTakesRoundedMean_noneValid :
    let member (h : Nat) : Machine.Group := { Group.reset with members := [12, 13], holdLimit := 3, held := h }
    let t (h : Nat) : Thermal := { Thermal.reset with groups := Thermal.reset.groups.set 6 (member h) }
    let air : Thermal := { t 2 with
      chans := Thermal.reset.chans.set 20 channel12
      groups := (t 2).groups.set 9 { Group.reset with members := [20] } }
    let airLost : Thermal := { Thermal.reset with groups := Thermal.reset.groups.set 9 (member 2) }
    (∀ u ∈ [t 1, t 2, air], u.groups[(6 : Fin 10)].members ≠ [] ∧
      ∀ m ∈ u.groups[(6 : Fin 10)].members, u.chans[m].state ≠ .valid) ∧
    (min ((t 1).groups[(6 : Fin 10)].held + 1) 255 < 3 ∧ 3 ≤ min ((t 2).groups[(6 : Fin 10)].held + 1) 255) ∧
    (air.scanEnded.groups[(9 : Fin 10)] : Machine.Group).state = .valid ∧
    ((t 2).scanEnded.groups[(9 : Fin 10)] : Machine.Group).state ≠ .valid ∧
    (airLost.groups[(9 : Fin 10)].members ≠ [] ∧ ∀ m ∈ airLost.groups[(9 : Fin 10)].members, airLost.chans[m].state ≠ .valid) ∧
    Thermal.reset.groups[(0 : Fin 10)].members = [] := by decide +kernel

/-- The scan timer runs; two channels are listed. -/
def scanning (scan : Option (List (Fin 32))) : State :=
  { base with therm := { headGroups with scanTimer := some 1000, scan := scan } }

theorem witness_ScanSamplesAndPublishes : (scanning none).therm.scanTimer ≠ none ∧ (scanning none).therm.scan = none ∧
    (scanning none).therm.scanList ≠ [] ∧
    ({ base with therm := { base.therm with scanTimer := some 1000 } } : State).therm.scanList = [] ∧
    (scanning (some [12, 13])).therm.scan = some (12 :: [13]) ∧ (scanning (some [13])).therm.scan = some (13 :: []) ∧
    (scanning none).svc = none := by decide +kernel

/-- A held SET_SENSOR, listed and not, a held SET_GROUP, and one that names channel 12 of group 6. -/
theorem witness_ScanSamplesAndPublishes_held :
    let s (c : SlotCopy) : State := { base with svc := some ⟨c, true⟩ }
    let other : State := { scanning (some []) with svc := some ⟨groupCopy, true⟩ }
    ((s sensorCopy).svc = some ⟨sensorCopy, true⟩ ∧ sensorCopy.svcKind = some .setSensor ∧
      sensorCopy.nat 4 = (31 : Fin 32).val ∧ sensorCopy.nat 5 = 1 ∧ sensorCopy.sensorSettingsOk = true) ∧
    (sensorOff.svcKind = some .setSensor ∧ sensorOff.nat 4 = (31 : Fin 32).val ∧ sensorOff.nat 5 = 0) ∧
    (groupCopy.svcKind = some .setGroup ∧ groupCopy.nat 4 = (9 : Fin 10).val ∧ groupCopy.groupMembers = some [12, 13] ∧
      ([12, 13] : List (Fin 32)).Nodup ∧ 1 ≤ groupCopy.nat 10 ∧ groupCopy.nat 10 ≤ 255) ∧
    (∀ h : Fin 10, ∀ m ∈ ([12, 13] : List (Fin 32)),
      m ∉ ((State.scanEnd { s groupCopy with svc := none }).therm.groups[h] : Machine.Group).members) ∧
    (12 : Fin 32) ∈ ((State.scanEnd { other with svc := none }).therm.groups[(6 : Fin 10)] : Machine.Group).members := by
  decide +kernel

theorem witness_HistoryRecordsRings :
    let s : State := { ringFull with therm := { ringFull.therm with
      historyTimer := some 30
      snap := { ringFull.therm.snap with groups := ringFull.therm.snap.groups.set 8 ⟨2700, .held⟩ } } }
    s.therm.historyTimer ≠ none ∧ (s.arm .A).phase ≠ .waitingStable ∧ (s.arm .B).phase ≠ .waitingStable ∧
      (s.therm.snap.groups[(9 : Fin 10)].state = .empty ∧ s.therm.groups[(9 : Fin 10)].ring.length = 16) ∧
      s.therm.snap.groups[(8 : Fin 10)].state = .held := by decide +kernel

/-- Group 9's ring is full and within the band after the expiry; arm A waits for it, then both arms do. -/
theorem witness_HistoryRecordsRings_ready :
    let one : State := { stabilising with therm := { ringFull.therm with historyTimer := some 30 } }
    let both : State := one.modArm .B fun _ => { one.arm .A with exec := some (Block.fresh stableCopy) }
    (∀ s ∈ [one, both], s.therm.historyTimer ≠ none ∧ s.calm = true ∧ s.zone.holder = none ∧
      (s.therm.recorded.groups[(9 : Fin 10)] : Machine.Group).ring = List.replicate 16 2560 ∧
      (s.arm .A).phase = .waitingStable ∧ ((s.arm .A).exec.map Block.slot) = some stableCopy ∧
      stableCopy.nat 4 = (9 : Fin 10).val) ∧
    (one.arm .B).phase ≠ .waitingStable ∧ (both.arm .B).phase = .waitingStable ∧
    ((both.arm .B).exec.map Block.slot) = some stableCopy := by decide +kernel

theorem witness_RefreshWritesPage :
    let s : State := { base with refreshDue := true, refreshTimer := some 100 }
    s.shm.wf = true ∧ s.device = .run ∧ s.refreshTimer ≠ none ∧ s.refreshDue = true := by decide +kernel

end Sys2Proof.Tests
end

section
/-! The Correction Unit's service request STAGE_SET (R17). -/

namespace Sys2Proof.Machine

/-! ## Coefficient sets -/

theorem coeffOk_iff (i : Int) : coeffOk i = true ↔ -131072 ≤ i ∧ i ≤ 131071 := by
  simp [coeffOk]

/-- The range test of a set read from seven words is the range test of each word, by its index. -/
theorem coeffSet_ok_iff (f : Nat → Int) (i : Nat) :
    (coeffSet f i).ok = true ↔ ∀ k, k < 7 → -131072 ≤ f (i + k) ∧ f (i + k) ≤ 131071 := by
  simp only [CoeffSet.ok, coeffSet, Bool.and_eq_true, coeffOk_iff]
  constructor
  · rintro ⟨⟨⟨⟨⟨⟨h0, h1⟩, h2⟩, h3⟩, h4⟩, h5⟩, h6⟩ k hk
    match k, hk with
    | 0, _ => exact h0
    | 1, _ => exact h1
    | 2, _ => exact h2
    | 3, _ => exact h3
    | 4, _ => exact h4
    | 5, _ => exact h5
    | 6, _ => exact h6
  · intro h
    exact ⟨⟨⟨⟨⟨⟨h 0 (by decide), h 1 (by decide)⟩, h 2 (by decide)⟩, h 3 (by decide)⟩, h 4 (by decide)⟩,
      h 5 (by decide)⟩, h 6 (by decide)⟩

/-- One word outside the range fails the set. -/
theorem coeffSet_not_ok {f : Nat → Int} {i k : Nat} (hk : k < 7)
    (out : f (i + k) < -131072 ∨ 131071 < f (i + k)) : (coeffSet f i).ok = false := by
  rw [Bool.eq_false_iff]
  intro ok
  obtain ⟨lo, hi⟩ := (coeffSet_ok_iff f i).mp ok k hk
  omega

/-! ## The service engine executes a request -/

/-- A service command runs the effect of its kind on the request in execution (log 4). -/
theorem serveKind_of_serving {s : State} {k : SvcKind} {c : SlotCopy} (h : s.serving k c = true)
    (f : State → SlotCopy → State) : serveKind s k f = f s c := by
  have now : s.svcNow k = some c := by simpa [State.serving] using h
  simp [serveKind, now]

/-! ## STAGE_SET -/

theorem exec_stageSet_of_serving {s : State} {c : SlotCopy} (h : s.serving .stageSet c = true) :
    exec .stageSet s = .next (s.stageSet c) :=
  congrArg Host.Outcome.next (serveKind_of_serving h State.stageSet)

theorem State.stageSet_of_ok (s : State) {c : SlotCopy} (ok : (coeffSet c.int 4).ok = true) :
    s.stageSet c = { s with corr := { s.corr with staged := coeffSet c.int 4 } }.svcAnswer (.done []) :=
  if_pos ok

theorem State.stageSet_of_not_ok (s : State) {c : SlotCopy} (bad : (coeffSet c.int 4).ok = false) :
    s.stageSet c = s.svcAnswer (.refused .badField) :=
  if_neg (Bool.eq_false_iff.mp bad)

/-- Settles O28: the engine runs `State.stageSet` on the request, whose range test is the statement's, word by word. -/
theorem stageSetChecksThenStages : Obligations.StageSetChecksThenStages := by
  intro s c serving
  rw [exec_stageSet_of_serving serving]
  constructor
  · intro inRange
    rw [s.stageSet_of_ok ((coeffSet_ok_iff c.int 4).mpr inRange)]
    rfl
  · rintro ⟨k, hk, out⟩
    rw [s.stageSet_of_not_ok (coeffSet_not_ok hk out)]

end Sys2Proof.Machine
end

section
/-! A sample of a temperature channel: R25 to R28. -/

namespace Sys2Proof.Machine

namespace Channel

variable {c : Channel} {code n : Nat}

/-! ## The calibrated temperature -/

/-- R25's bound on the product: 12 bits of code times 20 bits of gain. -/
theorem natAbs_code_mul_gain_le (hcode : code ≤ 4095) (hgain : c.gain.natAbs ≤ 1048576) :
    ((code : Int) * c.gain).natAbs ≤ 2 ^ 32 := by
  rw [Int.natAbs_mul, Int.natAbs_natCast]
  calc code * c.gain.natAbs ≤ 4095 * 1048576 := Nat.mul_le_mul hcode hgain
    _ ≤ 2 ^ 32 := by decide

/-! ## The three tests -/

theorem sampleBad_iff (c : Channel) (code : Nat) : c.sampleBad code = true ↔
    (code : Int) ≤ c.codeLo ∨ c.codeHi ≤ (code : Int) ∨
      (c.state ≠ .lost ∧ c.stepLimit < |c.rawTemp code - c.value|) := by
  simp [sampleBad, or_assoc]

/-- The low code limit makes a sample bad in every state, LOST included. -/
theorem sampleBad_of_le_codeLo (low : (code : Int) ≤ c.codeLo) : c.sampleBad code = true :=
  (c.sampleBad_iff code).mpr (.inl low)

theorem sample_of_bad (h : c.sampleBad code = true) : c.sample code = c.afterBad := if_pos h

theorem sample_of_good (h : c.sampleBad code = false) : c.sample code = c.afterGood (c.rawTemp code) :=
  if_neg (Bool.eq_false_iff.mp h)

/-! ## A bad sample, by the state it finds -/

theorem afterBad_of_valid (h : c.state = .valid) :
    c.afterBad = { c with bad := 1, state := if c.holdLimit ≤ 1 then .lost else .suspect } := by
  simp [afterBad, h]

theorem afterBad_of_suspect (h : c.state = .suspect) :
    c.afterBad = { c with bad := c.bad + 1, state := if c.holdLimit ≤ c.bad + 1 then .lost else .suspect } := by
  simp [afterBad, h]

theorem afterBad_of_lost (h : c.state = .lost) :
    c.afterBad = { c with bad := if c.bad < c.holdLimit then c.bad + 1 else c.bad } := by
  simp [afterBad, h]

/-! ## A good sample -/

/-- A LOST channel and one without a filter take the sample's temperature as it is. -/
theorem afterGood_unfiltered (h : c.state = .lost ∨ c.shift = 0) (t : Int) :
    c.afterGood t = { c with value := t, state := .valid, bad := 0 } := by
  simp only [afterGood, if_pos h]

/-- Any other channel moves by the 2^k-th part of the difference, rounded, within the room's range. -/
theorem afterGood_filtered (live : c.state ≠ .lost) (hk : 1 ≤ c.shift) (t : Int) :
    c.afterGood t = { c with
      value := max (-2560) (min (c.value + (t - c.value + 2 ^ (c.shift - 1)) / 2 ^ c.shift) 7680)
      state := .valid
      bad := 0 } := by
  have filtered : ¬ (c.state = .lost ∨ c.shift = 0) := not_or.mpr ⟨live, Nat.one_le_iff_ne_zero.mp hk⟩
  simp only [afterGood, if_neg filtered, clampTemp, clamp]

/-! ## Bad samples in every scan -/

/-- The record that `n` bad samples in a row make of a VALID one: the count stands at the hold limit once it has met
it (R27). -/
def afterBadRun (c : Channel) : Nat → Channel
  | 0 => c
  | n + 1 => { c with bad := min (n + 1) c.holdLimit, state := if c.holdLimit ≤ n + 1 then .lost else .suspect }

@[simp] theorem afterBadRun_codeLo (c : Channel) (n : Nat) : (c.afterBadRun n).codeLo = c.codeLo := by
  cases n <;> rfl

@[simp] theorem afterBadRun_value (c : Channel) (n : Nat) : (c.afterBadRun n).value = c.value := by
  cases n <;> rfl

theorem afterBadRun_succ_state (c : Channel) (n : Nat) :
    (c.afterBadRun (n + 1)).state = if c.holdLimit ≤ n + 1 then .lost else .suspect := rfl

theorem afterBadRun_state_eq_lost_iff (valid : c.state = .valid) (hold : 1 ≤ c.holdLimit) :
    (c.afterBadRun n).state = .lost ↔ c.holdLimit ≤ n := by
  cases n with
  | zero => simp [afterBadRun, valid]; omega
  | succ n => simp [afterBadRun_succ_state]

/-- One more bad sample: it finds the record VALID, SUSPECT below the hold limit, or LOST at it. -/
theorem afterBad_afterBadRun (valid : c.state = .valid) (hold : 1 ≤ c.holdLimit) :
    (c.afterBadRun n).afterBad = c.afterBadRun (n + 1) := by
  cases n with
  | zero =>
    rw [afterBadRun, afterBad_of_valid valid, afterBadRun, min_eq_left hold]
  | succ n =>
    by_cases met : c.holdLimit ≤ n + 1
    · have lost : (c.afterBadRun (n + 1)).state = .lost := by rw [afterBadRun_succ_state, if_pos met]
      have met' : c.holdLimit ≤ n + 1 + 1 := Nat.le_succ_of_le met
      rw [afterBad_of_lost lost]
      simp [afterBadRun, met, met']
    · have suspect : (c.afterBadRun (n + 1)).state = .suspect := by rw [afterBadRun_succ_state, if_neg met]
      have count : min (n + 1) c.holdLimit = n + 1 := by omega
      have count' : min (n + 1 + 1) c.holdLimit = n + 1 + 1 := by omega
      rw [afterBad_of_suspect suspect]
      simp only [afterBadRun, count, count']

theorem iterate_sample_eq_afterBadRun (valid : c.state = .valid) (low : (code : Int) ≤ c.codeLo)
    (hold : 1 ≤ c.holdLimit) (n : Nat) : (fun d => Channel.sample d code)^[n] c = c.afterBadRun n := by
  induction n with
  | zero => rfl
  | succ n ih =>
    have bad : (c.afterBadRun n).sampleBad code = true := sampleBad_of_le_codeLo (by simpa using low)
    rw [Function.iterate_succ_apply', ih, sample_of_bad bad, afterBad_afterBadRun valid hold]

end Channel

/-- Settles O56: R25's sum and R26's tests as the model has them, R27 and R28 by the state the sample finds, and a run of
bad samples through the record `Channel.afterBadRun` that each of them leaves. -/
theorem sampleTemperatureAndTests : Obligations.SampleTemperatureAndTests := by
  refine ⟨?calibrated, Channel.sampleBad_iff, ?bad, ?good, ?run⟩
  case calibrated =>
    intro c code hcode hgain _ _
    exact ⟨(code * c.gain + 32768) / 65536, by omega, by omega, rfl, Channel.natAbs_code_mul_gain_le hcode hgain⟩
  case bad =>
    intro c code bad hold
    rw [Channel.sample_of_bad bad]
    refine ⟨fun valid => ?_, Channel.afterBad_of_suspect, Channel.afterBad_of_lost⟩
    have limitOne : c.holdLimit ≤ 1 ↔ c.holdLimit = 1 := ⟨fun h => le_antisymm h hold, le_of_eq⟩
    simp only [Channel.afterBad_of_valid valid, limitOne]
  case good =>
    intro c code good
    rw [Channel.sample_of_good good]
    refine ⟨fun taken => Channel.afterGood_unfiltered (taken.imp_right And.right) _, fun live hk => ?_⟩
    have notLost : c.state ≠ .lost := by rcases live with h | h <;> simp [h]
    exact Channel.afterGood_filtered notLost hk _
  case run =>
    intro c code n valid low hold
    rw [Channel.iterate_sample_eq_afterBadRun valid low hold]
    exact ⟨Channel.afterBadRun_state_eq_lost_iff valid hold, c.afterBadRun_value n⟩

end Sys2Proof.Machine
end

section
/-! The five laws that every step keeps: each is a property of the view that the primitive changes of `Stable` keep, so
`Stable.step` carries it over a step. -/

namespace Sys2Proof.Machine

/-! ## The canonical form of Shared Memory (R154) -/

theorem stable_shm_wf : Stable fun v => v.shm.wf = true where
  write _ i w h := Shm.wf_write h i w
  units _ _ _ h := h
  unit _ _ _ _ h := h
  push _ a _ _ h := by cases a <;> exact h
  pop _ a h := by cases a <;> exact h
  clear _ a h := by cases a <;> exact h
  withdraw _ _ h := h
  wait _ _ _ _ h := h
  grant _ _ _ h := h
  claim _ _ _ h := h
  pass _ _ _ h := h
  release _ _ _ _ h := h
  fall _ h := h
  riseActive _ _ h := h
  rise _ _ h := h
  released _ _ h := h
  reset _ h m given := by
    rcases given with rfl | rfl
    · exact h
    · exact Shm.wf_nil

/-- Settles O4: every write of a word keeps the canonical form, and nothing else touches Shared Memory. -/
theorem stepKeepsMemoryForm : Obligations.StepKeepsMemoryForm :=
  fun _ _ h step => stable_shm_wf.step h step

/-! ## The Block Queues (R42) -/

/-- Both Block Queues of a view hold at most 8 entries. -/
def View.queuesBounded (v : View) : Prop := ∀ a, (v.queue a).length ≤ 8

theorem View.queue_setQueue_same (v : View) (a : Arm) (q : List SlotCopy) : (v.setQueue a q).queue a = q := by
  cases a <;> rfl

theorem View.queue_setQueue_other (v : View) (a : Arm) (q : List SlotCopy) :
    (v.setQueue a q).queue a.other = v.queue a.other := by
  cases a <;> rfl

/-- A queue that is replaced by one of at most 8 entries leaves both bounded. -/
theorem View.queuesBounded_setQueue {v : View} (h : v.queuesBounded) (a : Arm) {q : List SlotCopy} (hq : q.length ≤ 8) :
    (v.setQueue a q).queuesBounded := by
  intro b
  rcases a.eq_or_other b with rfl | rfl
  · rwa [View.queue_setQueue_same]
  · rw [View.queue_setQueue_other]; exact h _

theorem stable_queuesBounded : Stable View.queuesBounded where
  write _ _ _ h := h
  units _ _ _ h := h
  unit _ _ _ _ h := h
  push v a c room h := View.queuesBounded_setQueue h a (by simp; omega)
  pop v a h := View.queuesBounded_setQueue h a (by have := h a; simp; omega)
  clear v a h := View.queuesBounded_setQueue h a (by simp)
  withdraw _ _ h := h
  wait _ _ _ _ h := h
  grant _ _ _ h := h
  claim _ _ _ h := h
  pass _ _ _ h := h
  release _ _ _ _ h := h
  fall _ h := h
  riseActive _ _ h := h
  rise _ _ h := h
  released _ _ h := h
  reset _ _ _ _ a := by cases a <;> exact Nat.zero_le 8

theorem State.queuesBounded_iff (s : State) : s.queuesBounded = true ↔ s.view.queuesBounded := by
  simp only [State.queuesBounded, bothArms, Bool.and_eq_true, decide_eq_true_eq, arm_queue]
  exact ⟨fun h a => by cases a; exacts [h.1, h.2], fun h => ⟨h .A, h .B⟩⟩

/-- Settles O5: only a fill lengthens a queue, and a fill takes an entry only where fewer than 8 stand. -/
theorem stepKeepsQueuesBounded : Obligations.StepKeepsQueuesBounded := by
  intro s t h step
  rw [State.queuesBounded_iff] at h ⊢
  exact stable_queuesBounded.step h step

/-! ## The law of arming (R82) -/

/-- Every latch unit of a view keeps the law of arming. -/
def View.latchesLawful (v : View) : Prop := ∀ i : Fin 16, v.latches[i].lawful = true

theorem getElem_mapTable {α β : Type} {n : Nat} (f : α → β) (v : Vector α n) (i : Fin n) :
    (mapTable f v)[i] = f v[i] := by
  simp [mapTable]

theorem stable_latchesLawful : Stable View.latchesLawful where
  write _ _ _ h := h
  units v f keeps h i := by
    show (mapTable f v.latches)[i].lawful = true
    rw [getElem_mapTable]
    exact keeps _ (h i)
  unit v i u keeps h j := by
    show (v.latches.set i u)[j].lawful = true
    by_cases same : j = i
    · subst same; simpa using keeps (h j)
    · have apart : (i : Nat) ≠ j := fun e => same (Fin.ext e.symm)
      simpa [Vector.getElem_set, apart] using h j
  push _ a _ _ h := by cases a <;> exact h
  pop _ a h := by cases a <;> exact h
  clear _ a h := by cases a <;> exact h
  withdraw _ _ h := h
  wait _ _ _ _ h := h
  grant _ _ _ h := h
  claim _ _ _ h := h
  pass _ _ _ h := h
  release _ _ _ _ h := h
  fall _ h := h
  riseActive _ _ h := h
  rise _ _ h := h
  released _ _ h := h
  reset _ _ _ _ i := by simp [LatchUnit.reset, LatchUnit.lawful]

theorem State.latchesLawful_iff (s : State) : s.latchesLawful = true ↔ s.view.latchesLawful := by
  simp only [State.latchesLawful, View.latchesLawful, List.all_eq_true, Vector.mem_toList_iff]
  constructor
  · exact fun h i => h _ (Vector.getElem_mem i.isLt)
  · intro h u mem
    obtain ⟨i, lt, rfl⟩ := Vector.getElem_of_mem mem
    exact h ⟨i, lt⟩

/-- Settles O6: every change of a unit arms it with a holder, disarms it, or leaves state and holder alone. -/
theorem stepKeepsLatchLaw : Obligations.StepKeepsLatchLaw := by
  intro s t h step
  rw [State.latchesLawful_iff] at h ⊢
  exact stable_latchesLawful.step h step

/-! ## The arbiter's law (R73) -/

/-- The holder of a view is its last holder, and an arm waits only while the other arm holds the grant. -/
def View.zoneLawful (v : View) : Prop :=
  ∀ a, (v.holder = some a → v.last = some a) ∧ (v.waits.get a = .idle ∨ v.holder = some a.other)

/-- The grant in the hands of an arm that does not wait, the other arm waiting or not. -/
theorem View.zoneLawful_of_holder {v : View} {a : Arm} (holder : v.holder = some a) (last : v.last = some a)
    (idle : v.waits.get a = .idle) : v.zoneLawful := by
  intro b
  rcases a.eq_or_other b with rfl | rfl
  · exact ⟨fun _ => last, .inl idle⟩
  · exact ⟨fun e => absurd (holder.symm.trans e) (by simp), .inr (by simpa using holder)⟩

/-- The free grant, nobody waiting for it. -/
theorem View.zoneLawful_of_free {v : View} (holder : v.holder = none) (idle : ∀ a, v.waits.get a = .idle) :
    v.zoneLawful :=
  fun a => ⟨fun e => absurd (holder.symm.trans e) (by simp), .inl (idle a)⟩

/-- Under the law nobody waits for a grant that is free, and a holder does not wait. -/
theorem View.zoneLawful.idle_of_ne {v : View} (h : v.zoneLawful) {a : Arm} (ne : v.holder ≠ some a.other) :
    v.waits.get a = .idle :=
  (h a).2.resolve_right ne

theorem Duo.get_set_of_eq {α : Type} {d : Duo α} {x : α} (a : Arm) {b : Arm} (h : d.get b = x) : (d.set a x).get b = x := by
  rcases a.eq_or_other b with rfl | rfl
  · simp
  · simpa using h

theorem stable_zoneLawful : Stable View.zoneLawful where
  write _ _ _ h := h
  units _ _ _ h := h
  unit _ _ _ _ h := h
  push _ a _ _ h := by cases a <;> exact h
  pop _ a h := by cases a <;> exact h
  clear _ a h := by cases a <;> exact h
  withdraw v a h b := ⟨(h b).1, (h b).2.imp_left (Duo.get_set_of_eq a)⟩
  wait v a n holder h := by
    have last : v.last = some a.other := (h a.other).1 holder
    have idle : v.waits.get a.other = .idle := h.idle_of_ne (by simp [holder])
    exact View.zoneLawful_of_holder holder last (by simpa using idle)
  grant v a _ _ := View.zoneLawful_of_holder (a := a) rfl rfl (by simp)
  claim v a free h := View.zoneLawful_of_holder (a := a) rfl rfl (View.zoneLawful.idle_of_ne h (by simp [free]))
  pass v a _ _ := View.zoneLawful_of_holder (a := a.other) rfl rfl (by simp)
  release v a holder otherIdle h := by
    refine View.zoneLawful_of_free rfl fun b => ?_
    rcases a.eq_or_other b with rfl | rfl
    · exact View.zoneLawful.idle_of_ne h (by simp [holder])
    · exact otherIdle
  fall _ h := h
  riseActive _ _ h := h
  rise _ _ h := h
  released _ _ h := h
  reset _ _ _ _ := View.zoneLawful_of_free rfl fun a => by cases a <;> rfl

theorem State.zoneLawful_iff (s : State) : s.zoneLawful = true ↔ s.view.zoneLawful := by
  have arm (a : Arm) : ((s.zone.holder != some a || s.zone.last == some a) &&
      (s.zone.waits.get a == .idle || s.zone.holder == some a.other)) = true ↔
      (s.view.holder = some a → s.view.last = some a) ∧
        (s.view.waits.get a = .idle ∨ s.view.holder = some a.other) := by
    simp [State.view, imp_iff_not_or]
  simp only [State.zoneLawful, bothArms, Bool.and_eq_true (_ && _), arm]
  exact ⟨fun h a => by cases a; exacts [h.1, h.2], fun h => ⟨h .A, h .B⟩⟩

/-- Settles O7: a grant goes to one arm at a time and ends that arm's wait, and the grant becomes free only where the other
arm does not wait. -/
theorem stepKeepsZoneLaw : Obligations.StepKeepsZoneLaw := by
  intro s t h step
  rw [State.zoneLawful_iff] at h ⊢
  exact stable_zoneLawful.step h step

/-! ## The stop line's law (R173) -/

/-- In a view the release timer runs only with the stop state ACTIVE and the line high, and the stop state is RELEASED
only with the line high. -/
def View.stopLineLawful (v : View) : Prop :=
  (v.timer = true → v.stop = .active ∧ v.stopLow = false) ∧ (v.stop = .active ∨ v.stopLow = false)

theorem stable_stopLineLawful : Stable View.stopLineLawful where
  write _ _ _ h := h
  units _ _ _ h := h
  unit _ _ _ _ h := h
  push _ a _ _ h := by cases a <;> exact h
  pop _ a h := by cases a <;> exact h
  clear _ a h := by cases a <;> exact h
  withdraw _ _ h := h
  wait _ _ _ _ h := h
  grant _ _ _ h := h
  claim _ _ _ h := h
  pass _ _ _ h := h
  release _ _ _ _ h := h
  fall _ _ := ⟨nofun, .inl rfl⟩
  riseActive _ _ _ := ⟨fun _ => ⟨rfl, rfl⟩, .inr rfl⟩
  rise _ notActive h := ⟨fun timer => absurd (h.1 timer).1 notActive, .inr rfl⟩
  released _ timer h := ⟨nofun, .inr (h.1 timer).2⟩
  reset v _ _ _ := by
    refine ⟨nofun, ?_⟩
    cases v.stopLow
    · exact .inr rfl
    · exact .inl (by simp)

theorem State.stopLineLawful_iff (s : State) : s.stopLineLawful = true ↔ s.view.stopLineLawful := by
  simp [State.stopLineLawful, View.stopLineLawful, State.view, imp_iff_not_or]

/-- Settles O8: the line, the stop state and the timer move together at a fall, a rise, a release and a reset. -/
theorem stepKeepsStopLineLaw : Obligations.StepKeepsStopLineLaw := by
  intro s t h step
  rw [State.stopLineLawful_iff] at h ⊢
  exact stable_stopLineLawful.step h step

end Sys2Proof.Machine
end

section
/-! The register window, Shared Memory as the host reaches it, the notices, and the two resets. -/

namespace Sys2Proof.Machine

/-! ## Words and their fields -/

theorem bitAt_eq (b : Bool) (k : Nat) : bitAt b k = b.toNat * 2 ^ k := by
  cases b <;> simp [bitAt]

theorem natWord_toNat (n : Nat) : (natWord n).toNat = n % 4294967296 := by
  simp [natWord]

theorem field_natWord (n lo len : Nat) : field (natWord n) lo len = n % 4294967296 / 2 ^ lo % 2 ^ len := by
  rw [field, natWord_toNat]

theorem Device.code_le (d : Device) : d.code ≤ 2 := by cases d <;> decide

theorem ArmState.code_le (x : ArmState) : x.code ≤ 5 := by cases x <;> decide

/-! ## The step -/

/-- Settles O1: `step` on a queue with a front command is that command's meaning on the rest. -/
theorem stepRunsFrontCommand : Obligations.StepRunsFrontCommand := by
  intro c rest s pending
  rw [step, pending]

/-! ## Reset -/

/-- Settles O2: the values of `State.reset`, read off field by field. -/
theorem powerOnValues : Obligations.PowerOnValues := by
  refine ⟨rfl, fun _ => rfl, rfl, rfl, rfl, rfl, rfl, rfl, rfl, rfl, ?channels, ?groups, rfl, rfl, rfl, ?units, rfl, rfl,
    rfl, rfl, ?probes, ?ports, ?arms⟩
  case channels => intro i; simp [State.reset, Thermal.reset, Channel.reset]
  case groups => intro i; simp [State.reset, Thermal.reset, Group.reset]
  case units => intro i; simp [State.reset, LatchUnit.reset]
  case probes => intro i; simp [State.reset, Tables.reset, Probe.blank]
  case ports => intro i; simp [State.reset, Tables.reset, Port.reset]
  case arms => intro a; cases a <;> decide

/-- Settles O3: each law is a test of `State.reset`, which the model decides. -/
theorem lawsHoldAtReset : Obligations.LawsHoldAtReset := by
  refine ⟨Shm.wf_nil, rfl, ?latches, rfl, rfl⟩
  rw [State.latchesLawful_iff]
  intro i
  simp [State.view, State.reset, LatchUnit.reset, LatchUnit.lawful]

/-- Settles O14: both resets are `State.resetWith`, with an empty memory and with the memory as it stands. -/
theorem resetsRestoreBlocks : Obligations.ResetsRestoreBlocks :=
  fun _ => ⟨rfl, rfl⟩

/-! ## Host writes -/

theorem exec_sharedMemoryWrite_inside (s : State) {i : Nat} (w : Word) (inside : i < 65536) :
    exec (.sharedMemoryWrite i w) s = .next (s.putWord i w) :=
  if_pos (decide_eq_true inside)

theorem exec_sharedMemoryWrite_outside (s : State) {i : Nat} (w : Word) (outside : 65536 ≤ i) :
    exec (.sharedMemoryWrite i w) s = .fault (.noSuchWord i) :=
  if_neg (by simp [addressOk]; omega)

/-- Settles O11: one word of a canonical memory is written, or the offset names no word. -/
theorem hostWriteReachesOneWord : Obligations.HostWriteReachesOneWord := by
  constructor
  · intro s i w wf inside
    refine ⟨s.putWord i w, exec_sharedMemoryWrite_inside s w inside, ?_, fun j ne => ?_, rfl⟩
    · rw [State.putWord_shm, Shm.get_write wf i i w inside, if_pos rfl]
    · rw [State.putWord_shm, Shm.get_write_other wf i j w ne]
  · exact fun s i w outside => exec_sharedMemoryWrite_outside s w outside

/-! ## The registers -/

theorem exec_post_above (s : State) {v : Word} (above : 2 < v.toNat) : exec (.post v) s = .next s := by
  have ne (k : Word) (hk : k.toNat ≤ 2) : v ≠ k := by rintro rfl; omega
  show Host.Outcome.next _ = _
  rw [if_neg (ne 0 (by decide)), if_neg (ne 1 (by decide)), if_neg (ne 2 (by decide))]

theorem readRegister_above (s : State) {o : Nat} (above : 0x14 < o) : s.readRegister o = 0 := by
  unfold State.readRegister
  rw [if_neg (by omega), if_neg (by omega), if_neg (by omega), if_neg (by omega), if_neg (by omega)]

/-- CONTROL holds the two hold levels in bits 2 and 3 and nothing beside them. -/
theorem controlWord_fields (s : State) :
    field s.controlWord 0 2 = 0 ∧ field s.controlWord 2 1 = bitAt (s.arm .A).holdLevel 0 ∧
      field s.controlWord 3 1 = bitAt (s.arm .B).holdLevel 0 ∧ field s.controlWord 4 2 = 0 := by
  have a := Bool.toNat_le s.arms.a.holdLevel
  have b := Bool.toNat_le s.arms.b.holdLevel
  simp only [State.controlWord, field_natWord, bitAt_eq, State.arm, Duo.get]
  omega

/-- Each field of STATUS holds what 12.9 gives it. -/
theorem statusWord_fields (s : State) :
    field s.statusWord 0 2 = s.device.code ∧ field s.statusWord 4 1 = bitAt s.unit.posts.motionA 0 ∧
      field s.statusWord 5 1 = bitAt s.unit.posts.motionB 0 ∧ field s.statusWord 6 1 = bitAt s.unit.posts.service 0 ∧
      field s.statusWord 8 1 = bitAt (s.unit.stop == .active) 0 ∧ field s.statusWord 16 4 = (s.arm .A).state.code ∧
      field s.statusWord 20 4 = (s.arm .B).state.code := by
  have device := s.device.code_le
  have postA := Bool.toNat_le s.unit.posts.motionA
  have postB := Bool.toNat_le s.unit.posts.motionB
  have service := Bool.toNat_le s.unit.posts.service
  have stop := Bool.toNat_le (s.unit.stop == .active)
  have armA := s.arms.a.state.code_le
  have armB := s.arms.b.state.code_le
  simp only [State.statusWord, field_natWord, bitAt_eq, State.arm, Duo.get]
  omega

/-- Settles O12: the post set by value, the ignored writes, and what each offset of the window reads. -/
theorem registerWindowBehaves : Obligations.RegisterWindowBehaves := by
  refine ⟨fun s => ⟨rfl, rfl, rfl, fun v above => exec_post_above s above⟩, fun _ _ _ => rfl,
    fun s => ⟨rfl, rfl, fun o above => readRegister_above s above⟩, fun s => ?control, fun s => ⟨rfl, statusWord_fields s⟩⟩
  obtain ⟨low, holdA, holdB, high⟩ := controlWord_fields s
  exact ⟨low, holdA, holdB, high, rfl⟩

/-! ## Notices -/

/-- A message is counted exactly where the masked set goes from empty to non-empty (R163). -/
theorem PortUnit.withNotices_eq (u : PortUnit) (notices mask : BitVec 10) : u.withNotices notices mask = { u with
    notices := notices
    mask := mask
    messages := u.messages + if u.notices &&& u.mask = 0 ∧ notices &&& mask ≠ 0 then 1 else 0 } := by
  unfold PortUnit.withNotices
  split <;> rfl

/-- Where no kind of a set is masked in, adding a kind masks one in exactly where the mask has that kind. -/
theorem masked_or_eq {notices mask kind : BitVec 10} (empty : notices &&& mask = 0) :
    (notices ||| kind) &&& mask = kind &&& mask := by
  have spread : (notices ||| kind) &&& mask = (notices &&& mask) ||| (kind &&& mask) := by
    ext i; simp [Bool.and_or_distrib_right]
  rw [spread, empty]; simp

/-- Settles O13: all three are `PortUnit.withNotices`. -/
theorem noticesAndMessages : Obligations.NoticesAndMessages := by
  intro s
  refine ⟨?read, ?mask, ?set⟩
  case read =>
    show Host.Outcome.next _ = _
    rw [PortUnit.withNotices_eq]
    simp
  case mask =>
    intro v
    show Host.Outcome.next _ = _
    rw [PortUnit.withNotices_eq]
  case set =>
    intro n
    rw [State.setNotice, PortUnit.withNotices_eq]
    by_cases empty : s.unit.notices &&& s.unit.mask = 0
    · simp only [masked_or_eq empty]
    · simp only [empty, false_and]

/-! ## The filter of the stop line -/

/-- Settles O20: the three commands by the level and the stop state they find. -/
theorem stopLineReleaseIsFiltered : Obligations.StopLineReleaseIsFiltered := by
  intro s
  refine ⟨fun low => ?rise, fun first high active => ?fall, fun running => ?release⟩
  case rise =>
    show Host.Outcome.next _ = _
    rw [if_neg (by simp [low])]
    cases stop : s.unit.stop
    · simp [State.setStop, State.setStopState, stop]
    · have idle : (s.unit.stop == StopState.active) = false := by rw [stop]; rfl
      rw [State.setStop, if_neg (by simp)]
      simp [← stop, idle]
  case fall =>
    show Host.Outcome.next _ = _
    rw [if_neg (by simp [high]), if_neg (by simp [active])]
    simp [State.setStop, State.setStopState, active]
  case release =>
    show Host.Outcome.next _ = _
    rw [if_pos running]
    rfl

/-! ## The examination of a lane -/

/-- Settles O23: the lane leaves the post set, then the fill or the look of the service engine. -/
theorem laneExaminationActs : Obligations.LaneExaminationActs := by
  intro s
  refine ⟨fun run posted => ?a, fun run posted => ?b, fun run posted opened idle => ?service, fun l stopped => ?outside⟩
  case a =>
    show Host.Outcome.next _ = _
    simp only [run, posted, if_true]
  case b =>
    show Host.Outcome.next _ = _
    simp only [run, posted, if_true]
  case service =>
    show Host.Outcome.next _ = _
    simp only [run, posted, if_true, State.svcLook, opened, idle, true_and]
    split <;> rfl
  case outside =>
    show Host.Outcome.next _ = _
    cases device : s.device with
    | run => exact absurd device stopped
    | stopped => rfl
    | checking => rfl

end Sys2Proof.Machine
end


section
/-! SUPPORT. What no operation of an arm touches: the device, the sets, the temperatures, the pins, the service engine and
the rest that `Core` gathers. One equation per operation, and from them what a command makes of the device state and of
the coefficient sets. -/

namespace Sys2Proof.Machine

/-- The part of the state that only the device, the lines, the service engine and the swap write. -/
structure Core where
  device : Device
  tickNo : Word
  copied : List Word
  settings : Settings
  svcLane : LaneRec
  svc : Option SvcReq
  refreshTimer : Option Nat
  corr : Correction
  therm : Thermal
  pins : Pins
  pending : List Instr
  posts : PostSet
  mask : BitVec 10
  stop : StopState
  releaseTimer : Bool
  boxes : Duo Box
  limit : Nat
  baseA : Nat
  baseB : Nat

/-- The core of a state. -/
def State.core (s : State) : Core where
  device := s.device
  tickNo := s.tickNo
  copied := s.copied
  settings := s.settings
  svcLane := s.svcLane
  svc := s.svc
  refreshTimer := s.refreshTimer
  corr := s.corr
  therm := s.therm
  pins := s.pins
  pending := s.pending
  posts := s.unit.posts
  mask := s.unit.mask
  stop := s.unit.stop
  releaseTimer := s.unit.releaseTimer
  boxes := s.zone.boxes
  limit := s.zone.limit
  baseA := s.lanes.a.base
  baseB := s.lanes.b.base

/-- The core with the two coefficient sets exchanged and no swap pending. -/
def Core.exchanged (c : Core) : Core := { c with corr := ⟨c.corr.staged, c.corr.active, false⟩ }

section
variable (s : State)

@[simp] theorem core_setArm (a : Arm) (r : ArmRec) : (s.setArm a r).core = s.core := rfl
@[simp] theorem core_modArm (a : Arm) (f : ArmRec → ArmRec) : (s.modArm a f).core = s.core := rfl
@[simp] theorem core_modExec (a : Arm) (f : Block → Block) : (s.modExec a f).core = s.core := rfl
@[simp] theorem core_putWord (i : Nat) (w : Word) : (s.putWord i w).core = s.core := rfl
@[simp] theorem core_setUnit (i : Fin 16) (u : LatchUnit) : (s.setUnit i u).core = s.core := rfl
@[simp] theorem core_setNotice (n : Notice) : (s.setNotice n).core = s.core := rfl
@[simp] theorem core_setPhase (a : Arm) (p : Phase) : (s.setPhase a p).core = s.core := rfl
@[simp] theorem core_setDue (a : Arm) (d : Due) : (s.setDue a d).core = s.core := rfl
@[simp] theorem core_setMounted (a : Arm) (m : Mounted) : (s.setMounted a m).core = s.core := rfl
@[simp] theorem core_modLink (a : Arm) (f : Link → Link) : (s.modLink a f).core = s.core := rfl
@[simp] theorem core_zoneRequest (a : Arm) : (s.zoneRequest a).core = s.core := rfl
@[simp] theorem core_zoneWithdraw (a : Arm) : (s.zoneWithdraw a).core = s.core := rfl
@[simp] theorem core_zoneWait (a : Arm) : (s.zoneWait a).core = s.core := rfl
@[simp] theorem core_zoneGrant (a : Arm) : (s.zoneGrant a).core = s.core := rfl
@[simp] theorem core_disarmBlock (a : Arm) : (s.disarmBlock a).core = s.core := rfl
@[simp] theorem core_disarmCaptures (a : Arm) : (s.disarmCaptures a).core = s.core := rfl
@[simp] theorem core_disarmUnit (u : Fin 16) : (s.disarmUnit u).core = s.core := rfl
@[simp] theorem core_free (n : Nat) : State.core { s with free := n } = s.core := rfl
@[simp] theorem core_holder (h : Option Arm) : State.core { s with zone := { s.zone with holder := h } } = s.core := rfl
@[simp] theorem core_holder_last (h l : Option Arm) :
    State.core { s with zone := { s.zone with holder := h, last := l } } = s.core := rfl
@[simp] theorem core_tables (t : Tables) : State.core { s with tables := t } = s.core := rfl
@[simp] theorem core_latches (v : Vector LatchUnit 16) : State.core { s with latches := v } = s.core := rfl
@[simp] theorem core_completeMotionSlot (a : Arm) (copy : SlotCopy) (c : Completion) (r : Option (List Word)) :
    (s.completeMotionSlot a copy c r).core = s.core := rfl
@[simp] theorem core_writeBlock (a : Arm) (b : Block) (st : Nat) (x : Status) (f : Option FaultCode) (ws : List Word) :
    (s.writeBlock a b st x f ws).core = s.core := rfl

@[simp] theorem core_disarmUnit? (u : Option (Fin 16)) : (s.disarmUnit? u).core = s.core := by cases u <;> rfl

@[simp] theorem core_flushSlots (a : Arm) (l : List SlotCopy) : (State.flushSlots a l s).core = s.core := by
  induction l generalizing s with
  | nil => rfl
  | cons c l ih => exact ih _

theorem core_fillOne {a : Arm} {t : State} (h : s.fillOne a = some t) : t.core = s.core := by
  unfold State.fillOne at h
  dsimp only at h
  split at h
  · injection h with h
    subst h
    cases a <;> rfl
  · cases h

@[simp] theorem core_fillN (a : Arm) (n : Nat) : (State.fillN a n s).core = s.core := by
  induction n generalizing s with
  | zero => rfl
  | succ n ih =>
    simp only [State.fillN]
    split
    · rfl
    · rw [ih, core_fillOne _ ‹_›]

@[simp] theorem core_fill (a : Arm) : (s.fill a).core = s.core := core_fillN s a 8

@[simp] theorem core_pauseLane (a : Arm) : (s.pauseLane a).core = s.core := by
  unfold State.pauseLane
  dsimp only
  split
  · rfl
  · rw [core_flushSlots, core_modArm]
    cases a <;> rfl

@[simp] theorem core_zoneRelease (a : Arm) : (s.zoneRelease a).core = s.core := by
  unfold State.zoneRelease
  repeat' split
  all_goals simp

@[simp] theorem core_releaseTest (a : Arm) (n : Bool) : (s.releaseTest a n).core = s.core := by
  unfold State.releaseTest
  repeat' split
  all_goals simp

@[simp] theorem core_followingZone (a : Arm) (c : Vec) : (s.followingZone a c).core = s.core := by
  unfold State.followingZone
  dsimp only
  repeat' split
  all_goals simp

@[simp] theorem core_detach (a : Arm) : (s.detach a).core = s.core := by
  unfold State.detach
  repeat' split
  all_goals simp

@[simp] theorem core_releasePlace (a : Arm) (q : Fin 24) : (s.releasePlace a q).core = s.core := by
  unfold State.releasePlace
  repeat' split
  all_goals simp

@[simp] theorem core_reconciled (a : Arm) (f : Option (Fin 24)) : (s.reconciled a f).core = s.core := by
  unfold State.reconciled
  dsimp only
  repeat' split
  all_goals simp

@[simp] theorem core_noteProbeChange (b : State) (a : Arm) : (State.noteProbeChange b s a).core = s.core := by
  unfold State.noteProbeChange
  split <;> simp

@[simp] theorem core_reconcile (a : Arm) (f : Option (Fin 24)) : (s.reconcile a f).core = s.core := by
  simp [State.reconcile]

@[simp] theorem core_applyProbeLost (a : Arm) : (s.applyProbeLost a).core = s.core := by
  unfold State.applyProbeLost
  dsimp only
  repeat' split
  all_goals simp

@[simp] theorem core_stow (a : Arm) (m : Fin 24) (p : Fin 12) : (s.stow a m p).core = s.core := by
  simp [State.stow]

@[simp] theorem core_fetch (a : Arm) (m : Fin 24) (p : Fin 12) : (s.fetch a m p).core = s.core := by
  simp [State.fetch]

@[simp] theorem core_verify (a : Arm) (m : Fin 24) : (s.verify a m).core = s.core := by
  simp [State.verify]

@[simp] theorem core_settlement (a : Arm) : (s.settlement a).core = s.core := by
  unfold State.settlement
  dsimp only
  rw [core_noteProbeChange]
  repeat' split
  all_goals simp

@[simp] theorem core_settleChange (a : Arm) : (s.settleChange a).core = s.core := by
  unfold State.settleChange
  repeat' split
  all_goals simp

@[simp] theorem core_driftCheck (a : Arm) : (s.driftCheck a).core = s.core := by
  unfold State.driftCheck
  dsimp only
  repeat' split
  all_goals simp

@[simp] theorem core_blockDriftCheck (a : Arm) : (s.blockDriftCheck a).core = s.core := by
  simp [State.blockDriftCheck]

@[simp] theorem core_writeExec (a : Arm) (st : Nat) (x : Status) (f : Option FaultCode) : (s.writeExec a st x f).core = s.core := by
  unfold State.writeExec
  repeat' split
  all_goals simp

@[simp] theorem core_writeCommitted (a : Arm) (st : Nat) (x : Status) (f : Option FaultCode) : (s.writeCommitted a st x f).core = s.core := by
  unfold State.writeCommitted
  repeat' split
  all_goals simp

@[simp] theorem core_afterDone (a : Arm) : (s.afterDone a).core = s.core := by
  simp [State.afterDone]

@[simp] theorem core_completeDone (a : Arm) (x : Status) : (s.completeDone a x).core = s.core := by
  simp [State.completeDone]

@[simp] theorem core_completeWith (a : Arm) (ws : List Word) : (s.completeWith a ws).core = s.core := by
  unfold State.completeWith
  repeat' split
  all_goals simp

@[simp] theorem core_blockFault (a : Arm) (c : FaultCode) : (s.blockFault a c).core = s.core := by
  unfold State.blockFault
  dsimp only
  repeat' split
  all_goals simp

@[simp] theorem core_enterFault (a : Arm) (c : FaultCode) : (s.enterFault a c).core = s.core := by
  simp [State.enterFault]

@[simp] theorem core_endStopping (a : Arm) : (s.endStopping a).core = s.core := by
  unfold State.endStopping
  dsimp only
  repeat' split
  all_goals simp

@[simp] theorem core_enterStopping (a : Arm) (c : Cause) : (s.enterStopping a c).core = s.core := by
  unfold State.enterStopping
  dsimp only
  repeat' split
  all_goals simp

@[simp] theorem core_armFault (a : Arm) (c : FaultCode) : (s.armFault a c).core = s.core := by
  unfold State.armFault
  repeat' split
  all_goals simp

@[simp] theorem core_followingFault (a : Arm) (c : FaultCode) : (s.followingFault a c).core = s.core := by
  simp [State.followingFault]

@[simp] theorem core_stopLineArm (a : Arm) : (s.stopLineArm a).core = s.core := by
  unfold State.stopLineArm
  repeat' split
  all_goals simp

@[simp] theorem core_abortArm (a : Arm) : (s.abortArm a).core = s.core := by
  unfold State.abortArm
  repeat' split
  all_goals simp

@[simp] theorem core_meetMountChange (b : State) (a : Arm) : (State.meetMountChange b s a).core = s.core := by
  unfold State.meetMountChange
  dsimp only
  split <;> simp

@[simp] theorem core_reconcileArms (a : Arm) (f : Option (Fin 24)) : (s.reconcileArms a f).core = s.core := by
  simp [State.reconcileArms]

/-! ## The phases of a block -/

@[simp] theorem core_beginSegTwo (a : Arm) (v : Vec) (f g th : Nat) : (s.beginSegTwo a v f g th).core = s.core := by
  simp [State.beginSegTwo]

@[simp] theorem core_beginSeg (a : Arm) (v : Vec) (f : Nat) : (s.beginSeg a v f).core = s.core := by
  simp [State.beginSeg]

@[simp] theorem core_armCapture (b : Block) (u : Fin 16) (i : CaptureInput) : (s.armCapture b u i).core = s.core := by
  simp [State.armCapture]

@[simp] theorem core_armCover (a : Arm) (b : Block) (p : Port) : (s.armCover a b p).core = s.core := by
  simp [State.armCover]

@[simp] theorem core_beginTouchSearch (a : Arm) (b : Block) (p : Phase) (e : Vec) (f : Nat) : (s.beginTouchSearch a b p e f).core = s.core := by
  unfold State.beginTouchSearch
  repeat' split
  all_goals simp

@[simp] theorem core_beginSearch (a : Arm) : (s.beginSearch a).core = s.core := by
  unfold State.beginSearch
  repeat' split
  all_goals simp

@[simp] theorem core_beginRetract (a : Arm) : (s.beginRetract a).core = s.core := by
  unfold State.beginRetract
  repeat' split
  all_goals simp

@[simp] theorem core_writeQualified (a : Arm) (v : QualValues) : (s.writeQualified a v).core = s.core := by
  unfold State.writeQualified
  repeat' split
  all_goals simp

@[simp] theorem core_qualFinish (a : Arm) (b : Block) : (s.qualFinish a b).core = s.core := by
  unfold State.qualFinish
  dsimp only
  repeat' split
  all_goals simp

@[simp] theorem core_retractEnd (a : Arm) (b : Block) : (s.retractEnd a b).core = s.core := by
  unfold State.retractEnd
  repeat' split
  all_goals simp

@[simp] theorem core_searchMissed (a : Arm) (b : Block) : (s.searchMissed a b).core = s.core := by
  simp [State.searchMissed]

@[simp] theorem core_touchStopEnd (a : Arm) (b : Block) : (s.touchStopEnd a b).core = s.core := by
  unfold State.touchStopEnd
  repeat' split
  all_goals simp

@[simp] theorem core_beginHomeSearch (a : Arm) (x : Axis) : (s.beginHomeSearch a x).core = s.core := by
  unfold State.beginHomeSearch
  repeat' split
  all_goals simp

@[simp] theorem core_shiftAxis (a : Arm) (x : Axis) (d : Int) : (s.shiftAxis a x d).core = s.core := rfl

@[simp] theorem core_homeStopEnd (a : Arm) (b : Block) (x : Axis) : (s.homeStopEnd a b x).core = s.core := by
  unfold State.homeStopEnd
  dsimp only
  repeat' split
  all_goals simp

@[simp] theorem core_homeFinish (a : Arm) : (s.homeFinish a).core = s.core := by
  simp [State.homeFinish]

@[simp] theorem core_beginLimitReturn (a : Arm) : (s.beginLimitReturn a).core = s.core := by
  unfold State.beginLimitReturn
  dsimp only
  repeat' split
  all_goals simp

@[simp] theorem core_homeMissed (a : Arm) (b : Block) (x : Axis) : (s.homeMissed a b x).core = s.core := by
  simp [State.homeMissed]

@[simp] theorem core_beginHome (a : Arm) : (s.beginHome a).core = s.core := by
  simp [State.beginHome]

@[simp] theorem core_beginLink (a : Arm) (c : LinkCmd) : (s.beginLink a c).core = s.core := by
  simp [State.beginLink]

@[simp] theorem core_armCoverOf (a : Arm) (b : Block) (h : Half) : (s.armCoverOf a b h).core = s.core := by
  unfold State.armCoverOf
  repeat' split
  all_goals simp

@[simp] theorem core_beginChange (a : Arm) (c : ChangePhase) (h : Half) : (s.beginChange a c h).core = s.core := by
  unfold State.beginChange
  dsimp only
  repeat' split
  all_goals simp

@[simp] theorem core_coverOpened (a : Arm) (h : Half) : (s.coverOpened a h).core = s.core := by
  simp [State.coverOpened]

@[simp] theorem core_approachEnd (a : Arm) (h : Half) : (s.approachEnd a h).core = s.core := by
  unfold State.approachEnd
  repeat' split
  all_goals simp

@[simp] theorem core_engageSeated (a : Arm) : (s.engageSeated a).core = s.core := by
  simp [State.engageSeated]

@[simp] theorem core_engageBegin (a : Arm) : (s.engageBegin a).core = s.core := by
  unfold State.engageBegin
  dsimp only
  repeat' split
  all_goals simp

@[simp] theorem core_stowMade (a : Arm) : (s.stowMade a).core = s.core := by
  unfold State.stowMade
  dsimp only
  rw [core_setDue, core_setPhase]
  repeat' split
  all_goals simp

@[simp] theorem core_stowDone (a : Arm) (b : Block) : (s.stowDone a b).core = s.core := by
  simp [State.stowDone]

@[simp] theorem core_portRetractEnd (a : Arm) (b : Block) (h : Half) : (s.portRetractEnd a b h).core = s.core := by
  unfold State.portRetractEnd
  dsimp only
  repeat' split
  all_goals simp

@[simp] theorem core_changeSegEnd (a : Arm) (b : Block) (c : ChangePhase) (h : Half) : (s.changeSegEnd a b c h).core = s.core := by
  unfold State.changeSegEnd
  repeat' split
  all_goals simp

@[simp] theorem core_moveSegEnd (a : Arm) (b : Block) : (s.moveSegEnd a b).core = s.core := by
  unfold State.moveSegEnd
  repeat' split
  all_goals simp

@[simp] theorem core_searchStartEnd (a : Arm) : (s.searchStartEnd a).core = s.core := by
  unfold State.searchStartEnd
  repeat' split
  all_goals simp

@[simp] theorem core_transitSegEnd (a : Arm) (b : Block) : (s.transitSegEnd a b).core = s.core := by
  unfold State.transitSegEnd
  repeat' split
  all_goals simp

@[simp] theorem core_segEnd (a : Arm) : (s.segEnd a).core = s.core := by
  unfold State.segEnd
  dsimp only
  repeat' split
  all_goals simp

@[simp] theorem core_segEndAtTick (a : Arm) : (s.segEndAtTick a).core = s.core := by
  simp [State.segEndAtTick]

@[simp] theorem core_brakeEnd (a : Arm) : (s.brakeEnd a).core = s.core := by
  unfold State.brakeEnd
  dsimp only
  repeat' split
  all_goals simp

@[simp] theorem core_brakeFor (a : Arm) (p : Phase) : (s.brakeFor a p).core = s.core := by
  unfold State.brakeFor
  dsimp only
  repeat' split
  all_goals simp

@[simp] theorem core_qualCapture (a : Arm) (c : Capture) (k : Nat) : (s.qualCapture a c k).core = s.core := by
  unfold State.qualCapture
  repeat' split
  all_goals simp

@[simp] theorem core_takeCapture (a : Arm) (c : Capture) : (s.takeCapture a c).core = s.core := by
  unfold State.takeCapture
  dsimp only
  repeat' split
  all_goals simp

@[simp] theorem core_resumeTouch (a : Arm) (b : Block) : (s.resumeTouch a b).core = s.core := by
  unfold State.resumeTouch
  repeat' split
  all_goals simp

@[simp] theorem core_resume (a : Arm) : (s.resume a).core = s.core := by
  unfold State.resume
  dsimp only
  repeat' split
  all_goals simp

@[simp] theorem core_beginDwell (a : Arm) (c : SlotCopy) : (s.beginDwell a c).core = s.core := by
  unfold State.beginDwell
  dsimp only
  repeat' split
  all_goals simp

@[simp] theorem core_beginWaitStable (a : Arm) (c : SlotCopy) : (s.beginWaitStable a c).core = s.core := by
  unfold State.beginWaitStable
  dsimp only
  repeat' split
  all_goals simp

@[simp] theorem core_beginLeg (a : Arm) : (s.beginLeg a).core = s.core := by
  unfold State.beginLeg
  repeat' split
  all_goals simp

@[simp] theorem core_stepSix (a : Arm) : (s.stepSix a).core = s.core := by
  unfold State.stepSix
  repeat' split
  all_goals simp

@[simp] theorem core_beginDue (a : Arm) (d : Due) : (s.beginDue a d).core = s.core := by
  unfold State.beginDue
  cases d <;> simp

@[simp] theorem core_applyFrame (a : Arm) (c : SlotCopy) : (s.applyFrame a c).core = s.core := by
  simp [State.applyFrame]

@[simp] theorem core_applyLatch (a : Arm) (b : Block) : (s.applyLatch a b).core = s.core := by
  unfold State.applyLatch
  repeat' split
  all_goals simp

@[simp] theorem core_requestZone (a : Arm) (b : Block) : (s.requestZone a b).core = s.core := by
  unfold State.requestZone
  repeat' split
  all_goals simp

@[simp] theorem core_bindAndRequest (a : Arm) (b : Block) : (s.bindAndRequest a b).core = s.core := by
  unfold State.bindAndRequest
  dsimp only
  split
  · simp
  · split <;> simp

@[simp] theorem core_passSwap (a : Arm) : (s.passSwap a).core = s.core := by
  unfold State.passSwap
  dsimp only
  repeat' split
  all_goals simp

@[simp] theorem core_becomeHeld (a : Arm) : (s.becomeHeld a).core = s.core := by
  simp [State.becomeHeld]

theorem core_armWork {a : Arm} {t : State} (h : s.armWork a = some t) : t.core = s.core := by
  unfold State.armWork at h
  dsimp only at h
  split at h
  · injection h with h
    rw [← h, core_beginDue]
  · split at h
    · split at h
      · injection h with h
        rw [← h, core_becomeHeld]
      · split at h
        · cases h
        · cases due : (s.arm a).due with
          | none => rw [due] at h; cases h
          | some d =>
            rw [due] at h
            injection h with h
            rw [← h, core_beginDue]
    · cases h

theorem core_swapRelease {t : State} (h : s.swapRelease = some t) : t.core = s.core := by
  rcases s.swapRelease_cases with ⟨e, _⟩ | ⟨a, _, _, e⟩ | ⟨a, _, e⟩ <;> rw [e] at h
  · cases h
  · injection h with h
    rw [← h, core_passSwap]
  · injection h with h
    rw [← h, core_passSwap]
    rfl

theorem core_doSwap : s.doSwap.core = s.core.exchanged := rfl

/-! ## The swap and the immediate work -/

/-- A state and one that immediate work leads to: the core is kept, or a pending swap has taken effect. -/
def State.leadsTo (s t : State) : Prop :=
  t.core = s.core ∨ (s.corr.swapPending = true ∧ t.core = s.core.exchanged)

/-- Immediate work on immediate work: no second swap is pending after the first. -/
theorem State.leadsTo_trans {s t u : State} (h : s.leadsTo t) (k : t.leadsTo u) : s.leadsTo u := by
  rcases h with h | ⟨pending, h⟩
  · rcases k with k | ⟨pending, k⟩
    · exact .inl (k.trans h)
    · have same : t.corr = s.corr := congrArg Core.corr h
      exact .inr ⟨by rwa [← same], by rw [k, h]⟩
  · have cleared : t.corr.swapPending = false := by
      rw [show t.corr = s.core.exchanged.corr from congrArg Core.corr h]
      rfl
    rcases k with k | ⟨again, _⟩
    · exact .inr ⟨pending, k.trans h⟩
    · rw [cleared] at again
      cases again

theorem leadsTo_doSwap (h : s.corr.swapPending = true) : s.leadsTo s.doSwap := .inr ⟨h, core_doSwap s⟩

theorem swapPending_of_swapReady {s : State} (h : s.swapReady = true) : s.corr.swapPending = true := by
  simp only [State.swapReady, Bool.and_eq_true] at h
  exact h.1.1

theorem leadsTo_immediate {t : State} (h : s.immediate = some t) : s.leadsTo t := by
  unfold State.immediate at h
  split at h
  · rename_i ready
    injection h with h
    exact h ▸ leadsTo_doSwap s (swapPending_of_swapReady ready)
  · split at h
    · rename_i released
      injection h with h
      exact .inl (h ▸ core_swapRelease s released)
    · split at h
      · rename_i work
        injection h with h
        exact .inl (h ▸ core_armWork s work)
      · exact .inl (core_armWork s h)

theorem leadsTo_settleN (n : Nat) : s.leadsTo (State.settleN n s) := by
  induction n generalizing s with
  | zero => exact .inl rfl
  | succ n ih =>
    simp only [State.settleN]
    split
    · exact .inl rfl
    · exact State.leadsTo_trans (leadsTo_immediate s ‹_›) (ih _)

theorem leadsTo_settle : s.leadsTo s.settle := leadsTo_settleN s 256

theorem leadsTo_swapBetween : s.leadsTo s.swapBetween := by
  rcases s.swapBetween_cases with ⟨e, _⟩ | ⟨ready, ⟨e, _⟩ | ⟨a, _, _, e⟩ | ⟨a, _, e⟩⟩
  · exact .inl (by rw [e])
  all_goals
    have pending := swapPending_of_swapReady ready
    rw [e]
    exact .inr ⟨pending, by simp [core_doSwap]⟩

/-- What keeps the core and is then settled. -/
theorem leadsTo_settle_of_core {s t : State} (h : t.core = s.core) : s.leadsTo t.settle :=
  State.leadsTo_trans (.inl h) (leadsTo_settle t)

/-! ## The head link, the lines and the tick -/

@[simp] theorem core_noteLink (a : Arm) (e : Option LinkKind) : (s.noteLink a e).core = s.core := by
  simp [State.noteLink]

@[simp] theorem core_transactionFailed (a : Arm) (k : LinkKind) : (s.transactionFailed a k).core = s.core := by
  unfold State.transactionFailed
  dsimp only
  repeat' split
  all_goals simp

@[simp] theorem core_attemptFailed (a : Arm) (k : LinkKind) : (s.attemptFailed a k).core = s.core := by
  unfold State.attemptFailed
  repeat' split
  all_goals simp

@[simp] theorem core_unlocked (a : Arm) : (s.unlocked a).core = s.core := by
  unfold State.unlocked
  repeat' split
  all_goals simp

@[simp] theorem core_locked (a : Arm) : (s.locked a).core = s.core := by
  unfold State.locked
  dsimp only
  rw [core_setDue, core_setPhase]
  repeat' split
  all_goals simp

@[simp] theorem core_changeIdentified (a : Arm) (l : List Byte) : (s.changeIdentified a l).core = s.core := by
  unfold State.changeIdentified
  dsimp only
  rw [core_setDue, core_setPhase]
  repeat' split
  all_goals simp

@[simp] theorem core_identified (a : Arm) (l : List Byte) : (s.identified a l).core = s.core := by
  simp [State.identified]

@[simp] theorem core_transactionDone (a : Arm) : (s.transactionDone a).core = s.core := by
  unfold State.transactionDone
  dsimp only
  repeat' split
  all_goals simp

@[simp] theorem core_receiveFrame (a : Arm) (f : BitVec 11) : (s.receiveFrame a f).core = s.core := by
  unfold State.receiveFrame
  dsimp only
  repeat' split
  all_goals simp

@[simp] theorem core_replyGap (a : Arm) : (s.replyGap a).core = s.core := by
  unfold State.replyGap
  dsimp only
  repeat' split
  all_goals simp

@[simp] theorem core_lineChange (a : Arm) (i : CaptureInput) (x : Bool) : (s.lineChange a i x).core = s.core := by
  unfold State.lineChange
  dsimp only
  repeat' split
  all_goals simp

theorem core_trigChanged (a : Arm) (x : Bool) : (s.trigChanged a x).core = (s.setTrig a x).core := by
  unfold State.trigChanged
  dsimp only
  split <;> simp

@[simp] theorem core_coverSeen (a : Arm) : (s.coverSeen a).core = s.core := by
  unfold State.coverSeen
  repeat' split
  all_goals simp

@[simp] theorem core_probeLostAt (a : Arm) : (s.probeLostAt a).core = s.core := by
  unfold State.probeLostAt
  dsimp only
  repeat' split
  all_goals simp

@[simp] theorem core_seatRise (a : Arm) : (s.seatRise a).core = s.core := by
  unfold State.seatRise
  dsimp only
  repeat' split
  all_goals simp

@[simp] theorem core_seatFall (a : Arm) : (s.seatFall a).core = s.core := by
  unfold State.seatFall
  dsimp only
  repeat' split
  all_goals simp

@[simp] theorem core_seatRiseChanging (a : Arm) (c : ChangePhase) (h : Half) : (s.seatRiseChanging a c h).core = s.core := by
  unfold State.seatRiseChanging
  dsimp only
  repeat' split
  all_goals simp

@[simp] theorem core_seatFallChanging (a : Arm) (c : ChangePhase) : (s.seatFallChanging a c).core = s.core := by
  unfold State.seatFallChanging
  repeat' split
  all_goals simp

@[simp] theorem core_seatChanged (a : Arm) (x : Bool) : (s.seatChanged a x).core = s.core := by
  unfold State.seatChanged
  repeat' split
  all_goals simp

@[simp] theorem core_debounced (a : Arm) : (s.debounced a).core = s.core := by
  simp [State.debounced]

@[simp] theorem core_seatTogether (a : Arm) : (s.seatTogether a).core = s.core := by
  unfold State.seatTogether
  dsimp only
  repeat' split
  all_goals simp

@[simp] theorem core_captureAtEnd (a : Arm) : (s.captureAtEnd a).core = s.core := by
  unfold State.captureAtEnd
  dsimp only
  repeat' split
  all_goals simp

@[simp] theorem core_commitPoint (a : Arm) (b : Block) : (s.commitPoint a b).core = s.core := by
  unfold State.commitPoint
  repeat' split
  all_goals simp

@[simp] theorem core_commitTest (a : Arm) : (s.commitTest a).core = s.core := by
  unfold State.commitTest
  repeat' split
  all_goals simp

@[simp] theorem core_advance (a : Arm) : (s.advance a).core = s.core := by
  unfold State.advance
  dsimp only
  repeat' split
  all_goals simp

@[simp] theorem core_exchange (a : Arm) (r : Tri Reading) : (s.exchange a r).core = s.core := rfl

@[simp] theorem core_setpointsToCounts (a : Arm) : (s.setpointsToCounts a).core = s.core := by
  simp [State.setpointsToCounts]

@[simp] theorem core_takeFollowing (a : Arm) (c : FaultCode) : (s.takeFollowing a c).core = s.core := by
  simp [State.takeFollowing]

@[simp] theorem core_passOver (a : Arm) (b : Block) : (s.passOver a b).core = s.core := by
  simp [State.passOver]

@[simp] theorem core_stopCrosses (a : Arm) (b : Block) : (s.stopCrosses a b).core = s.core := by
  simp [State.stopCrosses]

@[simp] theorem core_holdTick (a : Arm) : (s.holdTick a).core = s.core := by
  unfold State.holdTick
  dsimp only
  repeat' split
  all_goals simp

@[simp] theorem core_stopTick (a : Arm) : (s.stopTick a).core = s.core := by
  unfold State.stopTick
  dsimp only
  repeat' split
  all_goals simp

@[simp] theorem core_activeTick (a : Arm) : (s.activeTick a).core = s.core := by
  unfold State.activeTick
  dsimp only
  repeat' split
  all_goals simp

@[simp] theorem core_motionEnd (a : Arm) : (s.motionEnd a).core = s.core := by
  unfold State.motionEnd
  repeat' split
  all_goals simp

@[simp] theorem core_followingCode (a : Arm) (r : Tri Reading) : (s.followingCode a r).1.core = s.core := by
  unfold State.followingCode
  split <;> rfl

@[simp] theorem core_tickEnd (a : Arm) (r : Tri Reading) (x : Bool) : (s.tickEnd a r x).core = s.core := by
  unfold State.tickEnd
  extract_lets faulted both s1 endFirst s2
  have kept1 : s1.core = s.core := by
    show (if both = true then { s with free := s.free + 1 } else s).core = s.core
    split <;> rfl
  have kept2 : s2.core = s.core := by
    show (if (x && (!faulted || endFirst)) = true then s1.motionEnd a else s1).core = s.core
    split
    · rw [core_motionEnd, kept1]
    · exact kept1
  split
  · have kept3 := core_followingCode s2 a r
    split
    · rename_i code
      rw [code] at kept3
      rw [core_takeFollowing, kept3, kept2]
    · rename_i code
      rw [code] at kept3
      rw [kept3, kept2]
  · exact kept2

@[simp] theorem core_zoneDecide : (s.zoneDecide).core = s.core := by
  unfold State.zoneDecide
  repeat' split
  all_goals simp

@[simp] theorem core_takeHead (a : Arm) (c : SlotCopy) : (s.takeHead a c).core = s.core := by
  simp [State.takeHead]

@[simp] theorem core_swapCheck (a : Arm) : (s.swapCheck a).core = s.core := by
  unfold State.swapCheck
  repeat' split
  all_goals simp

@[simp] theorem core_startSequence (a : Arm) (c : SlotCopy) : (s.startSequence a c).core = s.core := by
  unfold State.startSequence
  repeat' split
  all_goals simp

end

end Sys2Proof.Machine
end


section
/-! What each command makes of the device state and of the coefficient sets (R20, R166). -/

namespace Sys2Proof.Machine

section
variable (s : State)

/-! ## Ticks and reports -/

theorem leadsTo_beginNext (a : Arm) : s.leadsTo (s.beginNext a) := by
  unfold State.beginNext
  split
  · exact leadsTo_settle_of_core (core_setDue s a _)
  · exact .inl rfl

theorem leadsTo_tickArm (a : Arm) (r : Tri Reading) : s.leadsTo (s.tickArm a r) := by
  refine State.leadsTo_trans (leadsTo_beginNext s a) (leadsTo_settle_of_core ?_)
  simp

theorem leadsTo_tickBoth (first : Arm) (r : Duo (Tri Reading)) :
    State.leadsTo { s with tickNo := s.tickNo + 1 } (s.tickBoth first r) :=
  State.leadsTo_trans (leadsTo_tickArm _ first _) (leadsTo_tickArm _ first.other _)

theorem leadsTo_stabilityReport (a : Arm) : s.leadsTo (s.stabilityReport a) := by
  unfold State.stabilityReport
  split
  · exact .inl rfl
  · split
    · exact leadsTo_settle_of_core (core_completeDone s a _)
    · exact .inl rfl

theorem leadsTo_holdArm (a : Arm) : s.leadsTo (s.holdArm a) := by
  unfold State.holdArm
  dsimp only
  split
  · exact .inl rfl
  · exact .inl rfl
  · split
    · exact leadsTo_settle_of_core rfl
    · exact leadsTo_settle_of_core rfl
  · exact .inl rfl

theorem leadsTo_releaseArm (a : Arm) : s.leadsTo (s.releaseArm a) := by
  unfold State.releaseArm
  dsimp only
  split
  · exact .inl rfl
  · exact leadsTo_settle_of_core (by simp)
  · exact .inl rfl
  · exact .inl rfl

theorem leadsTo_startKind (a : Arm) (k : Option Kind) : s.leadsTo (s.startKind a k) := by
  unfold State.startKind
  split
  · split
    · exact leadsTo_settle_of_core (by simp)
    · exact .inl rfl
  · exact .inl rfl

theorem leadsTo_stopActivated (first : Arm) :
    State.leadsTo (s.setStopState .active false) (s.stopActivated first) := by
  unfold State.stopActivated
  dsimp only
  split
  · have first_acts : State.leadsTo (s.setStopState .active false)
        (((s.setStopState .active false).setNotice .stopLine).stopLineArm first) := .inl (by simp)
    exact State.leadsTo_trans first_acts
      (State.leadsTo_trans (leadsTo_swapBetween _) (leadsTo_settle_of_core (core_stopLineArm _ _)))
  · exact .inl rfl

/-! ## The service engine -/

/-- The device state and the two coefficient sets. -/
def State.deviceSets (s : State) : Device × Correction := (s.device, s.corr)

theorem deviceSets_of_core {s t : State} (h : t.core = s.core) : t.deviceSets = s.deviceSets :=
  congrArg (fun c => (c.device, c.corr)) h

@[simp] theorem deviceSets_svcLook : s.svcLook.deviceSets = s.deviceSets := by
  unfold State.svcLook
  dsimp only
  split <;> rfl

@[simp] theorem deviceSets_svcAnswer (x : Answer) : (s.svcAnswer x).deviceSets = s.deviceSets := by
  unfold State.svcAnswer
  split
  · rfl
  · rw [deviceSets_svcLook]
    rfl

@[simp] theorem deviceSets_thermalApply (c : SlotCopy) : (s.thermalApply c).deviceSets = s.deviceSets := by
  unfold State.thermalApply
  split
  · rw [deviceSets_svcAnswer]
    rfl
  · rw [deviceSets_svcAnswer]

@[simp] theorem deviceSets_thermalRequest (c : SlotCopy) : (s.thermalRequest c).deviceSets = s.deviceSets := by
  unfold State.thermalRequest
  split
  · rw [deviceSets_svcAnswer]
  · split
    · rw [deviceSets_thermalApply]
    · rfl

@[simp] theorem deviceSets_applyHeld : s.applyHeld.deviceSets = s.deviceSets := by
  unfold State.applyHeld
  split
  · split
    · rw [deviceSets_thermalApply]
    · rfl
  · rfl

@[simp] theorem deviceSets_scanEnd : s.scanEnd.deviceSets = s.deviceSets := by
  unfold State.scanEnd
  dsimp only
  rw [deviceSets_applyHeld]
  split <;> rfl

@[simp] theorem deviceSets_scanBegin : s.scanBegin.deviceSets = s.deviceSets := by
  unfold State.scanBegin
  split
  · rw [deviceSets_scanEnd]
  · rfl

@[simp] theorem deviceSets_sampleDone (n : Nat) : (s.sampleDone n).deviceSets = s.deviceSets := by
  unfold State.sampleDone
  dsimp only
  split
  · rw [deviceSets_scanEnd]
    rfl
  · rfl

@[simp] theorem deviceSets_reopenLane (c : SlotCopy) : (s.reopenLane c).deviceSets = s.deviceSets := by
  unfold State.reopenLane
  split
  · rw [deviceSets_svcAnswer]
  · rw [deviceSets_of_core (core_fill _ _), deviceSets_svcAnswer]
    rfl

@[simp] theorem deviceSets_setZone (c : SlotCopy) : (s.setZone c).deviceSets = s.deviceSets := by
  unfold State.setZone
  split
  · rw [deviceSets_svcAnswer]
  · split <;> rw [deviceSets_svcAnswer]
    rfl

@[simp] theorem deviceSets_setProbe (c : SlotCopy) : (s.setProbe c).deviceSets = s.deviceSets := by
  unfold State.setProbe
  split
  · rw [deviceSets_svcAnswer]
  · split <;> rw [deviceSets_svcAnswer]
    rfl

@[simp] theorem deviceSets_readProbe (c : SlotCopy) : (s.readProbe c).deviceSets = s.deviceSets := by
  unfold State.readProbe
  split <;> rw [deviceSets_svcAnswer]

@[simp] theorem deviceSets_setPort (c : SlotCopy) : (s.setPort c).deviceSets = s.deviceSets := by
  unfold State.setPort
  split
  · rw [deviceSets_svcAnswer]
  · split <;> rw [deviceSets_svcAnswer]
    rfl

theorem core_leaveZoneWait (a : Arm) : (s.leaveZoneWait a).core = s.core := by
  unfold State.leaveZoneWait
  dsimp only
  split <;> simp

end

/-! ## Every command -/

/-- The device state stays, and the active set stays or is exchanged with the staged one, which clears swap-pending. -/
def State.staysIn (s t : State) : Prop :=
  t.device = s.device ∧ (t.corr.active = s.corr.active ∨
    (t.corr.active = s.corr.staged ∧ t.corr.staged = s.corr.active ∧ t.corr.swapPending = false))

variable {s t u : State}

theorem staysIn_of_deviceSets (h : t.deviceSets = s.deviceSets) : s.staysIn t :=
  ⟨congrArg Prod.fst h, .inl (congrArg (fun p => p.2.active) h)⟩

/-- Immediate work after a change that keeps the device state and both sets. -/
theorem staysIn_of_leadsTo (device : u.device = s.device) (active : u.corr.active = s.corr.active)
    (staged : u.corr.staged = s.corr.staged) (h : u.leadsTo t) : s.staysIn t := by
  rcases h with h | ⟨_, h⟩
  · have sets := deviceSets_of_core h
    exact ⟨(congrArg Prod.fst sets).trans device, .inl ((congrArg (fun p => p.2.active) sets).trans active)⟩
  · have corr : t.corr = ⟨u.corr.staged, u.corr.active, false⟩ := congrArg Core.corr h
    have kept : t.device = u.device := congrArg Core.device h
    exact ⟨kept.trans device, .inr (by rw [corr]; exact ⟨staged, active, rfl⟩)⟩

theorem staysIn_refl : s.staysIn s := ⟨rfl, .inl rfl⟩

theorem staysIn_settle (h : u.deviceSets = s.deviceSets) : s.staysIn u.settle :=
  staysIn_of_leadsTo (congrArg Prod.fst h) (congrArg (fun p => p.2.active) h) (congrArg (fun p => p.2.staged) h)
    (leadsTo_settle u)

theorem staysIn_same (h : s.leadsTo t) : s.staysIn t := staysIn_of_leadsTo rfl rfl rfl h

theorem staysIn_stageSet (c : SlotCopy) : s.staysIn (s.stageSet c) := by
  unfold State.stageSet
  dsimp only
  split
  · have kept := deviceSets_svcAnswer { s with corr := { s.corr with staged := coeffSet c.int 4 } } (.done [])
    exact ⟨congrArg Prod.fst kept, .inl (congrArg (fun p => p.2.active) kept)⟩
  · exact staysIn_of_deviceSets (deviceSets_svcAnswer _ _)

theorem staysIn_swapSet : s.staysIn s.swapSet := by
  unfold State.swapSet
  split
  · exact staysIn_of_deviceSets (deviceSets_svcAnswer _ _)
  · let asked : State := { s with corr := { s.corr with swapPending := true } }
    have kept : (((asked.leaveZoneWait .A).leaveZoneWait .B).svcAnswer (.done [])).deviceSets = asked.deviceSets := by
      rw [deviceSets_svcAnswer, deviceSets_of_core (core_leaveZoneWait _ _), deviceSets_of_core (core_leaveZoneWait _ _)]
    exact staysIn_of_leadsTo (congrArg Prod.fst kept) (congrArg (fun p => p.2.active) kept)
      (congrArg (fun p => p.2.staged) kept) (leadsTo_settle _)

theorem staysIn_clearFault (c : SlotCopy) : s.staysIn (s.clearFault c) := by
  unfold State.clearFault
  split
  · exact staysIn_of_deviceSets (deviceSets_svcAnswer _ _)
  · exact staysIn_settle (by rw [deviceSets_svcAnswer]; rfl)

theorem staysIn_serveKind (k : SvcKind) {f : State → SlotCopy → State} (h : ∀ c, s.staysIn (f s c)) :
    s.staysIn (serveKind s k f) := by
  unfold serveKind
  split
  · exact h _
  · exact staysIn_refl

theorem staysIn_laneExamine (l : Lane) (h : execLaneExamine l s = .next t) : s.staysIn t := by
  unfold execLaneExamine at h
  rw [← next_inj h]
  refine staysIn_of_deviceSets ?_
  split
  · split
    · rw [deviceSets_of_core (core_fill _ _)]
      rfl
    · rfl
  · split
    · rw [deviceSets_of_core (core_fill _ _)]
      rfl
    · rfl
  · split
    · exact deviceSets_svcLook _
    · rfl
  · rfl

/-- The commands of CONTROL that move the device state: the resets, START and the end of the check. -/
def movesDevice : Instr → Bool
  | .powerOnReset | .reset _ | .start | .startValidationEnd _ => true
  | _ => false

theorem movesDevice_cases {c : Instr} (h : movesDevice c = true) :
    c = .powerOnReset ∨ (∃ cut, c = .reset cut) ∨ c = .start ∨ ∃ rd, c = .startValidationEnd rd := by
  cases c <;> simp [movesDevice] at h ⊢

/-- Every other command keeps the device state and exchanges the coefficient sets at most. -/
theorem staysIn_exec {c : Instr} (plain : movesDevice c = false) (h : exec c s = .next t) : s.staysIn t := by
  cases c <;> simp only [exec] at h
  case powerOnReset => cases plain
  case reset => cases plain
  case start => cases plain
  case startValidationEnd => cases plain
  case holdSet a =>
    refine next_inj h ▸ ?_
    split
    · exact staysIn_refl
    · split
      · exact staysIn_same (leadsTo_holdArm s a)
      · exact staysIn_refl
  case holdClear a =>
    refine next_inj h ▸ ?_
    split
    · exact staysIn_refl
    · split
      · exact staysIn_same (leadsTo_releaseArm s a)
      · exact staysIn_refl
  case abort a =>
    refine next_inj h ▸ ?_
    split
    · exact staysIn_same (leadsTo_settle_of_core (core_abortArm s a))
    · exact staysIn_refl
  case post v =>
    refine next_inj h ▸ ?_
    dsimp only
    repeat' split
    all_goals exact staysIn_refl
  case noticeRead => exact next_inj h ▸ staysIn_refl
  case noticeMaskWrite v => exact next_inj h ▸ staysIn_refl
  case registerWriteIgnored o v => exact next_inj h ▸ staysIn_refl
  case sharedMemoryWrite i w =>
    unfold execSharedMemoryWrite at h
    split at h
    · exact next_inj h ▸ staysIn_refl
    · cases h
  case laneExamine l => exact staysIn_laneExamine l h
  case stageSet => exact next_inj h ▸ staysIn_serveKind _ staysIn_stageSet
  case swapSet => exact next_inj h ▸ staysIn_serveKind _ fun _ => staysIn_swapSet
  case setSensor =>
    exact next_inj h ▸ staysIn_serveKind _ fun c => staysIn_of_deviceSets (deviceSets_thermalRequest s c)
  case setGroup =>
    exact next_inj h ▸ staysIn_serveKind _ fun c => staysIn_of_deviceSets (deviceSets_thermalRequest s c)
  case setZone => exact next_inj h ▸ staysIn_serveKind _ fun c => staysIn_of_deviceSets (deviceSets_setZone s c)
  case setProbe => exact next_inj h ▸ staysIn_serveKind _ fun c => staysIn_of_deviceSets (deviceSets_setProbe s c)
  case readProbe => exact next_inj h ▸ staysIn_serveKind _ fun c => staysIn_of_deviceSets (deviceSets_readProbe s c)
  case setPort => exact next_inj h ▸ staysIn_serveKind _ fun c => staysIn_of_deviceSets (deviceSets_setPort s c)
  case clearFault => exact next_inj h ▸ staysIn_serveKind _ staysIn_clearFault
  case reopenLane => exact next_inj h ▸ staysIn_serveKind _ fun c => staysIn_of_deviceSets (deviceSets_reopenLane s c)
  case serviceBadKind =>
    refine next_inj h ▸ ?_
    split
    · split
      · exact staysIn_of_deviceSets (deviceSets_svcAnswer _ _)
      · exact staysIn_refl
    · exact staysIn_refl
  case move a => exact next_inj h ▸ staysIn_same (leadsTo_startKind s a _)
  case dwell a => exact next_inj h ▸ staysIn_same (leadsTo_startKind s a _)
  case waitStable a => exact next_inj h ▸ staysIn_same (leadsTo_startKind s a _)
  case setFrame a => exact next_inj h ▸ staysIn_same (leadsTo_startKind s a _)
  case setLatch a => exact next_inj h ▸ staysIn_same (leadsTo_startKind s a _)
  case home a => exact next_inj h ▸ staysIn_same (leadsTo_startKind s a _)
  case probePoint a => exact next_inj h ▸ staysIn_same (leadsTo_startKind s a _)
  case qualify a => exact next_inj h ▸ staysIn_same (leadsTo_startKind s a _)
  case identify a => exact next_inj h ▸ staysIn_same (leadsTo_startKind s a _)
  case changeProbe a => exact next_inj h ▸ staysIn_same (leadsTo_startKind s a _)
  case motionBadKind a => exact next_inj h ▸ staysIn_same (leadsTo_startKind s a _)
  case zoneArbiterDecision => exact next_inj h ▸ staysIn_same (leadsTo_settle_of_core (core_zoneDecide s))
  case tick first rd =>
    refine next_inj h ▸ ?_
    split
    · exact staysIn_of_leadsTo (u := { s with tickNo := s.tickNo + 1 }) rfl rfl rfl (leadsTo_tickBoth s first rd)
    · exact staysIn_refl
  case trigChange a x =>
    refine next_inj h ▸ ?_
    split
    · exact staysIn_refl
    · exact staysIn_settle (by rw [deviceSets_of_core (core_trigChanged s a x)]; rfl)
  case refmChange a y x =>
    refine next_inj h ▸ ?_
    split
    · exact staysIn_refl
    · exact staysIn_settle (by rw [deviceSets_of_core (core_lineChange _ a _ x)]; rfl)
  case extInChange i x =>
    refine next_inj h ▸ ?_
    split
    · exact staysIn_refl
    · refine staysIn_of_deviceSets ?_
      rw [deviceSets_of_core (core_lineChange _ _ _ x), deviceSets_of_core (core_lineChange _ _ _ x)]
      rfl
  case coverOpenChange a x =>
    refine next_inj h ▸ ?_
    split
    · exact staysIn_refl
    · split
      · exact staysIn_settle (by rw [deviceSets_of_core (core_coverSeen _ a)]; rfl)
      · exact staysIn_refl
  case hseatChange a x =>
    refine next_inj h ▸ ?_
    split
    · exact staysIn_refl
    · exact staysIn_of_deviceSets rfl
  case seatDebounceExpiry a =>
    refine next_inj h ▸ ?_
    split
    · exact staysIn_same (leadsTo_settle_of_core (by simp))
    · exact staysIn_refl
  case seatTimeout a =>
    refine next_inj h ▸ ?_
    split
    · exact staysIn_refl
    · exact staysIn_same (leadsTo_settle_of_core (by simp))
  case scanBegin =>
    refine next_inj h ▸ ?_
    split
    · exact staysIn_of_deviceSets (deviceSets_scanBegin s)
    · exact staysIn_refl
  case sampleComplete n =>
    refine next_inj h ▸ ?_
    split
    · exact staysIn_refl
    · exact staysIn_of_deviceSets (deviceSets_sampleDone s _)
  case historyExpiry first =>
    refine next_inj h ▸ ?_
    split
    · exact staysIn_refl
    · exact staysIn_of_leadsTo (u := { s with therm := s.therm.recorded }) rfl rfl rfl
        (State.leadsTo_trans (leadsTo_stabilityReport _ first) (leadsTo_stabilityReport _ first.other))
  case refreshTimerExpiry =>
    refine next_inj h ▸ ?_
    split
    · exact staysIn_of_deviceSets rfl
    · exact staysIn_refl
  case pendingRefresh =>
    refine next_inj h ▸ ?_
    split
    · exact staysIn_of_deviceSets rfl
    · exact staysIn_refl
  case stopInFall first =>
    refine next_inj h ▸ ?_
    split
    · exact staysIn_refl
    · split
      · exact staysIn_of_leadsTo (u := (s.setStop true).setStopState .active false) rfl rfl rfl
          (leadsTo_stopActivated (s.setStop true) first)
      · exact staysIn_of_deviceSets rfl
  case stopInRise =>
    refine next_inj h ▸ ?_
    split
    · exact staysIn_refl
    · split
      · exact staysIn_of_deviceSets rfl
      · exact staysIn_of_deviceSets rfl
  case stopRelease =>
    refine next_inj h ▸ ?_
    split
    · exact staysIn_of_deviceSets rfl
    · exact staysIn_refl
  all_goals
    refine next_inj h ▸ ?_
    repeat' split
    all_goals first
      | exact staysIn_refl
      | exact staysIn_same (leadsTo_settle_of_core (by simp))

/-! ## The device state and the active set -/

theorem hostReset_device (s : State) (cut : Option Nat) : (s.hostReset cut).device = .stopped := by
  unfold State.hostReset
  split
  · split <;> rfl
  · rfl

theorem startPassed_device (s : State) (rd : Duo (Tri Reading)) : (s.startPassed rd).device = .run := by
  unfold State.startPassed State.enterRun
  extract_lets entered
  have run : entered.core.device = .run := rfl
  split
  · have kept : (((entered.setNotice .stopLine).stopLineArm .A).stopLineArm .B).core = entered.core := by simp
    rw [← run, ← kept]
    rfl
  · exact run

/-- Settles O9: the four commands that move the device state by their own definitions, every other by `staysIn_exec`. -/
theorem deviceStateMoves : Obligations.DeviceStateMoves := by
  intro c s t h moved
  cases plain : movesDevice c with
  | false => exact absurd (staysIn_exec plain h).1 moved
  | true =>
    rcases movesDevice_cases plain with rfl | ⟨cut, rfl⟩ | rfl | ⟨rd, rfl⟩ <;> replace h := next_inj h
    · exact .inl ⟨rfl, h ▸ rfl⟩
    · exact .inr (.inl ⟨⟨cut, rfl⟩, h ▸ hostReset_device s cut⟩)
    · by_cases stopped : s.device = .stopped
      · rw [if_pos stopped] at h
        exact .inr (.inr (.inl ⟨rfl, stopped, h ▸ rfl⟩))
      · rw [if_neg stopped] at h
        exact absurd (h ▸ rfl) moved
    · by_cases checking : s.device = .checking
      · rw [if_pos checking] at h
        refine .inr (.inr (.inr ⟨⟨rd, rfl⟩, checking, ?_⟩))
        split at h
        · exact .inr (h ▸ rfl)
        · exact .inl (h ▸ startPassed_device s rd)
      · rw [if_neg checking] at h
        exact absurd (h ▸ rfl) moved

/-- Settles O10: START keeps the sets, every other command by `staysIn_exec`. -/
theorem activeSetOnlyExchanged : Obligations.ActiveSetOnlyExchanged := by
  intro c s t h noPower noReset noEnd
  cases plain : movesDevice c with
  | false => exact (staysIn_exec plain h).2
  | true =>
    rcases movesDevice_cases plain with rfl | ⟨cut, rfl⟩ | rfl | ⟨rd, rfl⟩
    · exact absurd rfl noPower
    · exact absurd rfl (noReset cut)
    · refine .inl ?_
      rw [← next_inj h]
      split <;> rfl
    · exact absurd rfl (noEnd rd)

end Sys2Proof.Machine
end


section
/-! START, its check and the state that it establishes; the Condition Page (R164 to R171). -/

namespace Sys2Proof.Machine

/-! ## The check of the Start Record (R168, R169) -/

/-- The first failing index of a copy, where every index before it passes. -/
theorem firstFailure_eq_some {r : StartCopy} {i : Nat} (low : 1 ≤ i) (high : i ≤ 61) (fails : r.test i = false)
    (pass : ∀ j, 1 ≤ j → j < i → r.test j = true) : r.firstFailure = some i := by
  unfold StartCopy.firstFailure
  rw [List.find?_range'_eq_some]
  refine ⟨by simp [fails], by simp [List.mem_range'_1]; omega, fun j jlow jhigh => by simp [pass j jlow jhigh]⟩

/-- A copy that passes every index has no failing one. -/
theorem firstFailure_eq_none {r : StartCopy} (pass : ∀ j, 1 ≤ j → j ≤ 61 → r.test j = true) : r.firstFailure = none := by
  unfold StartCopy.firstFailure
  rw [List.find?_eq_none]
  intro j mem
  rw [List.mem_range'_1] at mem
  simp [pass j mem.1 (by omega)]

/-- The end of a check at its first failing index (R169). -/
theorem exec_startFailed {s : State} {rd : Duo (Tri Reading)} {i : Nat} (checking : s.device = .checking)
    (first : StartCopy.firstFailure s.copied = some i) : exec (.startValidationEnd rd) s = .next (s.startFailed i) := by
  show Host.Outcome.next (if s.device = .checking then _ else s) = _
  rw [if_pos checking, first]

/-- The end of a check that every index passes (R169). -/
theorem exec_startPassed {s : State} {rd : Duo (Tri Reading)} (checking : s.device = .checking)
    (pass : ∀ j, 1 ≤ j → j ≤ 61 → StartCopy.test s.copied j = true) :
    exec (.startValidationEnd rd) s = .next (s.startPassed rd) := by
  show Host.Outcome.next (if s.device = .checking then _ else s) = _
  rw [if_pos checking, firstFailure_eq_none pass]

/-- Settles O16: START by the device state it finds, the end of the check by the first failing index. -/
theorem startChecksTheRecord : Obligations.StartChecksTheRecord := by
  refine ⟨fun s => ⟨fun stopped => ?_, fun other => ?_⟩, fun s rd i checking low high fails pass => ?_⟩
  · show Host.Outcome.next (if s.device = .stopped then _ else s) = _
    rw [if_pos stopped]
    rfl
  · show Host.Outcome.next (if s.device = .stopped then _ else s) = _
    rw [if_neg other]
  · exact exec_startFailed checking (firstFailure_eq_some low high fails pass)

/-- The state in which RUN is entered, before the stop line acts. -/
def State.entered (s : State) (rd : Duo (Tri Reading)) : State :=
  { (s.runTime s.copied rd).putWord 0 (startResult 2 0) with device := .run, refreshDue := true }.setNotice .started

theorem startPassed_high {s : State} {rd : Duo (Tri Reading)} (high : s.pins.stopLow = false) :
    s.startPassed rd = s.entered rd := by
  have released : (s.entered rd).unit.stop = .released := by
    show s.stopFromLine = .released
    rw [State.stopFromLine, high]
    rfl
  show (if (s.entered rd).unit.stop = .active then _ else s.entered rd) = _
  rw [if_neg (by rw [released]; decide)]

/-- An arm as RUN is entered (R40, R128, R129, R170). -/
theorem entered_arm (s : State) (rd : Duo (Tri Reading)) (a : Arm) :
    (s.entered rd).arm a = (s.arm a).started (s.pins.hseatLow.get a) (rd.get a) := by
  cases a <;> rfl

/-- Settles O17: the whole run-time state, read off `State.runTime`. -/
theorem startEstablishesRun : Obligations.StartEstablishesRun := by
  intro s rd checking pass high
  have released : s.stopFromLine = .released := by rw [State.stopFromLine, high]; rfl
  refine ⟨s.entered rd, by rw [exec_startPassed checking pass, startPassed_high high], rfl, rfl, rfl, rfl, rfl, rfl, rfl,
    rfl, rfl, ⟨rfl, rfl⟩, rfl, rfl, rfl, rfl, rfl, rfl, released, fun a => ?_⟩
  rw [entered_arm]
  refine ⟨rfl, rfl, rfl, rfl, rfl, rfl, rfl, rfl, rfl, rfl, rfl, rfl, rfl, fun x => ?_⟩
  cases x <;> exact ⟨rfl, rfl, rfl, rfl⟩

/-! ## The Condition Page (R164, R165, 12.8) -/

/-- The offsets of placed words. -/
theorem mem_placed {base : Nat} {ws : List Word} {c : Nat × Word} (h : c ∈ State.placed base ws) :
    base ≤ c.1 ∧ c.1 < base + ws.length := by
  induction ws generalizing base with
  | nil => cases h
  | cons w ws ih =>
    rw [List.length_cons]
    rcases List.mem_cons.1 h with rfl | h
    · exact ⟨le_rfl, by dsimp only; omega⟩
    · have := ih h
      omega

/-- Writing placed words is writing a list. -/
theorem writePlaced_placed (m : Shm) (base : Nat) (ws : List Word) :
    State.writePlaced m (State.placed base ws) = m.writeList base ws := by
  induction ws generalizing m base with
  | nil => rfl
  | cons w ws ih => exact ih _ _

theorem writePlaced_append (m : Shm) (l k : List (Nat × Word)) :
    State.writePlaced m (l ++ k) = State.writePlaced (State.writePlaced m l) k := by
  induction l generalizing m with
  | nil => rfl
  | cons c l ih => exact ih _

/-- A word at no offset of a list is not written. -/
theorem get_writePlaced_outside {m : Shm} (wf : m.wf = true) {l : List (Nat × Word)} {j : Nat} (h : ∀ c ∈ l, c.1 ≠ j) :
    (State.writePlaced m l).get j = m.get j := by
  induction l generalizing m with
  | nil => rfl
  | cons c l ih =>
    obtain ⟨i, w⟩ := c
    show (State.writePlaced (m.write i w) l).get j = _
    rw [ih (Shm.wf_write wf i w) fun c mem => h c (List.mem_cons_of_mem _ mem),
      Shm.get_write_other wf i j w (Ne.symm (h (i, w) List.mem_cons_self))]

@[simp] theorem length_vecWords (v : Vec) : (vecWords v).length = 3 := rfl

@[simp] theorem length_deviceWords (s : State) : s.deviceWords.length = 3 := rfl

@[simp] theorem length_armEntry (s : State) (a : Arm) : (s.armEntry a).length = 17 := by
  have part : (s.partWords a).length = 4 := by
    unfold State.partWords
    split <;> rfl
  simp [State.armEntry, part]

/-- Every content word of a refresh lies in the page, past its count. -/
theorem mem_pageContents {s : State} {c : Nat × Word} (h : c ∈ s.pageContents) : 513 ≤ c.1 ∧ c.1 ≤ 647 := by
  simp only [State.pageContents, List.mem_append] at h
  rcases h with (((h | h) | h) | h) | h <;> have := mem_placed h <;> simp at this <;> omega

/-- The next odd count is one or two above, and odd. -/
theorem nextOdd_cases (w : Word) :
    (w.getLsbD 0 = true ∧ State.nextOdd w = w + 2) ∨ (w.getLsbD 0 = false ∧ State.nextOdd w = w + 1) := by
  unfold State.nextOdd
  cases w.getLsbD 0 <;> simp

theorem getLsbD_zero (w : Word) : w.getLsbD 0 = decide (w.toNat % 2 = 1) := by
  rw [BitVec.getLsbD, Nat.testBit_zero]

theorem nextOdd_odd (w : Word) : (State.nextOdd w).getLsbD 0 = true := by
  rcases nextOdd_cases w with ⟨h, e⟩ | ⟨h, e⟩ <;> rw [e] <;> rw [getLsbD_zero] at h ⊢ <;> simp [BitVec.toNat_add] at h ⊢ <;>
    omega

/-- Settles O15: the cut content words lie past the count, which stays odd. -/
theorem resetLeavesOddPageCount : Obligations.ResetLeavesOddPageCount := by
  intro s n wf run due _
  have may : s.mayRefresh = true := by
    simp only [State.mayRefresh, run, beq_self_eq_true, Bool.true_and, Bool.or_eq_true]
    exact due.imp id Option.isSome_iff_ne_none.2
  have wf1 := Shm.wf_write wf 512 (State.nextOdd (s.shm.get 512))
  have past : ∀ c ∈ s.pageContents.take n, 513 ≤ c.1 ∧ c.1 ≤ 647 := fun c mem => mem_pageContents (List.mem_of_mem_take mem)
  have count : (s.refreshCut n).shm.get 512 = State.nextOdd (s.shm.get 512) := by
    show (State.writePlaced _ _).get 512 = _
    rw [get_writePlaced_outside wf1 fun c mem => by have := past c mem; omega, Shm.get_write wf _ _ _ (by decide), if_pos rfl]
  refine ⟨s.resetWith (s.refreshCut n).shm, ?_, rfl, ?_, ?_, fun j out => ?_⟩
  · show Host.Outcome.next (if s.mayRefresh = true then _ else _) = _
    rw [if_pos may]
  · show ((s.refreshCut n).shm.get 512).getLsbD 0 = true
    rw [count, nextOdd_odd]
  · show (s.refreshCut n).shm.get 512 = _ ∨ (s.refreshCut n).shm.get 512 = _
    rw [count]
    rcases nextOdd_cases (s.shm.get 512) with ⟨_, e⟩ | ⟨_, e⟩
    · exact .inr e
    · exact .inl e
  · show (State.writePlaced _ _).get j = _
    rw [get_writePlaced_outside wf1 fun c mem => by have := past c mem; omega, Shm.get_write_other wf _ _ _ (by omega)]

/-- The first word of an arm's entry (12.8). -/
def entryBase : Arm → Nat
  | .A => 520
  | .B => 552

/-- The contents of a refresh as five runs of words. -/
theorem writePlaced_pageContents (s : State) (m : Shm) : State.writePlaced m s.pageContents =
    ((((m.writeList 513 s.deviceWords).writeList 520 (s.armEntry .A)).writeList 552 (s.armEntry .B)).writeList 600
      (s.therm.snap.groups.toList.map State.groupWord)).writeList 616 (s.therm.snap.chans.toList.map State.chanWord) := by
  simp only [State.pageContents, writePlaced_append, writePlaced_placed]

section page
variable {s : State} (wf : s.shm.wf = true)
include wf

theorem get_refresh_outside {j : Nat} (out : j < 512 ∨ 647 < j) : s.refresh.shm.get j = s.shm.get j := by
  have wf1 := Shm.wf_write wf 512 (State.nextOdd (s.shm.get 512))
  show ((State.writePlaced _ _).write 512 _).get j = _
  rw [Shm.get_write_other (wf_writePlaced wf1 _) _ _ _ (by omega),
    get_writePlaced_outside wf1 fun c mem => by have := mem_pageContents mem; omega, Shm.get_write_other wf _ _ _ (by omega)]

theorem get_refresh_count : s.refresh.shm.get 512 = State.nextOdd (s.shm.get 512) + 1 := by
  have wf1 := Shm.wf_write wf 512 (State.nextOdd (s.shm.get 512))
  show ((State.writePlaced _ _).write 512 _).get 512 = _
  rw [Shm.get_write (wf_writePlaced wf1 _) _ _ _ (by decide), if_pos rfl]

/-- A content word of a refresh, in the memory `m` that the odd count leaves. -/
theorem get_refresh_content {j : Nat} (past : j ≠ 512) : ∃ m : Shm, m.wf = true ∧
    s.refresh.shm.get j = (State.writePlaced m s.pageContents).get j := by
  have wf1 := Shm.wf_write wf 512 (State.nextOdd (s.shm.get 512))
  exact ⟨_, wf1, Shm.get_write_other (wf_writePlaced wf1 _) _ _ _ past⟩

theorem get_refresh_device {k : Nat} (h : k < 3) : s.refresh.shm.get (513 + k) = s.deviceWords.getD k 0 := by
  obtain ⟨m, w, e⟩ := get_refresh_content wf (j := 513 + k) (by omega)
  have wd := Shm.wf_writeList w 513 s.deviceWords
  have wA := Shm.wf_writeList wd 520 (s.armEntry .A)
  have wB := Shm.wf_writeList wA 552 (s.armEntry .B)
  have wg := Shm.wf_writeList wB 600 (s.therm.snap.groups.toList.map State.groupWord)
  rw [e, writePlaced_pageContents, Shm.get_writeList_outside wg _ _ _ (by omega),
    Shm.get_writeList_outside wB _ _ _ (by omega), Shm.get_writeList_outside wA _ _ _ (by omega),
    Shm.get_writeList_outside wd _ _ _ (by omega), Shm.get_writeList_inside w _ _ _ (by simpa using h) (by simp)]

theorem get_refresh_arm (a : Arm) {k : Nat} (h : k < 17) :
    s.refresh.shm.get (entryBase a + k) = (s.armEntry a).getD k 0 := by
  obtain ⟨m, w, e⟩ := get_refresh_content wf (j := entryBase a + k) (by cases a <;> simp [entryBase] <;> omega)
  have wd := Shm.wf_writeList w 513 s.deviceWords
  have wA := Shm.wf_writeList wd 520 (s.armEntry .A)
  have wB := Shm.wf_writeList wA 552 (s.armEntry .B)
  have wg := Shm.wf_writeList wB 600 (s.therm.snap.groups.toList.map State.groupWord)
  rw [e, writePlaced_pageContents]
  cases a <;> rw [entryBase]
  · rw [Shm.get_writeList_outside wg _ _ _ (by omega), Shm.get_writeList_outside wB _ _ _ (by omega),
      Shm.get_writeList_outside wA _ _ _ (by omega), Shm.get_writeList_inside wd _ _ _ (by simpa using h) (by simp)]
  · rw [Shm.get_writeList_outside wg _ _ _ (by omega), Shm.get_writeList_outside wB _ _ _ (by omega),
      Shm.get_writeList_inside wA _ _ _ (by simpa using h) (by simp)]

theorem get_refresh_group (i : Fin 10) : s.refresh.shm.get (600 + i.val) = State.groupWord s.therm.snap.groups[i] := by
  obtain ⟨m, w, e⟩ := get_refresh_content wf (j := 600 + i.val) (by omega)
  have wB := Shm.wf_writeList (Shm.wf_writeList (Shm.wf_writeList w 513 s.deviceWords) 520 (s.armEntry .A)) 552
    (s.armEntry .B)
  have wg := Shm.wf_writeList wB 600 (s.therm.snap.groups.toList.map State.groupWord)
  rw [e, writePlaced_pageContents, Shm.get_writeList_outside wg _ _ _ (by omega),
    Shm.get_writeList_inside wB _ _ _ (by simp) (by simp)]
  simp

theorem get_refresh_chan (i : Fin 32) : s.refresh.shm.get (616 + i.val) = State.chanWord s.therm.snap.chans[i] := by
  obtain ⟨m, w, e⟩ := get_refresh_content wf (j := 616 + i.val) (by omega)
  have wg := Shm.wf_writeList (Shm.wf_writeList (Shm.wf_writeList (Shm.wf_writeList w 513 s.deviceWords) 520
    (s.armEntry .A)) 552 (s.armEntry .B)) 600 (s.therm.snap.groups.toList.map State.groupWord)
  rw [e, writePlaced_pageContents, Shm.get_writeList_inside wg _ _ _ (by simp) (by simp)]
  simp

end page

/-- The count after a refresh is even, and two or three above the count before it. -/
theorem nextOdd_add_one (w : Word) : (State.nextOdd w + 1).getLsbD 0 = false ∧
    State.nextOdd w + 1 = if w.getLsbD 0 then w + 3 else w + 2 := by
  rcases nextOdd_cases w with ⟨h, e⟩ | ⟨h, e⟩ <;> rw [e, h] <;> rw [getLsbD_zero] at h ⊢ <;>
    refine ⟨?_, by simp [BitVec.add_assoc]⟩ <;> simp [BitVec.toNat_add] at h ⊢ <;> omega

/-- The words of an arm's entry, run by run. -/
theorem armEntry_eq (s : State) (a : Arm) : s.armEntry a =
    [(s.arm a).standWord, natWord ((s.arm a).execTag + (s.arm a).queue.length * 65536 + bitAt (s.lanes.get a).paused 20),
      natWord (s.lanes.get a).cursor, s.mountWord a] ++
    ([intWord (s.arm a).axes.x.setpoint, intWord (s.arm a).axes.y.setpoint, intWord (s.arm a).axes.z.setpoint,
      intWord (s.arm a).axes.x.count, intWord (s.arm a).axes.y.count, intWord (s.arm a).axes.z.count,
      intWord ((s.chain a).toMachine (s.counts a)).x, intWord ((s.chain a).toMachine (s.counts a)).y,
      intWord ((s.chain a).toMachine (s.counts a)).z] ++ s.partWords a) := rfl

theorem getD_armEntry_runs (s : State) (a : Arm) {k : Nat} (h : k < 9) : (s.armEntry a).getD (4 + k) 0 =
    ([intWord (s.arm a).axes.x.setpoint, intWord (s.arm a).axes.y.setpoint, intWord (s.arm a).axes.z.setpoint,
      intWord (s.arm a).axes.x.count, intWord (s.arm a).axes.y.count, intWord (s.arm a).axes.z.count,
      intWord ((s.chain a).toMachine (s.counts a)).x, intWord ((s.chain a).toMachine (s.counts a)).y,
      intWord ((s.chain a).toMachine (s.counts a)).z] : List Word).getD k 0 := by
  rw [armEntry_eq, List.getD_append_right _ _ _ _ (by simp), List.getD_append _ _ _ _ (by simp; omega)]
  simp

theorem getD_armEntry_part (s : State) (a : Arm) {k : Nat} (h : k < 4) :
    (s.armEntry a).getD (13 + k) 0 = (s.partWords a).getD k 0 := by
  rw [armEntry_eq, List.getD_append_right _ _ _ _ (by simp; omega), List.getD_append_right _ _ _ _ (by simp; omega)]
  congr 1
  simp; omega

theorem standWord_plain {r : ArmRec} (moves : r.holding = false) (notHeld : r.state ≠ .held) : r.standWord =
    natWord (r.state.code + r.phase.code * 256 + r.phase.detail * 65536 + r.phase.halfBit * 16777216) := by
  simp [ArmRec.standWord, ArmRec.shownPhase, moves, notHeld]

/-- Settles O60: each word of the page from the run of words that writes it. -/
theorem refreshWritesPage : Obligations.RefreshWritesPage := by
  intro s wf run c occurs
  have refreshed : exec c s = .next s.refresh := by
    rcases occurs with ⟨rfl, timer⟩ | ⟨rfl, due⟩
    · show Host.Outcome.next (if s.device = .run ∧ s.refreshTimer ≠ none then s.refresh else s) = _
      rw [if_pos ⟨run, timer⟩]
    · show Host.Outcome.next (if s.device = .run ∧ s.refreshDue = true then s.refresh else s) = _
      rw [if_pos ⟨run, due⟩]
  have count := nextOdd_add_one (s.shm.get 512)
  refine ⟨s.refresh, refreshed, rfl, ?_, ?_, ?_, get_refresh_device wf (k := 1) (by decide),
    get_refresh_device wf (k := 2) (by decide), fun a => ?_, get_refresh_group wf, get_refresh_chan wf,
    fun j => get_refresh_outside wf⟩
  · rw [get_refresh_count wf, count.1]
  · rw [get_refresh_count wf, count.2]
  · rw [show 513 = 513 + 0 from rfl, get_refresh_device wf (by decide)]
    simp only [State.deviceWords, bitAt]
    cases s.svc <;> rfl
  · have word {k : Nat} (h : k < 17) : s.refresh.shm.get (entryBase a + k) = (s.armEntry a).getD k 0 :=
      get_refresh_arm wf a h
    have runs {k : Nat} (h : k < 9) := (word (k := 4 + k) (by omega)).trans (getD_armEntry_runs s a h)
    have part {k : Nat} (h : k < 4) := (word (k := 13 + k) (by omega)).trans (getD_armEntry_part s a h)
    cases a
    all_goals
      refine ⟨word (k := 0) (by decide), fun moves notHeld => (word (k := 0) (by decide)).trans
        (standWord_plain moves notHeld), word (k := 1) (by decide), word (k := 2) (by decide), word (k := 3) (by decide),
        fun k low => ?_, fun k low => ?_⟩
      · rw [Nat.add_assoc]
        exact runs low
      · rw [Nat.add_assoc]
        exact part low

end Sys2Proof.Machine
end


section
/-! SUPPORT. What the operations that end a block leave alone, field by field: the completions, the pause of a lane, the fill,
the release test, the settlement and the loss of a probe. -/

namespace Sys2Proof.Machine

section
variable (s : State)

/-! ## Reading an arm -/

@[simp] theorem arm_mk (device : Device) (tickNo : Word) (shm : Shm) (copied : List Word) (settings : Settings)
    (unit : PortUnit) (lanes : Duo LaneRec) (svcLane : LaneRec) (svc : Option SvcReq) (refreshDue : Bool)
    (refreshTimer : Option Nat) (corr : Correction) (therm : Thermal) (latches : Vector LatchUnit 16) (zone : Zone)
    (tables : Tables) (arms : Duo ArmRec) (pins : Pins) (free : Nat) (pending : List Instr) (a : Arm) :
    State.arm ⟨device, tickNo, shm, copied, settings, unit, lanes, svcLane, svc, refreshDue, refreshTimer, corr, therm,
      latches, zone, tables, arms, pins, free, pending⟩ a = arms.get a := rfl

@[simp] theorem get_arms (a : Arm) : s.arms.get a = s.arm a := rfl

@[simp] theorem arm_setNotice (n : Notice) (b : Arm) : (s.setNotice n).arm b = s.arm b := rfl

@[simp] theorem arm_setUnit (i : Fin 16) (u : LatchUnit) (b : Arm) : (s.setUnit i u).arm b = s.arm b := rfl

@[simp] theorem arm_putWord (i : Nat) (v : Word) (b : Arm) : (s.putWord i v).arm b = s.arm b := rfl

@[simp] theorem arm_zoneRequest (a : Arm) (b : Arm) : (s.zoneRequest a).arm b = s.arm b := rfl

@[simp] theorem arm_zoneWithdraw (a : Arm) (b : Arm) : (s.zoneWithdraw a).arm b = s.arm b := rfl

@[simp] theorem arm_disarmBlock (a : Arm) (b : Arm) : (s.disarmBlock a).arm b = s.arm b := rfl

@[simp] theorem arm_disarmCaptures (a : Arm) (b : Arm) : (s.disarmCaptures a).arm b = s.arm b := rfl

@[simp] theorem arm_disarmUnit (i : Fin 16) (b : Arm) : (s.disarmUnit i).arm b = s.arm b := rfl

@[simp] theorem arm_completeMotionSlot (a : Arm) (copy : SlotCopy) (c : Completion) (r : Option (List Word)) (b : Arm) : (s.completeMotionSlot a copy c r).arm b = s.arm b := rfl

@[simp] theorem arm_writeBlock (a : Arm) (d : Block) (st : Nat) (x : Status) (f : Option FaultCode) (ws : List Word) (b : Arm) : (s.writeBlock a d st x f ws).arm b = s.arm b := rfl

@[simp] theorem arm_setTrig (a : Arm) (x : Bool) (b : Arm) : (s.setTrig a x).arm b = s.arm b := rfl

@[simp] theorem arm_setRefm (a : Arm) (y : Axis) (x : Bool) (b : Arm) : (s.setRefm a y x).arm b = s.arm b := rfl

@[simp] theorem arm_setCover (a : Arm) (x : Bool) (b : Arm) : (s.setCover a x).arm b = s.arm b := rfl

@[simp] theorem arm_setStop (x : Bool) (b : Arm) : (s.setStop x).arm b = s.arm b := rfl

@[simp] theorem arm_setStopState (st : StopState) (x : Bool) (b : Arm) : (s.setStopState st x).arm b = s.arm b := rfl

@[simp] theorem arm_doSwap (b : Arm) : s.doSwap.arm b = s.arm b := rfl

@[simp] theorem arm_disarmUnit? (u : Option (Fin 16)) (b : Arm) : (s.disarmUnit? u).arm b = s.arm b := by
  cases u <;> rfl

@[simp] theorem arm_setPhase_same (a : Arm) (p : Phase) : (s.setPhase a p).arm a = { s.arm a with phase := p } := by
  cases a <;> rfl

@[simp] theorem arm_setPhase_other (a : Arm) (p : Phase) : (s.setPhase a p).arm a.other = s.arm a.other := by
  cases a <;> rfl

@[simp] theorem arm_setDue_same (a : Arm) (d : Due) : (s.setDue a d).arm a = { s.arm a with due := some d } := by
  cases a <;> rfl

@[simp] theorem arm_setDue_other (a : Arm) (d : Due) : (s.setDue a d).arm a.other = s.arm a.other := by
  cases a <;> rfl

@[simp] theorem arm_setMounted_same (a : Arm) (m : Mounted) : (s.setMounted a m).arm a = { s.arm a with mounted := m } := by
  cases a <;> rfl

@[simp] theorem arm_setMounted_other (a : Arm) (m : Mounted) : (s.setMounted a m).arm a.other = s.arm a.other := by
  cases a <;> rfl

@[simp] theorem arm_modExec_same (a : Arm) (f : Block → Block) :
    (s.modExec a f).arm a = { s.arm a with exec := (s.arm a).exec.map f } := by cases a <;> rfl

@[simp] theorem arm_modLink_same (a : Arm) (f : Link → Link) :
    (s.modLink a f).arm a = { s.arm a with link := f (s.arm a).link } := by cases a <;> rfl

@[simp] theorem arm_modLink_other (a : Arm) (f : Link → Link) : (s.modLink a f).arm a.other = s.arm a.other := by
  cases a <;> rfl

@[simp] theorem arm_zoneGrant_same (a : Arm) : (s.zoneGrant a).arm a = { s.arm a with due := some .stepSix } := by
  cases a <;> rfl

@[simp] theorem arm_zoneGrant_other (a : Arm) : (s.zoneGrant a).arm a.other = s.arm a.other := by cases a <;> rfl

@[simp] theorem arm_other_zoneGrant (a : Arm) : (s.zoneGrant a.other).arm a = s.arm a := by cases a <;> rfl

@[simp] theorem arm_zoneWait_same (a : Arm) : (s.zoneWait a).arm a = { s.arm a with phase := .waitZone } := by
  cases a <;> rfl

@[simp] theorem arm_zoneWait_other (a : Arm) : (s.zoneWait a).arm a.other = s.arm a.other := by cases a <;> rfl

@[simp] theorem arm_other_zoneWait (a : Arm) : (s.zoneWait a.other).arm a = s.arm a := by cases a <;> rfl

/-! ## Completions -/

@[simp] theorem lanes_completeMotionSlot (a : Arm) (copy : SlotCopy) (c : Completion) (r : Option (List Word)) : (s.completeMotionSlot a copy c r).lanes = s.lanes := rfl

@[simp] theorem latches_completeMotionSlot (a : Arm) (copy : SlotCopy) (c : Completion) (r : Option (List Word)) : (s.completeMotionSlot a copy c r).latches = s.latches := rfl

@[simp] theorem zone_completeMotionSlot (a : Arm) (copy : SlotCopy) (c : Completion) (r : Option (List Word)) : (s.completeMotionSlot a copy c r).zone = s.zone := rfl

@[simp] theorem tables_completeMotionSlot (a : Arm) (copy : SlotCopy) (c : Completion) (r : Option (List Word)) : (s.completeMotionSlot a copy c r).tables = s.tables := rfl

@[simp] theorem free_completeMotionSlot (a : Arm) (copy : SlotCopy) (c : Completion) (r : Option (List Word)) : (s.completeMotionSlot a copy c r).free = s.free := rfl

@[simp] theorem lanes_writeBlock (a : Arm) (d : Block) (st : Nat) (x : Status) (f : Option FaultCode) (ws : List Word) : (s.writeBlock a d st x f ws).lanes = s.lanes := rfl

@[simp] theorem latches_writeBlock (a : Arm) (d : Block) (st : Nat) (x : Status) (f : Option FaultCode) (ws : List Word) : (s.writeBlock a d st x f ws).latches = s.latches := rfl

@[simp] theorem zone_writeBlock (a : Arm) (d : Block) (st : Nat) (x : Status) (f : Option FaultCode) (ws : List Word) : (s.writeBlock a d st x f ws).zone = s.zone := rfl

@[simp] theorem tables_writeBlock (a : Arm) (d : Block) (st : Nat) (x : Status) (f : Option FaultCode) (ws : List Word) : (s.writeBlock a d st x f ws).tables = s.tables := rfl

@[simp] theorem free_writeBlock (a : Arm) (d : Block) (st : Nat) (x : Status) (f : Option FaultCode) (ws : List Word) : (s.writeBlock a d st x f ws).free = s.free := rfl

@[simp] theorem lanes_writeExec (a : Arm) (st : Nat) (x : Status) (f : Option FaultCode) :
    (s.writeExec a st x f).lanes = s.lanes := by
  unfold State.writeExec
  split <;> rfl

@[simp] theorem zone_writeExec (a : Arm) (st : Nat) (x : Status) (f : Option FaultCode) :
    (s.writeExec a st x f).zone = s.zone := by
  unfold State.writeExec
  split <;> rfl

@[simp] theorem tables_writeExec (a : Arm) (st : Nat) (x : Status) (f : Option FaultCode) :
    (s.writeExec a st x f).tables = s.tables := by
  unfold State.writeExec
  split <;> rfl

@[simp] theorem free_writeExec (a : Arm) (st : Nat) (x : Status) (f : Option FaultCode) :
    (s.writeExec a st x f).free = s.free := by
  unfold State.writeExec
  split <;> rfl

@[simp] theorem arm_writeExec (a : Arm) (st : Nat) (x : Status) (f : Option FaultCode) (b : Arm) :
    (s.writeExec a st x f).arm b = s.arm b := by
  unfold State.writeExec
  split <;> rfl

@[simp] theorem lanes_writeCommitted (a : Arm) (st : Nat) (x : Status) (f : Option FaultCode) :
    (s.writeCommitted a st x f).lanes = s.lanes := by
  unfold State.writeCommitted
  split <;> rfl

@[simp] theorem latches_writeCommitted (a : Arm) (st : Nat) (x : Status) (f : Option FaultCode) :
    (s.writeCommitted a st x f).latches = s.latches := by
  unfold State.writeCommitted
  split <;> rfl

@[simp] theorem zone_writeCommitted (a : Arm) (st : Nat) (x : Status) (f : Option FaultCode) :
    (s.writeCommitted a st x f).zone = s.zone := by
  unfold State.writeCommitted
  split <;> rfl

@[simp] theorem tables_writeCommitted (a : Arm) (st : Nat) (x : Status) (f : Option FaultCode) :
    (s.writeCommitted a st x f).tables = s.tables := by
  unfold State.writeCommitted
  split <;> rfl

@[simp] theorem free_writeCommitted (a : Arm) (st : Nat) (x : Status) (f : Option FaultCode) :
    (s.writeCommitted a st x f).free = s.free := by
  unfold State.writeCommitted
  split <;> rfl

@[simp] theorem arm_writeCommitted (a : Arm) (st : Nat) (x : Status) (f : Option FaultCode) (b : Arm) :
    (s.writeCommitted a st x f).arm b = s.arm b := by
  unfold State.writeCommitted
  split <;> rfl

variable {s} in
theorem writeExec_some {a : Arm} {b : Block} (h : (s.arm a).exec = some b) (st : Nat) (x : Status) (f : Option FaultCode) :
    s.writeExec a st x f = (s.writeBlock a b st x f (s.resultWords a b)).disarmBlock a := by
  simp only [State.writeExec, h]

variable {s} in
theorem writeExec_none {a : Arm} (h : (s.arm a).exec = none) (st : Nat) (x : Status) (f : Option FaultCode) :
    s.writeExec a st x f = s := by
  simp only [State.writeExec, h]

variable {s} in
theorem writeCommitted_some {a : Arm} {b : Block} (h : (s.arm a).committed = some b) (st : Nat) (x : Status)
    (f : Option FaultCode) : s.writeCommitted a st x f = s.writeBlock a b st x f (s.resultWords a b) := by
  simp only [State.writeCommitted, h]

variable {s} in
theorem writeCommitted_none {a : Arm} (h : (s.arm a).committed = none) (st : Nat) (x : Status) (f : Option FaultCode) :
    s.writeCommitted a st x f = s := by
  simp only [State.writeCommitted, h]

/-! ## The pause of a lane -/

@[simp] theorem lanes_flushSlots (a : Arm) (l : List SlotCopy) : (State.flushSlots a l s).lanes = s.lanes := by
  induction l generalizing s with
  | nil => rfl
  | cons c l ih => exact ih _

@[simp] theorem latches_flushSlots (a : Arm) (l : List SlotCopy) : (State.flushSlots a l s).latches = s.latches := by
  induction l generalizing s with
  | nil => rfl
  | cons c l ih => exact ih _

@[simp] theorem zone_flushSlots (a : Arm) (l : List SlotCopy) : (State.flushSlots a l s).zone = s.zone := by
  induction l generalizing s with
  | nil => rfl
  | cons c l ih => exact ih _

@[simp] theorem tables_flushSlots (a : Arm) (l : List SlotCopy) : (State.flushSlots a l s).tables = s.tables := by
  induction l generalizing s with
  | nil => rfl
  | cons c l ih => exact ih _

@[simp] theorem free_flushSlots (a : Arm) (l : List SlotCopy) : (State.flushSlots a l s).free = s.free := by
  induction l generalizing s with
  | nil => rfl
  | cons c l ih => exact ih _

@[simp] theorem arms_flushSlots (a : Arm) (l : List SlotCopy) : (State.flushSlots a l s).arms = s.arms := by
  induction l generalizing s with
  | nil => rfl
  | cons c l ih => exact ih _

@[simp] theorem arm_flushSlots (a : Arm) (l : List SlotCopy) (b : Arm) : (State.flushSlots a l s).arm b = s.arm b := by
  rw [State.arm, arms_flushSlots, State.arm]

variable {s} in
/-- A PAUSED lane is left as it is (R43). -/
theorem pauseLane_paused {a : Arm} (h : (s.lanes.get a).paused = true) : s.pauseLane a = s := by
  simp [State.pauseLane, h]

variable {s} in
/-- An OPEN lane becomes PAUSED with its queue emptied, each entry flushed (R43). -/
theorem pauseLane_open {a : Arm} (h : (s.lanes.get a).paused = false) : s.pauseLane a =
    State.flushSlots a (s.arm a).queue
      ({ s with lanes := s.lanes.set a { s.lanes.get a with paused := true } }.modArm a fun r => { r with queue := [] }) := by
  simp [State.pauseLane, h]

@[simp] theorem latches_pauseLane (a : Arm) : (s.pauseLane a).latches = s.latches := by
  unfold State.pauseLane
  dsimp only
  split <;> simp

@[simp] theorem zone_pauseLane (a : Arm) : (s.pauseLane a).zone = s.zone := by
  unfold State.pauseLane
  dsimp only
  split <;> simp

@[simp] theorem tables_pauseLane (a : Arm) : (s.pauseLane a).tables = s.tables := by
  unfold State.pauseLane
  dsimp only
  split <;> simp

@[simp] theorem free_pauseLane (a : Arm) : (s.pauseLane a).free = s.free := by
  unfold State.pauseLane
  dsimp only
  split <;> simp

@[simp] theorem lanes_pauseLane (a : Arm) :
    (s.pauseLane a).lanes = s.lanes.set a { s.lanes.get a with paused := true } := by
  cases h : (s.lanes.get a).paused
  · rw [pauseLane_open h, lanes_flushSlots]
    rfl
  · rw [pauseLane_paused h, ← h, Duo.set_get]

/-- The queue of an arm after its lane pauses. -/
def State.pausedQueue (s : State) (a : Arm) : List SlotCopy := if (s.lanes.get a).paused then (s.arm a).queue else []

@[simp] theorem arm_pauseLane_same (a : Arm) : (s.pauseLane a).arm a = { s.arm a with queue := s.pausedQueue a } := by
  unfold State.pausedQueue
  cases h : (s.lanes.get a).paused
  · rw [pauseLane_open h, arm_flushSlots]
    simp
  · simp [pauseLane_paused h]

@[simp] theorem arm_pauseLane_other (a : Arm) : (s.pauseLane a).arm a.other = s.arm a.other := by
  unfold State.pauseLane
  dsimp only
  split <;> simp

/-! ## The fill -/

variable {s} in
/-- What one look takes: the POSTED slot at the cursor of an OPEN lane with room (R42, R157). -/
theorem fillOne_eq_some {a : Arm} {t : State} (h : s.fillOne a = some t) :
    (s.lanes.get a).paused = false ∧ (s.arm a).queue.length < 8 ∧ (s.lanes.get a).posted s.shm = true ∧
      s.holdsSlot a (s.lanes.get a).cursor = false ∧
      t = { s with
        shm := (s.lanes.get a).takenShm s.shm
        lanes := s.lanes.set a { s.lanes.get a with cursor := (s.lanes.get a).nextCursor } }.setArm a
          { s.arm a with queue := (s.arm a).queue ++ [(s.lanes.get a).takenCopy s.shm] } := by
  unfold State.fillOne at h
  dsimp only at h
  split at h
  · rename_i look
    simp only [Bool.and_eq_true, decide_eq_true_eq, Bool.not_eq_true'] at look
    obtain ⟨⟨⟨opened, room⟩, posted⟩, fresh⟩ := look
    injection h with h
    exact ⟨opened, room, posted, fresh, h.symm⟩
  · cases h

variable {s} in
/-- A look that takes nothing: the lane is PAUSED, the queue full, or no slot POSTED (R42). -/
theorem fillOne_eq_none {a : Arm} (h : (s.lanes.get a).paused = true ∨ 8 ≤ (s.arm a).queue.length ∨
    (s.lanes.get a).posted s.shm = false) : s.fillOne a = none := by
  unfold State.fillOne
  dsimp only
  rw [if_neg]
  rcases h with h | h | h <;> simp [h]

variable {s} in
theorem fill_eq_self {a : Arm} (h : (s.lanes.get a).paused = true ∨ 8 ≤ (s.arm a).queue.length ∨
    (s.lanes.get a).posted s.shm = false) : s.fill a = s := by
  simp [State.fill, State.fillN, fillOne_eq_none h]

/-- A property that every look keeps is kept by a fill. -/
theorem fill_induction {P : State → Prop} {a : Arm} (look : ∀ t u : State, P t → t.fillOne a = some u → P u) {s : State}
    (h : P s) : P (s.fill a) := by
  have all : ∀ (n : Nat) (t : State), P t → P (State.fillN a n t) := by
    intro n
    induction n with
    | zero => exact fun _ h => h
    | succ n ih =>
      intro t h
      simp only [State.fillN]
      split
      · exact h
      · exact ih _ (look _ _ h ‹_›)
  exact all 8 s h

@[simp] theorem latches_fill (a : Arm) : (s.fill a).latches = s.latches :=
  fill_induction (P := fun t => t.latches = s.latches) (fun t u h look => by
    obtain ⟨_, _, _, _, rfl⟩ := fillOne_eq_some look
    exact h) rfl

@[simp] theorem zone_fill (a : Arm) : (s.fill a).zone = s.zone :=
  fill_induction (P := fun t => t.zone = s.zone) (fun t u h look => by
    obtain ⟨_, _, _, _, rfl⟩ := fillOne_eq_some look
    exact h) rfl

@[simp] theorem tables_fill (a : Arm) : (s.fill a).tables = s.tables :=
  fill_induction (P := fun t => t.tables = s.tables) (fun t u h look => by
    obtain ⟨_, _, _, _, rfl⟩ := fillOne_eq_some look
    exact h) rfl

@[simp] theorem free_fill (a : Arm) : (s.fill a).free = s.free :=
  fill_induction (P := fun t => t.free = s.free) (fun t u h look => by
    obtain ⟨_, _, _, _, rfl⟩ := fillOne_eq_some look
    exact h) rfl

@[simp] theorem unit_fill (a : Arm) : (s.fill a).unit = s.unit :=
  fill_induction (P := fun t => t.unit = s.unit) (fun t u h look => by
    obtain ⟨_, _, _, _, rfl⟩ := fillOne_eq_some look
    exact h) rfl

@[simp] theorem refreshDue_fill (a : Arm) : (s.fill a).refreshDue = s.refreshDue :=
  fill_induction (P := fun t => t.refreshDue = s.refreshDue) (fun t u h look => by
    obtain ⟨_, _, _, _, rfl⟩ := fillOne_eq_some look
    exact h) rfl

@[simp] theorem arm_fill_other (a : Arm) : (s.fill a).arm a.other = s.arm a.other :=
  fill_induction (P := fun t => t.arm a.other = s.arm a.other) (fun t u h look => by
    obtain ⟨_, _, _, _, rfl⟩ := fillOne_eq_some look
    rw [State.arm_setArm_other]
    exact h) rfl

/-- A fill changes nothing of its arm but the queue. -/
theorem arm_fill_same (a : Arm) : (s.fill a).arm a = { s.arm a with queue := ((s.fill a).arm a).queue } :=
  fill_induction (P := fun t => t.arm a = { s.arm a with queue := (t.arm a).queue }) (fun t u h look => by
    obtain ⟨_, _, _, _, rfl⟩ := fillOne_eq_some look
    rw [State.arm_setArm_same, h]) rfl

@[simp] theorem lane_fill_other (a : Arm) : (s.fill a).lanes.get a.other = s.lanes.get a.other :=
  fill_induction (P := fun t => t.lanes.get a.other = s.lanes.get a.other) (fun t u h look => by
    obtain ⟨_, _, _, _, rfl⟩ := fillOne_eq_some look
    rw [State.setArm_lanes, Duo.get_set_other]
    exact h) rfl

/-- A fill changes nothing of its lane but the cursor. -/
theorem lane_fill_same (a : Arm) :
    (s.fill a).lanes.get a = { s.lanes.get a with cursor := ((s.fill a).lanes.get a).cursor } :=
  fill_induction (P := fun t => t.lanes.get a = { s.lanes.get a with cursor := (t.lanes.get a).cursor })
    (fun t u h look => by
      obtain ⟨_, _, _, _, rfl⟩ := fillOne_eq_some look
      rw [State.setArm_lanes, Duo.get_set_same, h]) rfl

@[simp] theorem lane_fill_paused (a : Arm) : ((s.fill a).lanes.get a).paused = (s.lanes.get a).paused := by
  rw [lane_fill_same]

@[simp] theorem lane_fill_base (a : Arm) : ((s.fill a).lanes.get a).base = (s.lanes.get a).base := by
  rw [lane_fill_same]

@[simp] theorem state_fill (a : Arm) : ((s.fill a).arm a).state = (s.arm a).state := by rw [arm_fill_same]

@[simp] theorem phase_fill (a : Arm) : ((s.fill a).arm a).phase = (s.arm a).phase := by rw [arm_fill_same]

@[simp] theorem holding_fill (a : Arm) : ((s.fill a).arm a).holding = (s.arm a).holding := by rw [arm_fill_same]

@[simp] theorem holdPhase_fill (a : Arm) : ((s.fill a).arm a).holdPhase = (s.arm a).holdPhase := by rw [arm_fill_same]

@[simp] theorem holdLevel_fill (a : Arm) : ((s.fill a).arm a).holdLevel = (s.arm a).holdLevel := by rw [arm_fill_same]

@[simp] theorem referenced_fill (a : Arm) : ((s.fill a).arm a).referenced = (s.arm a).referenced := by rw [arm_fill_same]

@[simp] theorem exec_fill (a : Arm) : ((s.fill a).arm a).exec = (s.arm a).exec := by rw [arm_fill_same]

@[simp] theorem committed_fill (a : Arm) : ((s.fill a).arm a).committed = (s.arm a).committed := by rw [arm_fill_same]

@[simp] theorem cmd_fill (a : Arm) : ((s.fill a).arm a).cmd = (s.arm a).cmd := by rw [arm_fill_same]

@[simp] theorem seg_fill (a : Arm) : ((s.fill a).arm a).seg = (s.arm a).seg := by rw [arm_fill_same]

@[simp] theorem moving_fill (a : Arm) : ((s.fill a).arm a).moving = (s.arm a).moving := by rw [arm_fill_same]

@[simp] theorem crossed_fill (a : Arm) : ((s.fill a).arm a).crossed = (s.arm a).crossed := by rw [arm_fill_same]

@[simp] theorem due_fill (a : Arm) : ((s.fill a).arm a).due = (s.arm a).due := by rw [arm_fill_same]

@[simp] theorem cause_fill (a : Arm) : ((s.fill a).arm a).cause = (s.arm a).cause := by rw [arm_fill_same]

@[simp] theorem lastFault_fill (a : Arm) : ((s.fill a).arm a).lastFault = (s.arm a).lastFault := by rw [arm_fill_same]

@[simp] theorem frameOffset_fill (a : Arm) : ((s.fill a).arm a).frameOffset = (s.arm a).frameOffset := by rw [arm_fill_same]

@[simp] theorem mounted_fill (a : Arm) : ((s.fill a).arm a).mounted = (s.arm a).mounted := by rw [arm_fill_same]

@[simp] theorem seatLow_fill (a : Arm) : ((s.fill a).arm a).seatLow = (s.arm a).seatLow := by rw [arm_fill_same]

@[simp] theorem debouncing_fill (a : Arm) : ((s.fill a).arm a).debouncing = (s.arm a).debouncing := by rw [arm_fill_same]

@[simp] theorem probeLost_fill (a : Arm) : ((s.fill a).arm a).probeLost = (s.arm a).probeLost := by rw [arm_fill_same]

@[simp] theorem dwellTimer_fill (a : Arm) : ((s.fill a).arm a).dwellTimer = (s.arm a).dwellTimer := by rw [arm_fill_same]

@[simp] theorem stableTimer_fill (a : Arm) : ((s.fill a).arm a).stableTimer = (s.arm a).stableTimer := by rw [arm_fill_same]

@[simp] theorem coverTimer_fill (a : Arm) : ((s.fill a).arm a).coverTimer = (s.arm a).coverTimer := by rw [arm_fill_same]

@[simp] theorem seatWait_fill (a : Arm) : ((s.fill a).arm a).seatWait = (s.arm a).seatWait := by rw [arm_fill_same]

@[simp] theorem link_fill (a : Arm) : ((s.fill a).arm a).link = (s.arm a).link := by rw [arm_fill_same]

@[simp] theorem axes_fill (a : Arm) : ((s.fill a).arm a).axes = (s.arm a).axes := by rw [arm_fill_same]

/-! ## The release test -/

@[simp] theorem shm_zoneRelease (a : Arm) : (s.zoneRelease a).shm = s.shm := by
  unfold State.zoneRelease
  split <;> rfl

@[simp] theorem shm_releaseTest (a : Arm) (n : Bool) : (s.releaseTest a n).shm = s.shm := by
  unfold State.releaseTest
  split <;> simp

@[simp] theorem lanes_zoneRelease (a : Arm) : (s.zoneRelease a).lanes = s.lanes := by
  unfold State.zoneRelease
  split <;> rfl

@[simp] theorem lanes_releaseTest (a : Arm) (n : Bool) : (s.releaseTest a n).lanes = s.lanes := by
  unfold State.releaseTest
  split <;> simp

@[simp] theorem latches_zoneRelease (a : Arm) : (s.zoneRelease a).latches = s.latches := by
  unfold State.zoneRelease
  split <;> rfl

@[simp] theorem latches_releaseTest (a : Arm) (n : Bool) : (s.releaseTest a n).latches = s.latches := by
  unfold State.releaseTest
  split <;> simp

@[simp] theorem tables_zoneRelease (a : Arm) : (s.zoneRelease a).tables = s.tables := by
  unfold State.zoneRelease
  split <;> rfl

@[simp] theorem tables_releaseTest (a : Arm) (n : Bool) : (s.releaseTest a n).tables = s.tables := by
  unfold State.releaseTest
  split <;> simp

@[simp] theorem free_zoneRelease (a : Arm) : (s.zoneRelease a).free = s.free := by
  unfold State.zoneRelease
  split <;> rfl

@[simp] theorem free_releaseTest (a : Arm) (n : Bool) : (s.releaseTest a n).free = s.free := by
  unfold State.releaseTest
  split <;> simp

@[simp] theorem unit_zoneRelease (a : Arm) : (s.zoneRelease a).unit = s.unit := by
  unfold State.zoneRelease
  split <;> rfl

@[simp] theorem unit_releaseTest (a : Arm) (n : Bool) : (s.releaseTest a n).unit = s.unit := by
  unfold State.releaseTest
  split <;> simp

@[simp] theorem refreshDue_zoneRelease (a : Arm) : (s.zoneRelease a).refreshDue = s.refreshDue := by
  unfold State.zoneRelease
  split <;> rfl

@[simp] theorem refreshDue_releaseTest (a : Arm) (n : Bool) : (s.releaseTest a n).refreshDue = s.refreshDue := by
  unfold State.releaseTest
  split <;> simp

@[simp] theorem arm_zoneRelease_same (a : Arm) : (s.zoneRelease a).arm a = s.arm a := by
  unfold State.zoneRelease
  split <;> simp

@[simp] theorem arm_releaseTest_same (a : Arm) (n : Bool) : (s.releaseTest a n).arm a = s.arm a := by
  unfold State.releaseTest
  split <;> simp

variable {s} in
/-- The release test of an arm whose grant the other arm does not wait for leaves the other arm alone. -/
theorem arm_releaseTest_other {a : Arm} (h : s.unasked a = true) (n : Bool) :
    (s.releaseTest a n).arm a.other = s.arm a.other := by
  rcases s.releaseTest_cases a n with ⟨e, _⟩ | ⟨e, holds, _⟩
  · rw [e]
  · rw [e, State.zoneRelease_idle (by simpa [State.unasked, holds] using h)]
    rfl

/-! ## The settlement of a change and the loss of a probe -/

@[simp] theorem shm_detach (a : Arm) : (s.detach a).shm = s.shm := by
  unfold State.detach
  split <;> rfl

@[simp] theorem lanes_detach (a : Arm) : (s.detach a).lanes = s.lanes := by
  unfold State.detach
  split <;> rfl

@[simp] theorem latches_detach (a : Arm) : (s.detach a).latches = s.latches := by
  unfold State.detach
  split <;> rfl

@[simp] theorem zone_detach (a : Arm) : (s.detach a).zone = s.zone := by
  unfold State.detach
  split <;> rfl

@[simp] theorem free_detach (a : Arm) : (s.detach a).free = s.free := by
  unfold State.detach
  split <;> rfl

@[simp] theorem unit_detach (a : Arm) : (s.detach a).unit = s.unit := by
  unfold State.detach
  split <;> rfl

@[simp] theorem refreshDue_detach (a : Arm) : (s.detach a).refreshDue = s.refreshDue := by
  unfold State.detach
  split <;> rfl

@[simp] theorem arms_detach (a : Arm) : (s.detach a).arms = s.arms := by
  unfold State.detach
  split <;> rfl

@[simp] theorem arm_detach (a b : Arm) : (s.detach a).arm b = s.arm b := by
  rw [State.arm, arms_detach, State.arm]

@[simp] theorem shm_noteProbeChange (b : State) (a : Arm) : (State.noteProbeChange b s a).shm = s.shm := by
  unfold State.noteProbeChange
  split <;> rfl

@[simp] theorem lanes_noteProbeChange (b : State) (a : Arm) : (State.noteProbeChange b s a).lanes = s.lanes := by
  unfold State.noteProbeChange
  split <;> rfl

@[simp] theorem latches_noteProbeChange (b : State) (a : Arm) : (State.noteProbeChange b s a).latches = s.latches := by
  unfold State.noteProbeChange
  split <;> rfl

@[simp] theorem zone_noteProbeChange (b : State) (a : Arm) : (State.noteProbeChange b s a).zone = s.zone := by
  unfold State.noteProbeChange
  split <;> rfl

@[simp] theorem free_noteProbeChange (b : State) (a : Arm) : (State.noteProbeChange b s a).free = s.free := by
  unfold State.noteProbeChange
  split <;> rfl

@[simp] theorem arms_noteProbeChange (b : State) (a : Arm) : (State.noteProbeChange b s a).arms = s.arms := by
  unfold State.noteProbeChange
  split <;> rfl

@[simp] theorem tables_noteProbeChange (b : State) (a : Arm) : (State.noteProbeChange b s a).tables = s.tables := by
  unfold State.noteProbeChange
  split <;> rfl

@[simp] theorem arm_noteProbeChange (b : State) (a c : Arm) : (State.noteProbeChange b s a).arm c = s.arm c := by
  rw [State.arm, arms_noteProbeChange, State.arm]

@[simp] theorem shm_settlement (a : Arm) : (s.settlement a).shm = s.shm := by
  unfold State.settlement
  dsimp only
  rw [shm_noteProbeChange]
  repeat' split
  all_goals simp

@[simp] theorem shm_settleChange (a : Arm) : (s.settleChange a).shm = s.shm := by
  unfold State.settleChange
  split <;> simp

@[simp] theorem shm_applyProbeLost (a : Arm) : (s.applyProbeLost a).shm = s.shm := by
  unfold State.applyProbeLost
  dsimp only
  repeat' split
  all_goals simp

@[simp] theorem lanes_settlement (a : Arm) : (s.settlement a).lanes = s.lanes := by
  unfold State.settlement
  dsimp only
  rw [lanes_noteProbeChange]
  repeat' split
  all_goals simp

@[simp] theorem lanes_settleChange (a : Arm) : (s.settleChange a).lanes = s.lanes := by
  unfold State.settleChange
  split <;> simp

@[simp] theorem lanes_applyProbeLost (a : Arm) : (s.applyProbeLost a).lanes = s.lanes := by
  unfold State.applyProbeLost
  dsimp only
  repeat' split
  all_goals simp

@[simp] theorem latches_settlement (a : Arm) : (s.settlement a).latches = s.latches := by
  unfold State.settlement
  dsimp only
  rw [latches_noteProbeChange]
  repeat' split
  all_goals simp

@[simp] theorem latches_settleChange (a : Arm) : (s.settleChange a).latches = s.latches := by
  unfold State.settleChange
  split <;> simp

@[simp] theorem latches_applyProbeLost (a : Arm) : (s.applyProbeLost a).latches = s.latches := by
  unfold State.applyProbeLost
  dsimp only
  repeat' split
  all_goals simp

@[simp] theorem zone_settlement (a : Arm) : (s.settlement a).zone = s.zone := by
  unfold State.settlement
  dsimp only
  rw [zone_noteProbeChange]
  repeat' split
  all_goals simp

@[simp] theorem zone_settleChange (a : Arm) : (s.settleChange a).zone = s.zone := by
  unfold State.settleChange
  split <;> simp

@[simp] theorem zone_applyProbeLost (a : Arm) : (s.applyProbeLost a).zone = s.zone := by
  unfold State.applyProbeLost
  dsimp only
  repeat' split
  all_goals simp

@[simp] theorem free_settlement (a : Arm) : (s.settlement a).free = s.free := by
  unfold State.settlement
  dsimp only
  rw [free_noteProbeChange]
  repeat' split
  all_goals simp

@[simp] theorem free_settleChange (a : Arm) : (s.settleChange a).free = s.free := by
  unfold State.settleChange
  split <;> simp

@[simp] theorem free_applyProbeLost (a : Arm) : (s.applyProbeLost a).free = s.free := by
  unfold State.applyProbeLost
  dsimp only
  repeat' split
  all_goals simp

@[simp] theorem arm_settlement_same (a : Arm) :
    (s.settlement a).arm a = { s.arm a with mounted := State.settledMount (s.arm a).seatLow (s.arm a).mounted } := by
  unfold State.settlement
  dsimp only
  rw [arm_noteProbeChange]
  repeat' split
  all_goals simp

@[simp] theorem arm_settlement_other (a : Arm) : (s.settlement a).arm a.other = s.arm a.other := by
  unfold State.settlement
  dsimp only
  rw [arm_noteProbeChange]
  repeat' split
  all_goals simp

/-- The mounted value after a settlement that is made where a change has begun. -/
def ArmRec.settledMounted (r : ArmRec) : Mounted := if r.changing then State.settledMount r.seatLow r.mounted else r.mounted

@[simp] theorem arm_settleChange_same (a : Arm) :
    (s.settleChange a).arm a = { s.arm a with mounted := (s.arm a).settledMounted } := by
  unfold State.settleChange ArmRec.settledMounted
  split <;> simp

@[simp] theorem arm_settleChange_other (a : Arm) : (s.settleChange a).arm a.other = s.arm a.other := by
  unfold State.settleChange
  split <;> simp

variable {s} in
theorem settleChange_of_not {a : Arm} (h : (s.arm a).changing = false) : s.settleChange a = s := by
  simp [State.settleChange, h]

variable {s} in
theorem applyProbeLost_of_not {a : Arm} (h : (s.arm a).probeLost = false) : s.applyProbeLost a = s := by
  simp [State.applyProbeLost, h]

/-- The loss of a probe touches the mounted value and its own mark. -/
@[simp] theorem arm_applyProbeLost_same (a : Arm) : (s.applyProbeLost a).arm a = { s.arm a with
    probeLost := false
    mounted := if (s.arm a).probeLost then .none else (s.arm a).mounted } := by
  unfold State.applyProbeLost
  dsimp only
  split
  · split
    · rename_i empty
      simp [empty]
    · simp
  · rename_i kept
    have kept : (s.arm a).probeLost = false := by simpa using kept
    simp [← kept]

@[simp] theorem arm_applyProbeLost_other (a : Arm) : (s.applyProbeLost a).arm a.other = s.arm a.other := by
  unfold State.applyProbeLost
  dsimp only
  repeat' split
  all_goals simp

end

end Sys2Proof.Machine
end


section
/-! SUPPORT. The slots of a lane (what a completion writes and what later operations keep of it), the notices that are set,
and the immediate work: when none is left and what one piece of it does. -/

namespace Sys2Proof.Machine

/-! ## Slots -/

/-- From one state to another the words of slot `i` of an arm's lane are kept. -/
def State.keepsSlot (s t : State) (a : Arm) (i : Nat) : Prop :=
  (t.lanes.get a).base = (s.lanes.get a).base ∧
    ∀ k, k < 32 → t.shm.get ((s.lanes.get a).slotBase i + k) = s.shm.get ((s.lanes.get a).slotBase i + k)

section slots
variable {s t u : State} {a : Arm} {i : Nat}

theorem keepsSlot_of_eq (shm : t.shm = s.shm) (base : (t.lanes.get a).base = (s.lanes.get a).base) : s.keepsSlot t a i :=
  ⟨base, fun _ _ => by rw [shm]⟩

theorem State.keepsSlot.trans (h : s.keepsSlot t a i) (k : t.keepsSlot u a i) : s.keepsSlot u a i := by
  obtain ⟨base, kept⟩ := h
  obtain ⟨base', kept'⟩ := k
  refine ⟨base'.trans base, fun n low => ?_⟩
  have same : (t.lanes.get a).slotBase i = (s.lanes.get a).slotBase i := by simp [LaneRec.slotBase, base]
  rw [← kept n low, ← same, kept' n low]

theorem State.keepsSlot.slotBase (h : s.keepsSlot t a i) : (t.lanes.get a).slotBase i = (s.lanes.get a).slotBase i := by
  simp [LaneRec.slotBase, h.1]

/-- What a slot's header says is kept with its words. -/
theorem State.keepsSlot.slotSays {c : SlotCopy} (h : s.keepsSlot t a c.index) {st info : Nat} {tick : Word}
    (told : s.slotSays a c st info tick) : t.slotSays a c st info tick := by
  obtain ⟨first, third, fourth⟩ := told
  have word (k : Nat) (low : k < 32) := h.2 k low
  unfold State.slotSays
  rw [h.slotBase]
  exact ⟨(word 0 (by decide)).trans first, (word 2 (by decide)).trans third, (word 3 (by decide)).trans fourth⟩

/-- The result words of a slot are kept with its words. -/
theorem State.keepsSlot.slotGives {c : SlotCopy} (h : s.keepsSlot t a c.index) {ws : List Word} (few : ws.length ≤ 12)
    (gives : s.slotGives a c ws) : t.slotGives a c ws := by
  intro k low
  rw [h.slotBase, Nat.add_assoc, h.2 (20 + k) (by omega), ← Nat.add_assoc]
  exact gives k low

theorem posted_iff (l : LaneRec) (m : Shm) : l.posted m = true ↔ field (m.get (l.slotBase l.cursor)) 0 8 = 1 := by
  simp [LaneRec.posted, slotPosted]

/-- A fill keeps the words of a slot that does not stand POSTED (R42). -/
theorem keepsSlot_fill (wf : s.shm.wf = true) (taken : field (s.shm.get ((s.lanes.get a).slotBase i)) 0 8 ≠ 1) :
    s.keepsSlot (s.fill a) a i := by
  have all : (s.fill a).shm.wf = true ∧ s.keepsSlot (s.fill a) a i := by
    refine fill_induction (P := fun t => t.shm.wf = true ∧ s.keepsSlot t a i) (fun t u h look => ?_)
      ⟨wf, keepsSlot_of_eq rfl rfl⟩
    obtain ⟨wft, base, kept⟩ := h
    obtain ⟨_, _, posted, _, rfl⟩ := fillOne_eq_some look
    refine ⟨wf_takenShm wft _, ?_, fun k low => ?_⟩
    · rw [State.setArm_lanes, Duo.get_set_same]
      exact base
    · rw [← kept k low]
      refine Shm.get_write_other wft _ _ _ fun same => taken ?_
      rw [posted_iff] at posted
      simp only [LaneRec.slotBase, base] at same posted kept ⊢
      have here : (t.lanes.get a).cursor = i := by omega
      have zero := kept 0 (by decide)
      simp only [Nat.add_zero] at zero
      rw [← zero, ← here]
      exact posted
  exact all.2

/-- Flushed slots keep the words of every other slot (R43). -/
theorem keepsSlot_flushSlots {l : List SlotCopy} (wf : s.shm.wf = true) (apart : ∀ c ∈ l, c.index ≠ i) :
    s.keepsSlot (State.flushSlots a l s) a i := by
  induction l generalizing s with
  | nil => exact keepsSlot_of_eq rfl rfl
  | cons c l ih =>
    let t := s.completeMotionSlot a c ⟨slotFlushed, .none, none, {}⟩ none
    have wft : t.shm.wf = true := Shm.wf_writeList wf _ _
    have next : t.keepsSlot (State.flushSlots a l t) a i :=
      ih wft fun d mem => apart d (List.mem_cons_of_mem _ mem)
    have now : s.keepsSlot t a i := by
      refine ⟨rfl, fun k low => Shm.get_writeList_outside wf _ _ _ ?_⟩
      have ne := apart c List.mem_cons_self
      simp only [length_header, LaneRec.slotBase]
      omega
    exact now.trans next

/-- The pause of a lane keeps the words of a slot that its queue does not name (R43). -/
theorem keepsSlot_pauseLane (wf : s.shm.wf = true) (apart : ∀ c ∈ (s.arm a).queue, c.index ≠ i) :
    s.keepsSlot (s.pauseLane a) a i := by
  cases paused : (s.lanes.get a).paused
  · rw [pauseLane_open paused]
    let t := { s with lanes := s.lanes.set a { s.lanes.get a with paused := true } }.modArm a fun r => { r with queue := [] }
    have now : s.keepsSlot t a i := keepsSlot_of_eq rfl (by simp [t])
    exact now.trans (keepsSlot_flushSlots (s := t) wf apart)
  · rw [pauseLane_paused paused]
    exact keepsSlot_of_eq rfl rfl

theorem keepsSlot_releaseTest (n : Bool) : s.keepsSlot (s.releaseTest a n) a i := keepsSlot_of_eq (by simp) (by simp)

/-- The completion of a block keeps the words of another slot. -/
theorem keepsSlot_writeBlock {b : Block} (wf : s.shm.wf = true) (apart : b.slot.index ≠ i) (st : Nat) (x : Status)
    (f : Option FaultCode) (ws : List Word) : s.keepsSlot (s.writeBlock a b st x f ws) a i := by
  refine ⟨rfl, fun k low => ?_⟩
  have outside (w : Nat) := get_writeSlot_outside wf ((s.lanes.get a).slotBase b.slot.index) b.slot ⟨st, x, f, b.flags⟩
    (some ws) s.tickNo w
  refine outside _ ?_ ?_ <;> simp only [LaneRec.slotBase] <;> omega

theorem keepsSlot_writeCommitted (wf : s.shm.wf = true) (apart : ∀ b, (s.arm a).committed = some b → b.slot.index ≠ i)
    (st : Nat) (x : Status) (f : Option FaultCode) : s.keepsSlot (s.writeCommitted a st x f) a i := by
  cases e : (s.arm a).committed with
  | none => rw [writeCommitted_none e]; exact keepsSlot_of_eq rfl rfl
  | some b => rw [writeCommitted_some e]; exact keepsSlot_writeBlock wf (apart b e) _ _ _ _

/-- What the completion of a block writes into its header (R159, 12.1). -/
theorem slotSays_writeBlock {b : Block} (wf : s.shm.wf = true) (fits : (s.lanes.get a).slotBase b.slot.index + 32 ≤ 65536)
    (st : Nat) (x : Status) (f : Option FaultCode) (ws : List Word) :
    (s.writeBlock a b st x f ws).slotSays a b.slot st (x.code + faultCodeOf f * 256 + b.flags.bits) s.tickNo := by
  have word (k : Nat) (low : k < 4) := get_writeSlot_header wf ((s.lanes.get a).slotBase b.slot.index) b.slot
    ⟨st, x, f, b.flags⟩ (some ws) s.tickNo k low (by omega)
  exact ⟨word 0 (by decide), word 2 (by decide), word 3 (by decide)⟩

/-- The result words that the completion of a block writes (R159, R178). -/
theorem slotGives_writeBlock {b : Block} (wf : s.shm.wf = true) (fits : (s.lanes.get a).slotBase b.slot.index + 32 ≤ 65536)
    (st : Nat) (x : Status) (f : Option FaultCode) (ws more : List Word) (few : ws.length ≤ 12) :
    (s.writeBlock a b st x f (ws ++ more)).slotGives a b.slot ws := by
  intro k low
  refine (get_writeSlot_result wf _ _ _ _ _ k (by omega) fits).trans ?_
  rw [twelve, List.getD_eq_getElem?_getD, List.getElem?_take_of_lt (by omega), List.append_assoc,
    List.getElem?_append_left low, List.getD_eq_getElem?_getD]

/-- The state field of a slot's header. -/
theorem slotSays_state {t : State} {c : SlotCopy} {st info : Nat} {tick : Word} (low : st < 256)
    (told : t.slotSays a c st info tick) : field (t.shm.get ((t.lanes.get a).slotBase c.index)) 0 8 = st := by
  rw [told.1, field, natWord_toNat]
  omega

end slots

/-! ## Notices -/

/-- A notice kind is set. -/
def State.noted (s : State) (n : Notice) : Prop := s.unit.notices &&& n.one ≠ 0

/-- A kind that is in a set is in a larger one. -/
theorem and_ne_zero_of_or {x y m : BitVec 10} (h : x &&& m ≠ 0) : (x ||| y) &&& m ≠ 0 := by
  intro zero
  apply h
  ext j low
  have bit := congrArg (fun w => w.getLsbD j) zero
  simp only [BitVec.getLsbD_and, BitVec.getLsbD_or] at bit
  simp only [BitVec.getElem_and]
  rw [← BitVec.getLsbD_eq_getElem, ← BitVec.getLsbD_eq_getElem]
  cases hx : x.getLsbD j <;> cases hm : m.getLsbD j <;> simp [hx, hm] at bit ⊢

section notices
variable {s : State} {n : Notice}

theorem noted_setNotice_same (s : State) (n : Notice) : (s.setNotice n).noted n := by
  have own : n.one &&& n.one ≠ 0 := by cases n <;> decide
  show (s.unit.notices ||| n.one) &&& n.one ≠ 0
  rw [BitVec.or_comm]
  exact and_ne_zero_of_or own

theorem noted_of_unit {t : State} (unit : t.unit = s.unit) (h : s.noted n) : t.noted n := by
  unfold State.noted
  rw [unit]
  exact h

@[simp] theorem noted_setNotice (h : s.noted n) (k : Notice) : (s.setNotice k).noted n := and_ne_zero_of_or h

@[simp] theorem noted_modArm (a : Arm) (f : ArmRec → ArmRec) : (s.modArm a f).noted n ↔ s.noted n := Iff.rfl

@[simp] theorem noted_modExec (a : Arm) (f : Block → Block) : (s.modExec a f).noted n ↔ s.noted n := Iff.rfl

@[simp] theorem noted_setPhase (a : Arm) (p : Phase) : (s.setPhase a p).noted n ↔ s.noted n := Iff.rfl

@[simp] theorem noted_setDue (a : Arm) (d : Due) : (s.setDue a d).noted n ↔ s.noted n := Iff.rfl

@[simp] theorem noted_setMounted (a : Arm) (m : Mounted) : (s.setMounted a m).noted n ↔ s.noted n := Iff.rfl

@[simp] theorem noted_setUnit (i : Fin 16) (u : LatchUnit) : (s.setUnit i u).noted n ↔ s.noted n := Iff.rfl

@[simp] theorem noted_disarmBlock (a : Arm) : (s.disarmBlock a).noted n ↔ s.noted n := Iff.rfl

@[simp] theorem noted_zoneWithdraw (a : Arm) : (s.zoneWithdraw a).noted n ↔ s.noted n := Iff.rfl

@[simp] theorem noted_writeBlock (h : s.noted n) (a : Arm) (b : Block) (st : Nat) (x : Status) (f : Option FaultCode)
    (ws : List Word) : (s.writeBlock a b st x f ws).noted n := and_ne_zero_of_or h

/-- The completion of a block sets its lane's notice (R159). -/
theorem noted_writeBlock_lane (s : State) (a : Arm) (b : Block) (st : Nat) (x : Status) (f : Option FaultCode)
    (ws : List Word) : (s.writeBlock a b st x f ws).noted (laneNotice a) := noted_setNotice_same _ _

@[simp] theorem noted_writeExec (h : s.noted n) (a : Arm) (st : Nat) (x : Status) (f : Option FaultCode) :
    (s.writeExec a st x f).noted n := by
  unfold State.writeExec
  split
  · exact h
  · exact noted_writeBlock h _ _ _ _ _ _

@[simp] theorem noted_writeCommitted (h : s.noted n) (a : Arm) (st : Nat) (x : Status) (f : Option FaultCode) :
    (s.writeCommitted a st x f).noted n := by
  unfold State.writeCommitted
  split
  · exact h
  · exact noted_writeBlock h _ _ _ _ _ _

@[simp] theorem noted_flushSlots (h : s.noted n) (a : Arm) (l : List SlotCopy) : (State.flushSlots a l s).noted n := by
  induction l generalizing s with
  | nil => exact h
  | cons c l ih => exact ih (and_ne_zero_of_or h)

@[simp] theorem noted_pauseLane (h : s.noted n) (a : Arm) : (s.pauseLane a).noted n := by
  unfold State.pauseLane
  dsimp only
  split
  · exact h
  · exact noted_flushSlots (by exact h) _ _

@[simp] theorem noted_fill (h : s.noted n) (a : Arm) : (s.fill a).noted n := noted_of_unit (by simp) h

@[simp] theorem noted_releaseTest (h : s.noted n) (a : Arm) (m : Bool) : (s.releaseTest a m).noted n :=
  noted_of_unit (by simp) h

@[simp] theorem noted_detach (h : s.noted n) (a : Arm) : (s.detach a).noted n := noted_of_unit (by simp) h

@[simp] theorem noted_noteProbeChange (h : s.noted n) (b : State) (a : Arm) :
    (State.noteProbeChange b s a).noted n := by
  unfold State.noteProbeChange
  split
  · exact noted_setNotice h _
  · exact h

@[simp] theorem noted_settlement (h : s.noted n) (a : Arm) : (s.settlement a).noted n := by
  unfold State.settlement
  dsimp only
  refine noted_noteProbeChange ?_ _ _
  rw [noted_setMounted]
  repeat' split
  · exact h
  · exact noted_detach (by exact h) _
  · exact h
  · exact noted_detach (by exact h) _

@[simp] theorem noted_settleChange (h : s.noted n) (a : Arm) : (s.settleChange a).noted n := by
  unfold State.settleChange
  split
  · exact noted_settlement h a
  · exact h

@[simp] theorem noted_applyProbeLost (h : s.noted n) (a : Arm) : (s.applyProbeLost a).noted n := by
  unfold State.applyProbeLost
  dsimp only
  repeat' split
  · exact h
  · exact noted_setNotice (by simpa using noted_detach (by exact h) a) _
  · exact h

@[simp] theorem noted_afterDone (h : s.noted n) (a : Arm) : (s.afterDone a).noted n :=
  noted_fill (by simpa using noted_releaseTest (by exact h) a _) a

@[simp] theorem noted_completeDone (h : s.noted n) (a : Arm) (x : Status) : (s.completeDone a x).noted n :=
  noted_afterDone (noted_writeExec h a _ _ _) a

@[simp] theorem noted_blockFault (h : s.noted n) (a : Arm) (c : FaultCode) : (s.blockFault a c).noted n := by
  unfold State.blockFault
  dsimp only
  rw [noted_modArm]
  refine noted_releaseTest (noted_pauseLane ?_ a) a _
  rw [noted_modArm]
  refine noted_writeExec ?_ a _ _ _
  split
  · exact h
  · exact noted_settleChange (by exact h) a

@[simp] theorem noted_enterFault (h : s.noted n) (a : Arm) (c : FaultCode) : (s.enterFault a c).noted n :=
  noted_applyProbeLost (noted_releaseTest (noted_setNotice (by exact h) _) a _) a

/-- An entry into FAULT sets the arm's fault notice (R64). -/
theorem noted_enterFault_fault (s : State) (a : Arm) (c : FaultCode) : (s.enterFault a c).noted (faultNotice a) :=
  noted_applyProbeLost (noted_releaseTest (noted_setNotice_same _ _) a _) a

end notices

/-! ## Immediate work -/

/-- No immediate work of the arm is left. -/
def ArmRec.still (r : ArmRec) : Prop :=
  r.due ≠ some .segEnd ∧ (r.state = .active → r.moving = false →
    ¬ (r.holdLevel = true ∧ (r.due ≠ none ∨ r.phase.begun = true)) ∧ (r.due = none ∨ r.due = some .nextLeg))

/-- No immediate work of the arm is left, and it does not wait for a swap. -/
def ArmRec.calm (r : ArmRec) : Prop := r.still ∧ ¬ (r.state = .active ∧ r.phase = .waitSwap)

section work
variable {s t u : State} {a : Arm}

theorem armWork_eq_none_iff (s : State) (a : Arm) : s.armWork a = none ↔ (s.arm a).still := by
  unfold State.armWork ArmRec.still
  dsimp only
  by_cases seg : (s.arm a).due = some .segEnd
  · simp [seg]
  rw [if_neg seg]
  by_cases rest : (s.arm a).state = .active ∧ (s.arm a).moving = false
  · rw [if_pos rest]
    obtain ⟨active, resting⟩ := rest
    by_cases held : (s.arm a).holdLevel = true ∧ ((s.arm a).due ≠ none ∨ (s.arm a).phase.begun = true)
    · simp [held, active, resting]
    · rw [if_neg held]
      by_cases next : (s.arm a).due = some .nextLeg
      · rw [if_pos next]
        exact iff_of_true rfl ⟨seg, fun _ _ => ⟨held, .inr next⟩⟩
      · rw [if_neg next]
        simp [active, resting, held, seg, next]
  · rw [if_neg rest]
    exact iff_of_true rfl ⟨seg, fun active resting => absurd ⟨active, resting⟩ rest⟩

/-- No immediate work is left: no swap is ready, none has to release an arm, and both arms are still. -/
theorem settled_iff (s : State) : s.settled = true ↔
    s.swapReady = false ∧ (∀ a, s.swapReleased a = false) ∧ ∀ a, (s.arm a).still := by
  have arms : (s.armWork .A = none ∧ s.armWork .B = none) ↔ ∀ a, (s.arm a).still := by
    rw [armWork_eq_none_iff, armWork_eq_none_iff]
    exact ⟨fun h a => by cases a; exacts [h.1, h.2], fun h => ⟨h .A, h .B⟩⟩
  rw [← arms]
  unfold State.settled State.immediate
  cases ready : s.swapReady
  · rcases s.swapRelease_cases with ⟨e, idle⟩ | ⟨a, go, _, e⟩ | ⟨a, go, e⟩
    · rw [e]
      cases wA : s.armWork .A <;> simp [idle]
    · rw [e]
      refine iff_of_false (by simp) fun h => ?_
      rw [h.2.1 a] at go
      cases go
    · rw [e]
      refine iff_of_false (by simp) fun h => ?_
      have := go a
      rw [h.2.1 a] at this
      cases this
  · simp

theorem calm_iff (s : State) : s.calm = true ↔ s.corr.swapPending = false ∧ ∀ a, (s.arm a).calm := by
  unfold State.calm
  rw [Bool.and_eq_true, settled_iff, Bool.not_eq_true']
  constructor
  · rintro ⟨⟨_, released, still⟩, pending⟩
    refine ⟨pending, fun a => ⟨still a, fun waits => ?_⟩⟩
    have := released a
    rw [(s.swapReleased_iff a).2 ⟨waits.1, waits.2, pending⟩] at this
    cases this
  · rintro ⟨pending, calm⟩
    refine ⟨⟨by simp [State.swapReady, pending], fun a => ?_, fun a => (calm a).1⟩, pending⟩
    rw [Bool.eq_false_iff, ne_eq, s.swapReleased_iff]
    exact fun waits => (calm a).2 ⟨waits.1, waits.2.1⟩

theorem settled_of_calm (h : s.calm = true) : s.settled = true := by
  rw [State.calm, Bool.and_eq_true] at h
  exact h.1

theorem swapPending_of_calm (h : s.calm = true) : s.corr.swapPending = false := ((calm_iff s).1 h).1

theorem armCalm_of_calm (h : s.calm = true) (a : Arm) : (s.arm a).calm := ((calm_iff s).1 h).2 a

/-- A state is calm where no swap is pending and each of its arms is. -/
theorem calm_of_arms (pending : t.corr.swapPending = false) (own : (t.arm a).calm) (other : (t.arm a.other).calm) :
    t.calm = true := by
  refine (calm_iff t).2 ⟨pending, fun b => ?_⟩
  rcases a.eq_or_other b with rfl | rfl
  · exact own
  · exact other

theorem settleN_of_settled (h : s.settled = true) (n : Nat) : State.settleN n s = s := by
  have none : s.immediate = .none := by simpa [State.settled] using h
  cases n <;> simp [State.settleN, none]

/-- Where no immediate work is left, doing it changes nothing. -/
theorem settle_of_settled (h : s.settled = true) : s.settle = s := settleN_of_settled h 256

theorem settle_of_calm (h : s.calm = true) : s.settle = s := settle_of_settled (settled_of_calm h)

theorem settleN_succ (work : s.immediate = some t) (n : Nat) : State.settleN (n + 1) s = State.settleN n t := by
  simp [State.settleN, work]

/-- One piece of immediate work. -/
theorem settle_one (work : s.immediate = some t) (h : t.settled = true) : s.settle = t :=
  (settleN_succ work 255).trans (settleN_of_settled h 255)

/-- Two pieces of immediate work. -/
theorem settle_two (first : s.immediate = some t) (second : t.immediate = some u) (h : u.settled = true) :
    s.settle = u :=
  (settleN_succ first 255).trans ((settleN_succ second 254).trans (settleN_of_settled h 254))

/-- Three pieces of immediate work. -/
theorem settle_three {v : State} (first : s.immediate = some t) (second : t.immediate = some u)
    (third : u.immediate = some v) (h : v.settled = true) : s.settle = v :=
  (settleN_succ first 255).trans ((settleN_succ second 254).trans
    ((settleN_succ third 253).trans (settleN_of_settled h 253)))

/-- The work of one arm is the immediate work where the swap brings none and the other arm is still. -/
theorem immediate_of_armWork (ready : s.swapReady = false) (released : ∀ x, s.swapReleased x = false)
    (other : (s.arm a.other).still) (work : s.armWork a = some t) : s.immediate = some t := by
  have idle : s.swapRelease = none := by simp [State.swapRelease, released]
  have rest := (armWork_eq_none_iff s a.other).2 other
  unfold State.immediate
  rw [ready, idle]
  cases a
  · simp [work]
  · simp [show s.armWork .A = none from rest, work]

/-- What is due at an ACTIVE arm at rest with its hold level clear begins. -/
theorem armWork_due {d : Due} (active : (s.arm a).state = .active) (rest : (s.arm a).moving = false)
    (free : (s.arm a).holdLevel = false) (due : (s.arm a).due = some d) (now : d ≠ .nextLeg) :
    s.armWork a = some (s.beginDue a d) := by
  unfold State.armWork
  dsimp only
  by_cases seg : d = .segEnd
  · simp [due, seg]
  · simp [due, active, rest, free, seg, now]

/-- An ACTIVE arm at rest with its hold level set becomes HELD, in a phase that has begun or with work due. -/
theorem armWork_held (active : (s.arm a).state = .active) (rest : (s.arm a).moving = false)
    (level : (s.arm a).holdLevel = true) (begun : (s.arm a).due ≠ none ∨ (s.arm a).phase.begun = true)
    (now : (s.arm a).due ≠ some .segEnd) : s.armWork a = some (s.becomeHeld a) := by
  unfold State.armWork
  dsimp only
  rw [if_neg now, if_pos ⟨active, rest⟩, if_pos ⟨level, begun⟩]

/-- An arm that is not ACTIVE has no work but the end of a segment. -/
theorem calm_of_not_active {r : ArmRec} (state : r.state ≠ .active) (due : r.due ≠ some .segEnd) : r.calm :=
  ⟨⟨due, fun active => absurd active state⟩, fun h => state h.1⟩

/-- An arm that moves has no immediate work. -/
theorem calm_of_moving {r : ArmRec} (moves : r.moving = true) (due : r.due ≠ some .segEnd) (phase : r.phase ≠ .waitSwap) :
    r.calm :=
  ⟨⟨due, fun _ rest => by rw [moves] at rest; cases rest⟩, fun h => phase h.2⟩

/-- An arm at rest with nothing due and its hold level clear has no immediate work. -/
theorem calm_of_resting {r : ArmRec} (due : r.due = none ∨ r.due = some .nextLeg) (level : r.holdLevel = false)
    (phase : r.phase ≠ .waitSwap) : r.calm := by
  refine ⟨⟨?_, fun _ _ => ⟨fun h => ?_, due⟩⟩, fun h => phase h.2⟩
  · rcases due with e | e <;> rw [e] <;> simp
  · rw [level] at h
    cases h.1

end work

end Sys2Proof.Machine
end


section
/-! PROOF. What a fill takes, what a completion writes, the end of a block by a fault, the answer of a service request, and
the entry of both arms into FAULT as the stop line becomes active (O18, O24 to O27). -/

namespace Sys2Proof.Machine

/-! ## A fill and a completion (R42, R159) -/

section
variable {s : State} {a : Arm}

/-- One look that takes the slot at the cursor (R42, R157). -/
theorem fillOne_take (opened : (s.lanes.get a).paused = false) (room : (s.arm a).queue.length < 8)
    (posted : (s.lanes.get a).posted s.shm = true) (fresh : s.holdsSlot a (s.lanes.get a).cursor = false) :
    s.fillOne a = some ({ s with
      shm := (s.lanes.get a).takenShm s.shm
      lanes := s.lanes.set a { s.lanes.get a with cursor := (s.lanes.get a).nextCursor } }.setArm a
        { s.arm a with queue := (s.arm a).queue ++ [(s.lanes.get a).takenCopy s.shm] }) := by
  simp [State.fillOne, opened, room, posted, fresh]

/-- A fill with room for one entry is one look. -/
theorem fill_one {t : State} (look : s.fillOne a = some t) (full : 8 ≤ (t.arm a).queue.length) : s.fill a = t := by
  have fill (n : Nat) : State.fillN a (n + 1) s = State.fillN a n t := by simp [State.fillN, look]
  have rest : State.fillN a 7 t = t := by simp [State.fillN, fillOne_eq_none (.inr (.inl full))]
  exact (fill 7).trans rest

/-- A take writes TAKEN into the state field of the slot's first word and keeps its other bits (R157). -/
theorem field_takenShm {l : LaneRec} {m : Shm} (wf : m.wf = true) (fits : l.slotBase l.cursor + 32 ≤ 65536) :
    field ((l.takenShm m).get (l.slotBase l.cursor)) 0 8 = slotTaken ∧
      field ((l.takenShm m).get (l.slotBase l.cursor)) 8 24 = field (m.get (l.slotBase l.cursor)) 8 24 := by
  have low := (m.get (l.slotBase l.cursor)).isLt
  rw [LaneRec.takenShm, Shm.get_write wf _ _ _ (by omega), if_pos rfl, field_natWord, field_natWord, slotTaken, field]
  omega

end

/-- Settles O24: a fill that cannot take looks once in vain, a fill with room for one entry takes once. -/
theorem fillTakesPostedSlot : Obligations.FillTakesPostedSlot := by
  refine fun s a => ⟨fill_eq_self, fun opened seven posted fresh wf fits => ?_⟩
  have fits : (s.lanes.get a).slotBase (s.lanes.get a).cursor + 32 ≤ 65536 := fits
  rw [fill_one (fillOne_take opened (by omega) posted fresh) (by simp [seven])]
  obtain ⟨taken, kept⟩ := field_takenShm wf fits
  exact ⟨by simp; rfl, rfl, taken, kept, fun j apart => Shm.get_write_other wf _ _ _ apart⟩

theorem twelve_getD {ws : List Word} (few : ws.length ≤ 12) {k : Nat} (low : k < 12) : (twelve ws).getD k 0 = ws.getD k 0 := by
  simp only [twelve, List.getD_eq_getElem?_getD, List.getElem?_take_of_lt low]
  rcases lt_or_ge k ws.length with inside | beyond
  · rw [List.getElem?_append_left inside]
  · rw [List.getElem?_append_right beyond, List.getElem?_eq_none beyond]
    rw [List.getElem?_replicate, if_pos (by omega)]
    rfl

/-- Settles O25: the words of `writeSlot`, and the fields that a completion does not touch. -/
theorem completionWritesSlot : Obligations.CompletionWritesSlot := by
  intro s a copy c ws wf few fits
  have header (k : Nat) (low : k < 4) := get_writeSlot_header wf ((s.lanes.get a).slotBase copy.index) copy c (some ws)
    s.tickNo k low (by omega)
  have outside (j : Nat) := get_writeSlot_outside wf ((s.lanes.get a).slotBase copy.index) copy c (some ws) s.tickNo j
  refine ⟨header 0 (by decide), header 1 (by decide), header 2 (by decide), header 3 (by decide), fun k low => ?_,
    outside, rfl, rfl, rfl, rfl, rfl, rfl, rfl, rfl, rfl⟩
  exact (get_writeSlot_result wf _ _ _ _ _ k low fits).trans (twelve_getD few low)

/-! ## The release test seen from an earlier state (R73, R77, R78) -/

/-- The zone of two states is the same in what the release test of an arm looks at. -/
def State.sameZone (s u : State) (a : Arm) : Prop :=
  u.zone.holder = s.zone.holder ∧ u.zone.last = s.zone.last ∧ u.zone.boxes = s.zone.boxes ∧
    u.zone.waits.get a.other = s.zone.waits.get a.other

section
variable {s t u : State} {a : Arm}

theorem sameZone_of_eq (zone : u.zone = s.zone) : s.sameZone u a := by
  unfold State.sameZone
  rw [zone]
  exact ⟨rfl, rfl, rfl, rfl⟩

/-- A withdrawal is not seen by the arm's own release test (R76). -/
theorem sameZone_of_withdraw (zone : u.zone = (s.zoneWithdraw a).zone) : s.sameZone u a := by
  unfold State.sameZone
  rw [zone]
  exact ⟨rfl, rfl, rfl, by simp [State.zoneWithdraw]⟩

theorem unasked_of_sameZone (zone : s.sameZone u a) : u.unasked a = s.unasked a := by
  obtain ⟨holder, -, -, waits⟩ := zone
  simp [State.unasked, State.holdsGrant, holder, waits]

theorem clears_of_sameZone (zone : s.sameZone u a) (v : Vec) : u.clears a v ↔ s.clears a v := by
  obtain ⟨-, -, boxes, -⟩ := zone
  simp [State.clears, boxes]

theorem tested_of_sameZone {v : Vec} {n : Option Bool} (zone : s.sameZone u a) (h : u.tested t a v n) :
    s.tested t a v n := by
  have clears := clears_of_sameZone zone v
  obtain ⟨holder, last, -, -⟩ := zone
  unfold State.tested at h ⊢
  rw [holder, last, clears] at h
  exact h

/-- The release test of an arm outside its box whose grant the other arm waits for passes the grant on (R73). -/
theorem releaseTest_asked (asked : s.unasked a = false) (out : s.clears a (s.arm a).cmd) :
    s.releaseTest a false = s.zoneGrant a.other := by
  have holds : s.holdsGrant a = true ∧ s.zone.waits.get a.other ≠ .idle := by
    simpa [State.unasked] using asked
  have outside := (s.clears_iff a _).1 out
  rw [← State.zoneRelease_waiting holds.2]
  simp [State.releaseTest, holds.1, outside]

/-- The release test of an arm inside its box changes nothing (R77). -/
theorem releaseTest_inside (inside : ¬ s.clears a (s.arm a).cmd) (n : Bool) : s.releaseTest a n = s := by
  rw [State.clears_iff, Bool.not_eq_false] at inside
  simp [State.releaseTest, inside]

end

/-! ## A block-level fault (R65) -/

theorem settledMounted_quiet (r : ArmRec) : r.quiet.settledMounted = r.settledMounted := rfl

/-- The state of a block-level fault before its release test (R65). -/
def State.faulted (s : State) (a : Arm) (f : FaultCode) : State :=
  let s1 := (s.zoneWithdraw a).modArm a ArmRec.quiet
  let s2 := if f = .idMismatch then s1 else s1.settleChange a
  ((s2.writeExec a slotFaulted .none (some f)).modArm a ArmRec.emptied).pauseLane a

section
variable {s : State} {a : Arm}

theorem blockFault_eq (s : State) (a : Arm) (f : FaultCode) : s.blockFault a f =
    ((s.faulted a f).releaseTest a false).modArm a fun r => { r with state := r.restState } := rfl

/-- The arm before the release test of its fault. -/
theorem arm_faulted_same (s : State) (a : Arm) (f : FaultCode) : (s.faulted a f).arm a = { (s.arm a).emptied with
    queue := s.pausedQueue a
    mounted := if f = .idMismatch then (s.arm a).mounted else (s.arm a).settledMounted } := by
  have idle : (s.arm a).link.idled.idled = (s.arm a).link.idled := rfl
  unfold State.faulted
  by_cases known : f = .idMismatch
  · simp [known, ArmRec.emptied, ArmRec.quiet, State.pausedQueue, idle]
  · simp [known, ArmRec.emptied, State.pausedQueue, settledMounted_quiet]
    simp [ArmRec.quiet, idle]

@[simp] theorem arm_faulted_other (s : State) (a : Arm) (f : FaultCode) : (s.faulted a f).arm a.other = s.arm a.other := by
  unfold State.faulted
  by_cases known : f = .idMismatch <;> simp [known]

@[simp] theorem zone_faulted (s : State) (a : Arm) (f : FaultCode) : (s.faulted a f).zone = (s.zoneWithdraw a).zone := by
  unfold State.faulted
  by_cases known : f = .idMismatch <;> simp [known]

@[simp] theorem lanes_faulted (s : State) (a : Arm) (f : FaultCode) :
    (s.faulted a f).lanes = s.lanes.set a { s.lanes.get a with paused := true } := by
  unfold State.faulted
  by_cases known : f = .idMismatch <;> simp [known]

/-- The arm after a block-level fault (R41, R65). -/
theorem arm_blockFault_same (s : State) (a : Arm) (f : FaultCode) : (s.blockFault a f).arm a = { (s.arm a).emptied with
    state := (s.arm a).between
    queue := s.pausedQueue a
    mounted := if f = .idMismatch then (s.arm a).mounted else (s.arm a).settledMounted } := by
  rw [blockFault_eq, State.arm_modArm_same, arm_releaseTest_same, arm_faulted_same]
  rfl

/-- The header of the executing block's slot once its completion is written (R159). -/
theorem slotSays_writeExec {b : Block} (exec : (s.arm a).exec = some b) (wf : s.shm.wf = true)
    (fits : (s.lanes.get a).slotBase b.slot.index + 32 ≤ 65536) (st : Nat) (x : Status) (f : Option FaultCode) :
    (s.writeExec a st x f).slotSays a b.slot st (x.code + faultCodeOf f * 256 + b.flags.bits) s.tickNo := by
  rw [writeExec_some exec]
  exact slotSays_writeBlock wf fits st x f _

theorem wf_writeExec (wf : s.shm.wf = true) (st : Nat) (x : Status) (f : Option FaultCode) :
    (s.writeExec a st x f).shm.wf = true := by
  cases exec : (s.arm a).exec with
  | none => rwa [writeExec_none exec]
  | some b =>
    rw [writeExec_some exec]
    exact Shm.wf_writeList (Shm.wf_writeList wf _ _) _ _

/-- The slot of a block that ends with a block-level fault, before the release test (R65, R159). -/
theorem slotSays_faulted {b : Block} (exec : (s.arm a).exec = some b) (fits : s.slotFits a b.slot) (f : FaultCode) :
    (s.faulted a f).slotSays a b.slot slotFaulted (f.code * 256 + b.flags.bits) s.tickNo := by
  obtain ⟨wf, window, apart⟩ := fits
  let s1 := (s.zoneWithdraw a).modArm a ArmRec.quiet
  let s2 := if f = .idMismatch then s1 else s1.settleChange a
  have same : s2.shm = s.shm ∧ s2.lanes = s.lanes ∧ s2.core = s.core ∧ (s2.arm a).exec = (s.arm a).exec ∧
      (s2.arm a).queue = (s.arm a).queue := by
    by_cases known : f = .idMismatch <;> simp [s2, s1, known, ArmRec.quiet]
  obtain ⟨shm, lanes, core, execs, queue⟩ := same
  have wf2 : s2.shm.wf = true := by rw [shm, wf]
  have written := slotSays_writeExec (execs.trans exec) wf2 (by rw [lanes]; exact window) slotFaulted .none (some f)
  rw [show s2.tickNo = s.tickNo from congrArg Core.tickNo core] at written
  let s3 := (s2.writeExec a slotFaulted .none (some f)).modArm a ArmRec.emptied
  have info : Status.none.code + faultCodeOf (some f) * 256 + b.flags.bits = f.code * 256 + b.flags.bits := by
    rw [show Status.none.code = 0 from rfl, Nat.zero_add]
    rfl
  rw [info] at written
  refine State.keepsSlot.slotSays (s := s3) (keepsSlot_pauseLane (wf_writeExec wf2 _ _ _) fun c mem => apart c ?_) written
  simpa [s3, ArmRec.emptied, ArmRec.quiet, queue] using mem

/-- The slot of a block that ends with a block-level fault (R65, R159). -/
theorem slotSays_blockFault {b : Block} (exec : (s.arm a).exec = some b) (fits : s.slotFits a b.slot) (f : FaultCode) :
    (s.blockFault a f).slotSays a b.slot slotFaulted (f.code * 256 + b.flags.bits) s.tickNo :=
  (keepsSlot_releaseTest false).slotSays (slotSays_faulted exec fits f)

theorem tested_blockFault (unasked : s.unasked a = true) (f : FaultCode) :
    s.tested (s.blockFault a f) a (s.arm a).cmd (some false) := by
  have zone : s.sameZone (s.faulted a f) a := sameZone_of_withdraw (zone_faulted s a f)
  have test := State.releaseTest_tested (s.faulted a f) a false ((unasked_of_sameZone zone).trans unasked)
  rw [show ((s.faulted a f).arm a).cmd = (s.arm a).cmd by rw [arm_faulted_same]; rfl] at test
  exact tested_of_sameZone zone test

theorem arm_blockFault_other (unasked : s.unasked a = true) (f : FaultCode) :
    (s.blockFault a f).arm a.other = s.arm a.other := by
  have zone : s.sameZone (s.faulted a f) a := sameZone_of_withdraw (zone_faulted s a f)
  rw [blockFault_eq, State.arm_modArm_other, arm_releaseTest_other ((unasked_of_sameZone zone).trans unasked),
    arm_faulted_other]

/-- A block-level fault of an arm outside its box whose grant the other arm waits for (R73). -/
theorem blockFault_asked (asked : s.unasked a = false) (out : s.clears a (s.arm a).cmd) (f : FaultCode) :
    s.blockFault a f = ((s.faulted a f).zoneGrant a.other).modArm a fun r => { r with state := r.restState } := by
  have zone : s.sameZone (s.faulted a f) a := sameZone_of_withdraw (zone_faulted s a f)
  rw [blockFault_eq, releaseTest_asked ((unasked_of_sameZone zone).trans asked)]
  rw [clears_of_sameZone zone, arm_faulted_same]
  exact out

/-- A block-level fault of an arm inside its box (R77). -/
theorem blockFault_inside (inside : ¬ s.clears a (s.arm a).cmd) (f : FaultCode) :
    s.blockFault a f = (s.faulted a f).modArm a fun r => { r with state := r.restState } := by
  have zone : s.sameZone (s.faulted a f) a := sameZone_of_withdraw (zone_faulted s a f)
  rw [blockFault_eq, releaseTest_inside]
  rw [clears_of_sameZone zone, arm_faulted_same]
  exact inside

/-- After a block-level fault the arm waits for nothing (R76). -/
theorem waits_blockFault (s : State) (a : Arm) (f : FaultCode) : (s.blockFault a f).zone.waits.get a = .idle := by
  have before : (s.faulted a f).zone.waits.get a = .idle := by simp [State.zoneWithdraw]
  show ((s.faulted a f).releaseTest a false).zone.waits.get a = .idle
  rcases (s.faulted a f).releaseTest_cases a false with ⟨e, _⟩ | ⟨e, _⟩
  · rw [e, before]
  · rw [e]
    by_cases idle : (s.faulted a f).zone.waits.get a.other = .idle
    · rw [State.zoneRelease_idle idle]
      exact before
    · rw [State.zoneRelease_waiting idle]
      simp only [State.zoneGrant, State.modArm_zone, Duo.get_other_set]
      exact before

end

/-- Settles O26: the arm, the lane, the slot and the zone after a block-level fault, its release test by whether the grant is
asked for and where the arm stands. -/
theorem blockFaultEndsBlock : Obligations.BlockFaultEndsBlock := by
  intro s a b f exec opened wf window apart
  have fits : s.slotFits a b.slot := ⟨wf, window, apart⟩
  have base : ((s.blockFault a f).lanes.get a).slotBase b.slot.index = (s.lanes.get a).slotBase b.slot.index := by
    simp [blockFault_eq, LaneRec.slotBase]
  obtain ⟨header, third, -⟩ := slotSays_blockFault exec fits f
  rw [base] at header third
  refine ⟨?_, ?_, ?_, ?_, ?_, ?_, ?_, ?_, waits_blockFault s a f,
    fun unasked => ⟨arm_blockFault_other unasked f, tested_blockFault unasked f⟩, fun asked out => ?_, fun _ inside => ?_,
    header, third, congrArg Core.corr (core_blockFault ..), congrArg Core.therm (core_blockFault ..)⟩
  · rw [arm_blockFault_same]; rfl
  · rw [arm_blockFault_same]; rfl
  · rw [arm_blockFault_same]
    simp [State.pausedQueue, opened]
  · rw [arm_blockFault_same]; rfl
  · simp [blockFault_eq]
  · rw [arm_blockFault_same]; rfl
  · rw [arm_blockFault_same]; rfl
  · rw [arm_blockFault_same]; rfl
  · rw [blockFault_asked asked out]
    exact ⟨rfl, rfl, by simp [State.zoneGrant], by simp⟩
  · rw [blockFault_inside inside]
    exact ⟨by simp, by simp [State.zoneWithdraw]⟩

/-! ## The answer of a service request (R159, R160) -/

/-- The state field of a header. -/
theorem field_header (st kind tag : Nat) (low : st < 256) : field (natWord (st + kind * 256 + tag * 65536)) 0 8 = st := by
  rw [field_natWord]
  omega

/-- After the completion of a slot the cursor's slot is not POSTED where it was not before (R157, R159). -/
theorem not_posted_writeSlot {l : LaneRec} {m : Shm} (wf : m.wf = true) (waiting : l.posted m = false) (copy : SlotCopy)
    (fits : l.slotBase copy.index + 32 ≤ 65536) {c : Completion} (other : c.slotState ≠ slotPosted) (low : c.slotState < 256)
    (ws : Option (List Word)) (tick : Word) : l.posted (writeSlot m (l.slotBase copy.index) copy c ws tick) = false := by
  unfold LaneRec.posted at waiting ⊢
  by_cases same : l.cursor = copy.index
  · have header := get_writeSlot_header wf (l.slotBase copy.index) copy c ws tick 0 (by decide) (by omega)
    rw [same, ← Nat.add_zero (l.slotBase copy.index)]
    rw [Nat.add_zero] at header
    rw [Nat.add_zero, header]
    simpa [Completion.header, field_header _ _ _ low] using other
  · rw [get_writeSlot_outside wf]
    · exact waiting
    all_goals
      unfold LaneRec.slotBase
      omega

/-- Settles O27: what the completion of the engine's slot writes; the engine then looks at its cursor in vain. -/
theorem serviceAnswerCompletes : Obligations.ServiceAnswerCompletes := by
  intro s q ans executing wf fits waiting few
  let m := writeSlot s.shm (s.svcLane.slotBase q.slot.index) q.slot ans.completion (some ans.words) s.tickNo
  have idle : s.svcLane.posted m = false := by
    have state : ans.completion.slotState = slotDone ∨ ans.completion.slotState = slotFaulted := by
      cases ans
      · exact .inl rfl
      · exact .inr rfl
    refine not_posted_writeSlot wf waiting q.slot fits ?_ ?_ _ _ <;> rcases state with e | e <;> rw [e] <;> decide
  have answered : s.svcAnswer ans = { s with shm := m, svc := none }.setNotice .service := by
    unfold State.svcAnswer State.svcLook
    rw [executing]
    dsimp only
    rw [if_neg]
    rintro ⟨-, -, posted⟩
    exact absurd (idle.symm.trans posted) (by decide)
  have shm : (s.svcAnswer ans).shm = m := by rw [answered]; rfl
  have header (k : Nat) (low : k < 4) := get_writeSlot_header wf (s.svcLane.slotBase q.slot.index) q.slot ans.completion
    (some ans.words) s.tickNo k low (by omega)
  dsimp only
  rw [shm]
  refine ⟨answered, (header 0 (by decide)).trans ?_, (header 2 (by decide)).trans ?_, header 3 (by decide), fun k low => ?_,
    get_writeSlot_outside wf _ _ _ _ _⟩
  · cases ans <;> rfl
  · cases ans with
    | done ws =>
      show natWord (1 + 0 * 256 + 0) = _
      rw [Nat.zero_mul]
    | refused f =>
      show natWord (0 + f.code * 256 + 0) = _
      rw [Nat.zero_add, Nat.add_zero]
  · exact (get_writeSlot_result wf _ _ _ _ _ k low fits).trans (twelve_getD few low)

/-! ## RUN entered with the stop line low (R170, R172) -/

/-- The stop line at an arm between blocks: its lane pauses and it enters FAULT (R63). -/
theorem stopLineArm_idle {s : State} {a : Arm} (exec : (s.arm a).exec = none) (fault : (s.arm a).state ≠ .fault)
    (stopping : (s.arm a).state ≠ .stopping) : s.stopLineArm a = (s.pauseLane a).enterFault a .stopLine := by
  unfold State.stopLineArm
  rw [exec]
  cases state : (s.arm a).state
  case fault => exact absurd state fault
  case stopping => exact absurd state stopping
  all_goals rfl

/-- The arm after an entry into FAULT (R64, R130). -/
theorem arm_enterFault_same (s : State) (a : Arm) (f : FaultCode) : (s.enterFault a f).arm a = { s.arm a with
    lastFault := some f
    state := .fault
    probeLost := false
    mounted := if (s.arm a).probeLost then .none else (s.arm a).mounted } := by
  simp [State.enterFault]

@[simp] theorem lanes_enterFault (s : State) (a : Arm) (f : FaultCode) : (s.enterFault a f).lanes = s.lanes := by
  simp [State.enterFault]

/-- The entry into FAULT of an arm whose grant the other arm does not wait for leaves the other arm as it is. -/
theorem arm_enterFault_other {s : State} {a : Arm} (unasked : s.unasked a = true) (f : FaultCode) :
    (s.enterFault a f).arm a.other = s.arm a.other := by
  unfold State.enterFault
  rw [arm_applyProbeLost_other, arm_releaseTest_other (by exact unasked), arm_setNotice, State.arm_modArm_other]

/-- The notices after an entry into FAULT with no loss of a probe to act on. -/
theorem notices_enterFault {s : State} {a : Arm} (f : FaultCode) (kept : (s.arm a).probeLost = false) :
    (s.enterFault a f).unit.notices = s.unit.notices ||| (faultNotice a).one := by
  unfold State.enterFault
  rw [applyProbeLost_of_not (by simpa using kept), unit_releaseTest]
  rfl

/-- The pause of a lane with an empty queue sets no notice. -/
theorem unit_pauseLane_empty {s : State} {a : Arm} (queue : (s.arm a).queue = []) : (s.pauseLane a).unit = s.unit := by
  cases opened : (s.lanes.get a).paused
  · rw [pauseLane_open opened, queue]
    rfl
  · rw [pauseLane_paused opened]

/-- The notices after the stop line at an arm between blocks with an empty queue. -/
theorem notices_stopLineArm {s : State} {a : Arm} (exec : (s.arm a).exec = none) (fault : (s.arm a).state ≠ .fault)
    (stopping : (s.arm a).state ≠ .stopping) (queue : (s.arm a).queue = []) (kept : (s.arm a).probeLost = false) :
    (s.stopLineArm a).unit.notices = s.unit.notices ||| (faultNotice a).one := by
  rw [stopLineArm_idle exec fault stopping, notices_enterFault _ (by simpa using kept), unit_pauseLane_empty queue]

theorem unasked_of_unheld {s : State} {a : Arm} (unheld : s.zone.holder ≠ some a) : s.unasked a = true := by
  simp [State.unasked, State.holdsGrant, unheld]

/-- The other arm is not concerned by the stop line at an arm between blocks that does not hold the grant. -/
theorem arm_stopLineArm_idle_other {s : State} {a : Arm} (exec : (s.arm a).exec = none) (fault : (s.arm a).state ≠ .fault)
    (stopping : (s.arm a).state ≠ .stopping) (unasked : s.unasked a = true) :
    (s.stopLineArm a).arm a.other = s.arm a.other := by
  have unasked : (s.pauseLane a).unasked a = true :=
    (unasked_of_sameZone (sameZone_of_eq (zone_pauseLane s a))).trans unasked
  rw [stopLineArm_idle exec fault stopping, arm_enterFault_other unasked, arm_pauseLane_other]

/-- The arm between blocks after the stop line has acted on it (R63, R64). -/
theorem arm_stopLineArm_idle {s : State} {a : Arm} (exec : (s.arm a).exec = none) (fault : (s.arm a).state ≠ .fault)
    (stopping : (s.arm a).state ≠ .stopping) : (s.stopLineArm a).arm a = { s.arm a with
      queue := s.pausedQueue a
      lastFault := some .stopLine
      state := .fault
      probeLost := false
      mounted := if (s.arm a).probeLost then .none else (s.arm a).mounted } := by
  rw [stopLineArm_idle exec fault stopping, arm_enterFault_same]
  simp

/-- The stop line at an arm between blocks pauses its lane. -/
theorem lanes_stopLineArm_idle {s : State} {a : Arm} (exec : (s.arm a).exec = none) (fault : (s.arm a).state ≠ .fault)
    (stopping : (s.arm a).state ≠ .stopping) :
    (s.stopLineArm a).lanes = s.lanes.set a { s.lanes.get a with paused := true } := by
  rw [stopLineArm_idle exec fault stopping, lanes_enterFault, lanes_pauseLane]

theorem zone_enterFault_unheld {s : State} {a : Arm} (unheld : s.zone.holder ≠ some a) (f : FaultCode) :
    (s.enterFault a f).zone = s.zone := by
  have test (t : State) (h : t.zone = s.zone) : (t.releaseTest a false).zone = s.zone := by
    simp [State.releaseTest, State.holdsGrant, h, unheld]
  unfold State.enterFault
  dsimp only
  rw [zone_applyProbeLost]
  exact test _ rfl

/-- Settles O18: RUN is entered with both arms between blocks and nobody holding the grant, and the stop line then takes arm
A and arm B to FAULT. -/
theorem startUnderStopLineFaults : Obligations.StartUnderStopLineFaults := by
  intro s rd checking pass low
  let u := (s.entered rd).setNotice .stopLine
  have active : (s.entered rd).unit.stop = .active := by
    show s.stopFromLine = .active
    rw [State.stopFromLine, low]
    rfl
  have arms (a : Arm) : (u.arm a).exec = none ∧ (u.arm a).state ≠ .fault ∧ (u.arm a).state ≠ .stopping ∧
      (u.arm a).queue = [] ∧ (u.arm a).probeLost = false := by
    rw [arm_setNotice, entered_arm]
    refine ⟨rfl, ?_, ?_, rfl, rfl⟩ <;> cases level : (s.arm a).holdLevel <;> simp [ArmRec.started, level]
  obtain ⟨execA, faultA, stoppingA, queueA, keptA⟩ := arms .A
  obtain ⟨execB, faultB, stoppingB, queueB, keptB⟩ := arms .B
  let v := u.stopLineArm .A
  have other : v.arm .B = u.arm .B := 
    arm_stopLineArm_idle_other execA faultA stoppingA (unasked_of_unheld (by exact nofun))
  have zone : v.zone = u.zone := by
    rw [show v = _ from stopLineArm_idle execA faultA stoppingA, zone_enterFault_unheld, zone_pauseLane]
    rw [zone_pauseLane]
    exact nofun
  rw [← other] at execB faultB stoppingB queueB keptB
  have done : s.startPassed rd = v.stopLineArm .B := if_pos active
  have core : (v.stopLineArm .B).core = u.core := by rw [core_stopLineArm, core_stopLineArm]
  refine ⟨v.stopLineArm .B, by rw [exec_startPassed checking pass, done], congrArg Core.device core, ?_, ?_, ?_, ?_,
    fun a => ?_⟩
  · exact (congrArg Core.stop core).trans active
  · rw [lanes_stopLineArm_idle execB faultB stoppingB, lanes_stopLineArm_idle execA faultA stoppingA]
    rfl
  · rw [lanes_stopLineArm_idle execB faultB stoppingB]
    rfl
  · rw [notices_stopLineArm execB faultB stoppingB queueB keptB, notices_stopLineArm execA faultA stoppingA queueA keptA]
    rfl
  · cases a
    · have unasked : v.unasked .B = true := unasked_of_unheld (by rw [zone]; exact nofun)
      have kept : (v.stopLineArm .B).arm .A = v.arm .A := arm_stopLineArm_idle_other execB faultB stoppingB unasked
      rw [kept, show v.arm .A = _ from arm_stopLineArm_idle execA faultA stoppingA]
      exact ⟨rfl, rfl, execA⟩
    · rw [arm_stopLineArm_idle execB faultB stoppingB]
      exact ⟨rfl, rfl, execB⟩

end Sys2Proof.Machine
end


section
/-! PROOF. The service requests of the Thermal Unit, the Zone Arbiter, the Probe Manager and the lanes (O30 to O33). -/

namespace Sys2Proof.Machine

/-! ## A request in execution -/

theorem serving_iff {s : State} {k : SvcKind} {c : SlotCopy} :
    s.serving k c = true ↔ s.svc = some ⟨c, false⟩ ∧ c.svcKind = some k := by
  unfold State.serving State.svcNow
  rw [beq_iff_eq]
  cases request : s.svc with
  | none => simp
  | some q =>
    obtain ⟨slot, held⟩ := q
    dsimp only
    split
    · rename_i now
      obtain ⟨free, kind⟩ := now
      simp only [Option.some.injEq, SvcReq.mk.injEq, free, and_true]
      exact ⟨fun e => ⟨e, e ▸ kind⟩, fun e => e.1⟩
    · rename_i not
      refine iff_of_false nofun fun h => not ?_
      obtain ⟨e, kind⟩ := h
      injection e with e
      injection e with slot held
      exact ⟨held, slot ▸ kind⟩

theorem index?_of_eq {n k : Nat} (i : Fin n) (e : k = i.val) : index? n k = some i := by
  subst e
  simp [index?]

theorem index?_of_le {n k : Nat} (h : n ≤ k) : index? n k = none := by
  simp [index?, Nat.not_lt.2 h]

theorem index?_eq_some {n k : Nat} {i : Fin n} (h : index? n k = some i) : i.val = k := by
  unfold index? at h
  split at h
  · injection h with h
    rw [← h]
  · cases h

theorem arm?_code (a : Arm) : arm? a.code = some a := by cases a <;> rfl

theorem arm?_of_le {n : Nat} (h : 2 ≤ n) : arm? n = none := by
  obtain ⟨k, rfl⟩ := Nat.exists_eq_add_of_le' h
  rfl

/-! ## SET_SENSOR and SET_GROUP (R22, R35) -/

section
variable {s : State} {c : SlotCopy}

theorem exec_setSensor_of_serving (h : s.serving .setSensor c = true) : exec .setSensor s = .next (s.thermalRequest c) :=
  congrArg Host.Outcome.next (serveKind_of_serving h State.thermalRequest)

theorem exec_setGroup_of_serving (h : s.serving .setGroup c = true) : exec .setGroup s = .next (s.thermalRequest c) :=
  congrArg Host.Outcome.next (serveKind_of_serving h State.thermalRequest)

/-- A request of the Thermal Unit whose fields are in range, with no scan in progress (R22, R35). -/
theorem thermalRequest_applied (fields : Thermal.fieldsOk c = true) (scan : s.therm.scan = none) {t : Thermal}
    (applied : s.therm.apply c = some t) : s.thermalRequest c = { s with therm := t }.svcAnswer (.done []) := by
  simp [State.thermalRequest, State.thermalApply, fields, scan, applied]

/-- A request whose fields are in range is held by a scan in progress (R29). -/
theorem thermalRequest_held (fields : Thermal.fieldsOk c = true) (svc : s.svc = some ⟨c, false⟩) {l : List (Fin 32)}
    (scan : s.therm.scan = some l) : s.thermalRequest c = { s with svc := some ⟨c, true⟩ } := by
  simp [State.thermalRequest, fields, scan, svc]

theorem sensorRequest_on {i : Fin 32} (index : c.nat 4 = i.val) (on : c.nat 5 = 1) (settings : c.sensorSettingsOk = true) :
    Thermal.sensorRequest c = some (i, true) := by
  simp [Thermal.sensorRequest, index?_of_eq i index, SlotCopy.listed?, on, settings]

theorem sensorRequest_off {i : Fin 32} (index : c.nat 4 = i.val) (off : c.nat 5 = 0) :
    Thermal.sensorRequest c = some (i, false) := by
  simp [Thermal.sensorRequest, index?_of_eq i index, SlotCopy.listed?, off]

theorem groupFields_of {g : Fin 10} {ms : List (Fin 32)} (index : c.nat 4 = g.val) (members : c.groupMembers = some ms)
    (distinct : ms.Nodup) (low : 1 ≤ c.nat 10) (high : c.nat 10 ≤ 255) :
    Thermal.groupFields c = some (g, ms, c.nat 10) := by
  simp [Thermal.groupFields, index?_of_eq g index, members, distinct, low, high]

theorem noOtherGroup_iff {t : Thermal} {g : Fin 10} {ms : List (Fin 32)} :
    t.noOtherGroup g ms = true ↔ ∀ h : Fin 10, h ≠ g → ∀ m ∈ ms, m ∉ t.groups[h].members := by
  simp [Thermal.noOtherGroup, or_iff_not_imp_left]

/-- SET_SENSOR's application (R22, R23). -/
theorem apply_sensor (t : Thermal) {i : Fin 32} {on : Bool} (kind : c.svcKind = some .setSensor)
    (fields : Thermal.sensorRequest c = some (i, on)) :
    t.apply c = some { t with chans := t.chans.set i (t.chans[i].configured on c) } := by
  simp [Thermal.apply, kind, fields]

/-- SET_GROUP's application (R35). -/
theorem apply_group (t : Thermal) {g : Fin 10} {ms : List (Fin 32)} {limit : Nat} (kind : c.svcKind = some .setGroup)
    (fields : Thermal.groupFields c = some (g, ms, limit)) : t.apply c =
      if t.noOtherGroup g ms then some { t with groups := t.groups.set g (t.groups[g].configured ms limit) } else none := by
  simp [Thermal.apply, kind, fields]

theorem fieldsOk_sensor (kind : c.svcKind = some .setSensor) : Thermal.fieldsOk c = (Thermal.sensorRequest c).isSome := by
  simp [Thermal.fieldsOk, kind]

theorem fieldsOk_group (kind : c.svcKind = some .setGroup) : Thermal.fieldsOk c = (Thermal.groupFields c).isSome := by
  simp [Thermal.fieldsOk, kind]

end

/-- Settles O30: a request in range is applied where no scan is in progress and held where one is; the fields, and for a
SET_GROUP the other groups, decide the refusals. -/
theorem sensorAndGroupApplied : Obligations.SensorAndGroupApplied := by
  refine ⟨?on, ?off, ?group, ?outside, ?heldSensor, ?heldGroup⟩
  case on =>
    intro s c i serving index on settings scan
    have kind := (serving_iff.1 serving).2
    have request := sensorRequest_on index on settings
    rw [exec_setSensor_of_serving serving]
    refine congrArg Host.Outcome.next (thermalRequest_applied ?_ scan (apply_sensor _ kind request))
    rw [fieldsOk_sensor kind, request]
    rfl
  case off =>
    intro s c i serving index off scan
    have kind := (serving_iff.1 serving).2
    have request := sensorRequest_off index off
    rw [exec_setSensor_of_serving serving]
    refine congrArg Host.Outcome.next (thermalRequest_applied ?_ scan (apply_sensor _ kind request))
    rw [fieldsOk_sensor kind, request]
    rfl
  case group =>
    intro s c g ms serving index members distinct low high fresh scan
    have kind := (serving_iff.1 serving).2
    have request := groupFields_of index members distinct low high
    rw [exec_setGroup_of_serving serving]
    refine congrArg Host.Outcome.next (thermalRequest_applied ?_ scan ?_)
    · rw [fieldsOk_group kind, request]
      rfl
    · rw [apply_group _ kind request, if_pos (noOtherGroup_iff.2 fresh)]
      rfl
  case outside =>
    intro s c serving high
    have kind := (serving_iff.1 serving).2
    have bad : Thermal.fieldsOk c = false := by
      rw [fieldsOk_sensor kind, Thermal.sensorRequest, index?_of_le high]
      rfl
    rw [exec_setSensor_of_serving serving]
    simp [State.thermalRequest, bad]
  case heldSensor =>
    intro s c i l serving index off scan
    obtain ⟨svc, kind⟩ := serving_iff.1 serving
    rw [exec_setSensor_of_serving serving]
    refine congrArg Host.Outcome.next (thermalRequest_held ?_ svc scan)
    rw [fieldsOk_sensor kind, sensorRequest_off index off]
    rfl
  case heldGroup =>
    intro s c g ms serving index members distinct low high
    obtain ⟨svc, kind⟩ := serving_iff.1 serving
    have request := groupFields_of index members distinct low high
    have fields : Thermal.fieldsOk c = true := by
      rw [fieldsOk_group kind, request]
      rfl
    rw [exec_setGroup_of_serving serving]
    refine ⟨fun l scan => congrArg Host.Outcome.next (thermalRequest_held fields svc scan), fun scan shared => ?_⟩
    have refused : s.therm.apply c = none := by
      rw [apply_group _ kind request, if_neg]
      rw [noOtherGroup_iff]
      obtain ⟨h, ne, m, mem, inside⟩ := shared
      exact fun fresh => fresh h ne m mem inside
    simp [State.thermalRequest, State.thermalApply, fields, scan, refused]

/-! ## SET_ZONE (R69, R76, R79) -/

theorem fits_iff (b : Box) (ax : Tri AxisSet) : b.fits ax = true ↔ b.xlo ≤ b.xhi ∧ b.ylo ≤ b.yhi ∧ ax.x.lo < b.xlo ∧
    b.xhi < ax.x.hi ∧ ax.y.lo < b.ylo ∧ b.yhi < ax.y.hi := by
  simp [Box.fits, and_assoc]

theorem inside_iff (b : Box) (v : Vec) : b.inside v = true ↔ b.xlo ≤ v.x ∧ v.x ≤ b.xhi ∧ b.ylo ≤ v.y ∧ v.y ≤ b.yhi := by
  simp [Box.inside, and_assoc]

theorem zoneQuiet_iff (s : State) (a : Arm) (b : Box) : s.zoneQuiet a b = true ↔ s.zone.holder = none ∧
    s.zone.waits = ⟨.idle, .idle⟩ ∧ (s.arm a).exec = none ∧
      ((s.arm a).referenced = false ∨ ¬ b.inside (s.arm a).cmd = true) := by
  simp [State.zoneQuiet, and_assoc]

theorem zoneRequested_of {s : State} {c : SlotCopy} {a : Arm} (code : c.nat 4 = a.code) :
    s.zoneRequested c = if (c.box 5).fits (s.armSet a).axes then some (a, c.box 5) else none := by
  simp [State.zoneRequested, code, arm?_code]

/-- Settles O31: the range of the box decides between BAD_FIELD and the quiet checks, and these between ZONE_BUSY and the
replacement. -/
theorem setZoneReplacesBox : Obligations.SetZoneReplacesBox := by
  intro s c serving
  have run : exec .setZone s = .next (s.setZone c) :=
    congrArg Host.Outcome.next (serveKind_of_serving serving State.setZone)
  refine ⟨fun high => ?_, fun a code => ?_⟩
  · rw [run]
    simp [State.setZone, State.zoneRequested, arm?_of_le high]
  have request := zoneRequested_of (s := s) code
  refine ⟨fun fields quiet => ?_, fun fields busy => ?_, fun bad => ?_⟩
  · rw [if_pos ((fits_iff (c.box 5) _).2 fields)] at request
    have quiet : s.zoneQuiet a (c.box 5) = true := by
      rw [zoneQuiet_iff, inside_iff]
      exact quiet
    rw [run]
    simp [State.setZone, request, quiet]
    rfl
  · rw [if_pos ((fits_iff (c.box 5) _).2 fields)] at request
    have busy : s.zoneQuiet a (c.box 5) = false := by
      rw [Bool.eq_false_iff, ne_eq, zoneQuiet_iff, inside_iff]
      exact busy
    rw [run]
    simp [State.setZone, request, busy]
  · rw [if_neg fun fields => bad ((fits_iff (c.box 5) _).1 fields)] at request
    rw [run]
    simp [State.setZone, request]

/-! ## SET_PROBE (R123, R124) -/

theorem rackOf_iff (p : Fin 12) (a : Arm) : rackOf p = a ↔ p.val / 6 = a.code := by
  have low := p.isLt
  unfold rackOf
  cases a <;> split <;> simp [Arm.code] <;> omega

theorem arm?_eq_some {n : Nat} {a : Arm} (h : arm? n = some a) : n = a.code := by
  unfold arm? at h
  split at h
  · injection h with h
    rw [← h]
    rfl
  · injection h with h
    rw [← h]
    rfl
  · cases h

/-- The fields of a SET_PROBE that passes check 1 of R123, and the record that it asks for. -/
structure State.ProbeRead (s : State) (c : SlotCopy) (q : ProbeRequest) : Prop where
  index : q.index.val = c.nat 4
  kind : probeKind? (field (c.word 6) 0 8) = some q.record.kind
  arm : arm? (field (c.word 6) 8 8) = some q.record.arm
  place : requestedPlace q.record.arm (field (c.word 6) 16 8) (field (c.word 6) 24 8) (c.nat 15) =
    some (q.record.loc, q.record.lastPort)
  known : c.nat 5 ≠ 0
  fresh : ∀ j, j ≠ q.index → s.tables.probes[j].serial ≠ c.nat 5
  fields : c.probeFieldsOk = true
  flag : c.nat 14 ≤ 1
  serial : q.record.serial = c.nat 5
  tip : q.record.tip = c.vec 7
  radius : q.record.radius = c.int 10
  alpha : q.record.alpha = c.int 11
  driftLimit : q.record.driftLimit = c.int 12
  tq : q.record.tq = if c.nat 14 = 0 then 2560 else c.int 13
  qual : q.record.qual = if c.nat 14 = 0 then .new else .qualified

theorem probeRead_of_request {s : State} {c : SlotCopy} {q : ProbeRequest} (h : s.probeRequest c = some q) :
    s.ProbeRead c q := by
  unfold State.probeRequest at h
  split at h
  · rename_i i k a index kind arm
    split at h
    · rename_i loc last place
      dsimp only at h
      split at h
      · rename_i ok
        obtain ⟨known, fresh, fields, flag⟩ := ok
        injection h with h
        subst h
        exact {
          index := index?_eq_some index, kind := kind, arm := arm, place := place, known := known, fields := fields
          flag := flag, serial := rfl, tip := rfl, radius := rfl, alpha := rfl, driftLimit := rfl, tq := rfl, qual := rfl
          fresh := by simpa [or_iff_not_imp_left] using fresh }
      · cases h
    · cases h
  · cases h

/-- The place and the last port that a SET_PROBE asks for (R123). -/
theorem requestedPlace_eq_some {a : Arm} {code port last : Nat} {loc : Location} {lastPort : Option (Fin 12)}
    (h : requestedPlace a code port last = some (loc, lastPort)) :
    (code = 1 ∧ ∃ p : Fin 12, p.val = port ∧ rackOf p = a ∧ loc = .inPort p ∧ lastPort = some p) ∨
      ((code = 0 ∧ loc = .absent ∨ code = 3 ∧ loc = .unknown) ∧
        (last = 255 ∧ lastPort = none ∨ ∃ p : Fin 12, p.val = last ∧ rackOf p = a ∧ lastPort = some p)) := by
  unfold requestedPlace at h
  split at h
  · rename_i one
    split at h
    · rename_i p index
      split at h
      · rename_i rack
        injection h with h
        injection h with e1 e2
        exact .inl ⟨one, p, index?_eq_some index, rack, e1.symm, e2.symm⟩
      · cases h
    · cases h
  · split at h
    · rename_i other
      have standing (l : Location) (e : (if code = 0 then Location.absent else .unknown) = l) :
          code = 0 ∧ l = .absent ∨ code = 3 ∧ l = .unknown := by
        rcases other with zero | three
        · exact .inl ⟨zero, by rw [← e, if_pos zero]⟩
        · exact .inr ⟨three, by rw [← e, if_neg (by omega)]⟩
      unfold lastPort? at h
      split at h
      · rename_i e
        injection h with h
        injection h with e1 e2
        refine .inr ⟨standing loc e1, .inl ⟨?_, e2.symm⟩⟩
        by_contra ne
        rw [if_neg ne] at e
        cases index : index? 12 last <;> simp [index] at e
      · rename_i p e
        split at h
        · rename_i rack
          injection h with h
          injection h with e1 e2
          refine .inr ⟨standing loc e1, .inr ⟨p, ?_, rack, e2.symm⟩⟩
          split at e
          · injection e with e
            cases e
          · cases index : index? 12 last with
            | none => simp [index] at e
            | some i =>
              rw [index] at e
              injection e with e
              injection e with e
              rw [← e]
              exact index?_eq_some index
        · cases h
      · cases h
    · cases h

theorem probeFieldsOk_iff (c : SlotCopy) : c.probeFieldsOk = true ↔ (c.int 7).natAbs ≤ 16777216 ∧
    (c.int 8).natAbs ≤ 16777216 ∧ (c.int 9).natAbs ≤ 16777216 ∧ c.nat 10 ≤ 16777216 ∧
      (-131072 ≤ c.int 11 ∧ c.int 11 ≤ 131071) ∧ 1 ≤ c.nat 12 ∧ c.nat 12 ≤ 10240 ∧ -2560 ≤ c.int 13 ∧ c.int 13 ≤ 7680 := by
  simp only [SlotCopy.probeFieldsOk, Bool.and_eq_true, decide_eq_true_iff, coeffOk_iff, and_assoc]

theorem changeOf_eq_some {s : State} {a : Arm} {g : ChangeProg} : s.changeOf a = some g ↔
    ∃ b, (s.arm a).exec = some b ∧ b.passed = true ∧ b.slot.kind = some .changeProbe ∧ b.change = g := by
  unfold State.changeOf
  cases exec : (s.arm a).exec with
  | none => simp
  | some b => simp [and_assoc]

theorem exists_arm {p : Arm → Prop} : (∃ a, p a) ↔ p .A ∨ p .B :=
  ⟨fun ⟨a, h⟩ => by cases a; exacts [.inl h, .inr h], fun h => h.elim (fun h => ⟨_, h⟩) fun h => ⟨_, h⟩⟩

theorem probeInUse_iff (s : State) (i : Fin 24) : s.probeInUse i = true ↔
    ∃ o g, s.changeOf o = some g ∧ (g.target = some i ∨ g.stowed = some i) := by
  simp [State.probeInUse, Option.any_eq_true, exists_arm]

theorem portInUse_iff (s : State) (p : Fin 12) : s.portInUse p = true ↔
    ∃ o g, s.changeOf o = some g ∧ (g.fetchPort = some p ∨ g.stowPort = some p) := by
  simp [State.portInUse, Option.any_eq_true, exists_arm]

/-- Check 2 of R123: the probe is mounted, or a change in progress uses it or the port. -/
def State.probeUsed (s : State) (q : ProbeRequest) : Prop :=
  (∃ o, s.tables.probes[q.index].loc = .mounted o) ∨ s.probeInUse q.index = true ∨
    ∃ p, q.record.lastPort = some p ∧ s.portInUse p = true

/-- Check 3 of R123: the port of an IN_PORT record is EMPTY or holds this record. -/
def State.probeFits (s : State) (q : ProbeRequest) : Prop :=
  ∀ p : Fin 12, q.record.loc = .inPort p → s.tables.ports[p].state = .empty ∨ s.tables.ports[p].state = .occupied q.index

/-- A probe is in use as the statement says it: by its place or by a change, as a probe or by its port. -/
theorem probeUsed_iff (s : State) (q : ProbeRequest) : s.probeUsed q ↔
    (∃ o, s.tables.probes[q.index].loc = .mounted o) ∨ ∃ (o : Arm) (b : Block), (s.arm o).exec = some b ∧
      b.passed = true ∧ b.slot.kind = some .changeProbe ∧ (b.change.target = some q.index ∨ b.change.stowed = some q.index ∨
        ∃ p, q.record.lastPort = some p ∧ (b.change.fetchPort = some p ∨ b.change.stowPort = some p)) := by
  unfold State.probeUsed
  simp only [probeInUse_iff, portInUse_iff, changeOf_eq_some]
  refine or_congr_right ⟨?_, ?_⟩
  · rintro (⟨o, _, ⟨b, exec, passed, kind, rfl⟩, used⟩ | ⟨p, last, o, _, ⟨b, exec, passed, kind, rfl⟩, used⟩)
    · exact ⟨o, b, exec, passed, kind, used.elim .inl fun h => .inr (.inl h)⟩
    · exact ⟨o, b, exec, passed, kind, .inr (.inr ⟨p, last, used⟩)⟩
  · rintro ⟨o, b, exec, passed, kind, used | used | ⟨p, last, used⟩⟩
    · exact .inl ⟨o, _, ⟨b, exec, passed, kind, rfl⟩, .inl used⟩
    · exact .inl ⟨o, _, ⟨b, exec, passed, kind, rfl⟩, .inr used⟩
    · exact .inr ⟨p, last, o, _, ⟨b, exec, passed, kind, rfl⟩, used⟩

/-- Check 2 of R123 fails. -/
theorem probeRefusal_used {s : State} {q : ProbeRequest} (used : s.probeUsed q) : s.probeRefusal q = some .probeInUse := by
  unfold State.probeRefusal
  dsimp only
  rw [if_pos]
  rcases used with ⟨o, mounted⟩ | used | ⟨p, last, used⟩
  · simp only [mounted, Bool.true_or]
  · simp [used]
  · simp [last, used]

/-- Check 2 of R123 passes, and check 3 decides. -/
theorem probeRefusal_free {s : State} {q : ProbeRequest} (free : ¬ s.probeUsed q) :
    (s.probeFits q → s.probeRefusal q = none) ∧ (¬ s.probeFits q → s.probeRefusal q = some .portState) := by
  unfold State.probeUsed at free
  push Not at free
  obtain ⟨unmounted, unused, port⟩ := free
  have unused : s.probeInUse q.index = false := by simpa using unused
  have ports : q.record.lastPort.any s.portInUse = false := by
    cases last : q.record.lastPort with
    | none => rfl
    | some p => simpa using port p last
  have standing : s.probeRefusal q = (match q.record.loc with
      | .inPort p =>
        if s.tables.ports[p].state = .empty ∨ s.tables.ports[p].state = .occupied q.index then none else some .portState
      | _ => none) := by
    unfold State.probeRefusal
    cases loc : s.tables.probes[q.index].loc with
    | mounted o => exact absurd loc (unmounted o)
    | _ =>
      simp only [unused, ports]
      rfl
  rw [standing]
  unfold State.probeFits
  cases loc : q.record.loc with
  | inPort p =>
    refine ⟨fun fits => if_pos (fits p rfl), fun other => if_neg fun fits => other ?_⟩
    intro p' e
    injection e with e
    exact e ▸ fits
  | _ => exact ⟨fun _ => rfl, fun other => absurd (fun p e => by cases e) other⟩

/-- SET_PROBE writes its record alone among the records (R124). -/
theorem probes_applyProbe (t : Tables) (q : ProbeRequest) : (t.applyProbe q).probes = t.probes.set q.index q.record := by
  unfold Tables.applyProbe
  dsimp only
  repeat' split
  all_goals rfl

theorem getElem_setPortState (t : Tables) (p r : Fin 12) (st : PortState) : (t.setPortState p st).ports[r] =
    { t.ports[r] with state := if r = p then st else t.ports[r].state } := by
  rcases eq_or_ne r p with rfl | ne
  · simp [Tables.setPortState]
  · have apart : p.val ≠ r.val := fun e => ne (Fin.ext e.symm)
    simp [Tables.setPortState, apart, ne]

/-- The ports after the old place of a record has been given up (R124). -/
def Tables.vacated (t : Tables) (q : ProbeRequest) : Tables :=
  match t.probes[q.index].loc with
  | .inPort old => if q.record.loc = Location.inPort old then t else t.setPortState old .empty
  | _ => t

theorem ports_vacated {t : Tables} {q : ProbeRequest} {p : Fin 12} (apart : q.record.loc ≠ .inPort p) :
    (t.vacated q).ports[p] = { t.ports[p] with
      state := if t.probes[q.index].loc = .inPort p then .empty else t.ports[p].state } := by
  unfold Tables.vacated
  cases old : t.probes[q.index].loc with
  | inPort o =>
    dsimp only
    split
    · rename_i same
      rw [if_neg fun e => apart (same.trans e)]
    · rw [getElem_setPortState]
      simp [eq_comm]
  | _ => simp

/-- Giving up the old place touches port states alone. -/
theorem vacated_settings (t : Tables) (q : ProbeRequest) (p : Fin 12) (st : PortState) :
    { (t.vacated q).ports[p] with state := st } = ({ t.ports[p] with state := st } : Port) := by
  unfold Tables.vacated
  split
  · split
    · rfl
    · rw [getElem_setPortState]
  · rfl

/-- What SET_PROBE leaves of a port: the port of an IN_PORT location is OCCUPIED, the old one EMPTY (R124). -/
theorem ports_applyProbe (t : Tables) (q : ProbeRequest) (p : Fin 12) : (t.applyProbe q).ports[p] = { t.ports[p] with
    state :=
      if q.record.loc = .inPort p then .occupied q.index
      else if t.probes[q.index].loc = .inPort p then .empty
      else t.ports[p].state } := by
  have form : (t.applyProbe q).ports = (match q.record.loc with
      | .inPort p => (t.vacated q).setPortState p (.occupied q.index)
      | _ => t.vacated q).ports := rfl
  rw [form]
  cases new : q.record.loc with
  | inPort n =>
    dsimp only
    rw [getElem_setPortState]
    rcases eq_or_ne n p with rfl | ne
    · simp only [if_pos]
      exact vacated_settings t q n _
    · have apart : q.record.loc ≠ .inPort p := by simp [new, ne]
      rw [ports_vacated apart]
      simp [ne, ne.symm]
  | _ =>
    dsimp only
    rw [ports_vacated (by simp [new])]
    simp

/-! ## SET_PORT (R127) -/

/-- The fields of a SET_PORT that passes check 1 of R127. -/
structure PortRead (c : SlotCopy) (q : PortRequest) : Prop where
  index : q.index.val = c.nat 4
  state : portRequestState? (c.nat 5) = some q.state
  unit : q.record.coverUnit.val = c.nat 12
  axis : axis? (c.nat 13) = some q.record.coverAxis
  dir : dir? (c.nat 15) = some q.record.coverDir
  approach : q.record.approach = c.vec 6
  dock : q.record.dock = c.vec 9
  value : q.record.coverValue = c.int 14
  approachOk : (c.vec 6).coordOk = true
  dockOk : (c.vec 9).coordOk = true
  valueOk : (c.int 14).natAbs ≤ 536870912

theorem portRead_of_request {c : SlotCopy} {q : PortRequest} (h : portRequest c = some q) : PortRead c q := by
  unfold portRequest at h
  split at h
  · rename_i p st u x d index state unit axis dir
    split at h
    · rename_i ok
      obtain ⟨approach, dock, value⟩ := ok
      injection h with h
      subst h
      exact {
        index := index?_eq_some index, state := state, unit := index?_eq_some unit, axis := axis, dir := dir
        approach := rfl, dock := rfl, value := rfl, approachOk := approach, dockOk := dock, valueOk := value }
    · cases h
  · cases h

theorem coordOk_iff (v : Vec) : v.coordOk = true ↔
    v.x.natAbs ≤ 536870912 ∧ v.y.natAbs ≤ 536870912 ∧ v.z.natAbs ≤ 536870912 := by
  simp [Tri.coordOk, and_assoc]

theorem axis?_eq_some {n : Nat} {x : Axis} (h : axis? n = some x) : n = x.code := by
  unfold axis? at h
  split at h
  case h_4 => cases h
  all_goals
    injection h with h
    rw [← h]
    rfl

theorem dir?_eq_some {n : Nat} {d : Dir} (h : dir? n = some d) : n < 2 ∧ (d = .up ↔ n = 0) := by
  unfold dir? at h
  split at h
  · injection h with h
    simp [← h]
  · injection h with h
    simp [← h]
  · cases h

theorem portRequestState?_eq_some {n : Nat} {st : Option PortState} (h : portRequestState? n = some st) :
    n < 4 ∧ st = if n = 0 then none else some (if n = 1 then .disabled else if n = 2 then .empty else .unknown) := by
  unfold portRequestState? at h
  split at h
  case h_5 => cases h
  all_goals
    injection h with h
    simp [← h]

/-- The port of a SET_PORT takes its settings, and its state where one is asked for; the other ports are as before (R127). -/
theorem ports_applyPort (t : Tables) (q : PortRequest) : (t.applyPort q).ports =
    t.ports.set q.index { q.record with state := q.state.getD t.ports[q.index].state } := by
  unfold Tables.applyPort
  dsimp only
  split <;> rfl

/-- A record that stood in a port whose state is replaced becomes UNKNOWN (R127). -/
theorem probes_applyPort_occupied {t : Tables} {q : PortRequest} {st : PortState} {m : Fin 24} (asked : q.state = some st)
    (stood : t.ports[q.index].state = .occupied m) :
    (t.applyPort q).probes = t.probes.set m { t.probes[m] with loc := .unknown } := by
  unfold Tables.applyPort
  simp only [asked, stood]
  rfl

theorem probes_applyPort_keep {t : Tables} {q : PortRequest} (keep : q.state = none) : (t.applyPort q).probes = t.probes := by
  unfold Tables.applyPort
  simp only [keep]

theorem probes_applyPort_free {t : Tables} {q : PortRequest} (free : ∀ m, t.ports[q.index].state ≠ .occupied m) :
    (t.applyPort q).probes = t.probes := by
  unfold Tables.applyPort
  dsimp only
  split
  · rename_i stood
    exact absurd stood (free _)
  · rfl

/-! ## The three requests of the Probe Manager -/

theorem probeKind?_eq_some {n : Nat} {k : ProbeKind} (h : probeKind? n = some k) :
    (n = 1 ∨ n = 2) ∧ k = if n = 1 then .touch else .scanningTouch := by
  unfold probeKind? at h
  split at h
  case h_3 => cases h
  all_goals
    injection h with h
    simp [← h]

theorem code_low (a : Arm) : a.code < 2 := by cases a <;> decide

section
variable {s : State} {c : SlotCopy}

theorem exec_setProbe_of_serving (h : s.serving .setProbe c = true) : exec .setProbe s = .next (s.setProbe c) :=
  congrArg Host.Outcome.next (serveKind_of_serving h State.setProbe)

theorem exec_setPort_of_serving (h : s.serving .setPort c = true) : exec .setPort s = .next (s.setPort c) :=
  congrArg Host.Outcome.next (serveKind_of_serving h State.setPort)

theorem exec_readProbe_of_serving (h : s.serving .readProbe c = true) : exec .readProbe s = .next (s.readProbe c) :=
  congrArg Host.Outcome.next (serveKind_of_serving h State.readProbe)

theorem setProbe_refused (none : s.probeRequest c = none) : s.setProbe c = s.svcAnswer (.refused .badField) := by
  simp [State.setProbe, none]

theorem setPort_refused (none : portRequest c = none) : s.setPort c = s.svcAnswer (.refused .badField) := by
  simp [State.setPort, none]

/-- A port number on the rack of the record's arm, as a SET_PROBE gives it. -/
theorem onRack_of {n : Nat} {p : Fin 12} {a : Arm} (index : p.val = n) (rack : rackOf p = a) : n < 12 ∧ n / 6 = a.code := by
  subst index
  exact ⟨p.isLt, (rackOf_iff p a).1 rack⟩

/-- A SET_PROBE with a field outside its table or range is refused (R123). -/
theorem probeRequest_eq_none (bad : ∀ q, s.ProbeRead c q → False) : s.probeRequest c = none := by
  cases h : s.probeRequest c with
  | none => rfl
  | some q => exact (bad q (probeRead_of_request h)).elim

/-- A SET_PORT with a field outside its range is refused (R127). -/
theorem portRequest_eq_none (bad : ∀ q, PortRead c q → False) : portRequest c = none := by
  cases h : portRequest c with
  | none => rfl
  | some q => exact (bad q (portRead_of_request h)).elim

end

/-- Settles O32: the fields decide between BAD_FIELD and a record; its use and its port decide between the refusals and the
tables. -/
theorem probeAndPortRequests : Obligations.ProbeAndPortRequests := by
  refine ⟨fun s c serving => ⟨fun bad => ?badProbe, fun none => ?noProbe, fun q request => ?probe⟩,
    fun s c serving => ⟨fun bad => ?badPort, fun none => ?noPort, fun q request => ?port⟩, fun s c i serving index => ?read,
    fun s c serving high => ?noRecord⟩
  case badProbe =>
    rw [exec_setProbe_of_serving serving, setProbe_refused (probeRequest_eq_none fun q r => ?_)]
    have index := q.index.isLt
    rw [r.index] at index
    have kind := (probeKind?_eq_some r.kind).1
    have arm := arm?_eq_some r.arm
    have low := code_low q.record.arm
    obtain ⟨x, y, z, radius, ⟨alphaLow, alphaHigh⟩, driftLow, driftHigh, tqLow, tqHigh⟩ := (probeFieldsOk_iff c).1 r.fields
    have flag := r.flag
    have place := requestedPlace_eq_some r.place
    rw [← arm] at low
    rcases bad with h | h | ⟨j, ne, same⟩ | h | h | h | ⟨one, off⟩ | ⟨other, some, off⟩ | h | h | h | h | h | h | h | h | h | h
    case inr.inl => exact r.known h
    case inr.inr.inl => exact r.fresh j (fun e => ne (e ▸ r.index)) same
    case inr.inr.inr.inr.inr.inl =>
      rcases place with ⟨one, -⟩ | ⟨⟨zero, -⟩ | ⟨three, -⟩, -⟩ <;> omega
    case inr.inr.inr.inr.inr.inr.inl =>
      rcases place with ⟨-, p, port, rack, -⟩ | ⟨⟨zero, -⟩ | ⟨three, -⟩, -⟩
      · exact off (arm ▸ onRack_of port rack)
      · omega
      · omega
    case inr.inr.inr.inr.inr.inr.inr.inl =>
      rcases place with ⟨one, -⟩ | ⟨-, ⟨none, -⟩ | ⟨p, port, rack, -⟩⟩
      · exact other one
      · exact some none
      · exact off (arm ▸ onRack_of port rack)
    all_goals
      clear place
      omega
  case noProbe => rw [exec_setProbe_of_serving serving, setProbe_refused none]
  case probe =>
    have r := probeRead_of_request request
    have arm := arm?_eq_some r.arm
    have place := requestedPlace_eq_some r.place
    have run := exec_setProbe_of_serving serving
    simp only [State.setProbe, request] at run
    dsimp only
    rw [← probeUsed_iff]
    refine ⟨⟨r.index, r.serial, r.tip, r.radius, r.alpha, r.driftLimit, fun new => ?_, fun given => ?_,
      (probeKind?_eq_some r.kind).2, ?_, fun zero => ?_, fun one => ?_, fun three => ?_, fun other none => ?_,
      fun p other some => ?_, fun p there => ?_⟩, fun used => ?_, fun free away => ?_, fun free fits => ?_,
      probes_applyProbe _ q, ports_applyProbe _ q⟩
    · rw [r.qual, r.tq, if_pos new, if_pos new]
      exact ⟨rfl, rfl⟩
    · rw [r.qual, r.tq, if_neg (by omega), if_neg (by omega)]
      exact ⟨rfl, rfl⟩
    · rw [arm]
      cases q.record.arm <;> rfl
    · rcases place with ⟨one, -⟩ | ⟨⟨-, loc⟩ | ⟨three, -⟩, -⟩
      · omega
      · exact loc
      · omega
    · rcases place with ⟨-, p, port, -, loc, last⟩ | ⟨⟨zero, -⟩ | ⟨three, -⟩, -⟩
      · exact ⟨p, port, loc, last⟩
      · omega
      · omega
    · rcases place with ⟨one, -⟩ | ⟨⟨zero, -⟩ | ⟨-, loc⟩, -⟩
      · omega
      · omega
      · exact loc
    · rcases place with ⟨one, -⟩ | ⟨-, ⟨-, last⟩ | ⟨p, port, -⟩⟩
      · exact absurd one other
      · exact last
      · have := p.isLt
        omega
    · rcases place with ⟨one, -⟩ | ⟨-, ⟨none, -⟩ | ⟨p', port, -, last⟩⟩
      · exact absurd one other
      · have := p.isLt
        omega
      · rw [last, show p' = p from Fin.ext (port.trans some)]
    · rcases place with ⟨-, p', -, -, loc, last⟩ | ⟨⟨-, loc⟩ | ⟨-, loc⟩, -⟩
      · rw [loc] at there
        injection there with e
        rw [last, e]
      · rw [loc] at there
        cases there
      · rw [loc] at there
        cases there
    · rw [probeRefusal_used used] at run
      exact run
    · rw [(probeRefusal_free free).2 away] at run
      exact run
    · rw [(probeRefusal_free free).1 fits] at run
      exact run
  case badPort =>
    rw [exec_setPort_of_serving serving, setPort_refused (portRequest_eq_none fun q r => ?_)]
    have index := q.index.isLt
    rw [r.index] at index
    have unit := q.record.coverUnit.isLt
    rw [r.unit] at unit
    have state := (portRequestState?_eq_some r.state).1
    have axis := axis?_eq_some r.axis
    have axisLow : q.record.coverAxis.code < 3 := by cases q.record.coverAxis <;> decide
    have dir := (dir?_eq_some r.dir).1
    have value := r.valueOk
    rcases bad with h | h | ⟨k, low, high⟩ | h | h | h | h
    case inr.inr.inl =>
      obtain ⟨x, y, z⟩ := (coordOk_iff _).1 r.approachOk
      obtain ⟨x', y', z'⟩ := (coordOk_iff _).1 r.dockOk
      simp only [SlotCopy.vec, Nat.reduceAdd] at x y z x' y' z'
      interval_cases k <;> simp only [Nat.reduceAdd] at high <;> omega
    all_goals omega
  case noPort => rw [exec_setPort_of_serving serving, setPort_refused none]
  case port =>
    have r := portRead_of_request request
    have state := (portRequestState?_eq_some r.state).2
    have run := exec_setPort_of_serving serving
    simp only [State.setPort, request] at run
    have own : (s.tables.applyPort q).ports[q.index] =
        { q.record with state := q.state.getD s.tables.ports[q.index].state } := by
      simp [ports_applyPort]
    have used : (s.portInUse q.index = true) ↔ ∃ (o : Arm) (b : Block), (s.arm o).exec = some b ∧ b.passed = true ∧
        b.slot.kind = some .changeProbe ∧ (b.change.fetchPort = some q.index ∨ b.change.stowPort = some q.index) := by
      simp only [portInUse_iff, changeOf_eq_some]
      constructor
      · rintro ⟨o, _, ⟨b, exec, passed, kind, rfl⟩, port⟩
        exact ⟨o, b, exec, passed, kind, port⟩
      · rintro ⟨o, b, exec, passed, kind, port⟩
        exact ⟨o, _, ⟨b, exec, passed, kind, rfl⟩, port⟩
    dsimp only
    rw [← used, own]
    refine ⟨r.index, fun used => ?_, fun free => ?_, ⟨r.approach, r.dock, r.unit, (axis?_eq_some r.axis).symm, r.value,
      (dir?_eq_some r.dir).2⟩, fun keep => ?_, fun one => ?_, fun two => ?_, fun three => ?_, fun m asked stood => ?_,
      fun free => probes_applyPort_free free, fun p apart => ?_⟩
    · rw [if_pos used] at run
      exact run
    · rw [if_neg free] at run
      exact run
    · rw [if_pos keep] at state
      exact ⟨by rw [state]; rfl, probes_applyPort_keep state⟩
    · simp [state, one]
    · simp [state, two]
    · simp [state, three]
    · rw [if_neg asked] at state
      exact probes_applyPort_occupied state stood
    · have ne : q.index.val ≠ p.val := fun e => apart (Fin.ext e.symm)
      simp [ports_applyPort, ne]
  case read =>
    rw [exec_readProbe_of_serving serving]
    simp only [State.readProbe, index?_of_eq i index]
    refine congrArg (fun ws => Host.Outcome.next (s.svcAnswer (.done ws))) ?_
    generalize s.tables.probes[i] = p
    have place (k : Nat) (a : Nat) (l : Nat) (e : p.kind.code = k) (f : p.arm.code * 256 = a)
        (g : p.loc.code * 65536 + p.loc.place * 16777216 = l) :
        p.kind.code + p.arm.code * 256 + p.loc.code * 65536 + p.loc.place * 16777216 = k + a + l := by omega
    refine congrArg₂ List.cons rfl (congrArg₂ List.cons (congrArg natWord (place _ _ _ ?_ ?_ ?_)) ?_)
    · cases p.kind <;> rfl
    · cases p.arm <;> rfl
    · rcases p.loc with _ | port | (_ | _) | _ <;> simp [Location.code, Location.place, Arm.code]
    · have qual : p.qual.code = match p.qual with
          | .new => 0
          | .qualified => 1
          | .drifted => 2 := by cases p.qual <;> rfl
      simp only [vecWords, qual]
      cases p.lastPort <;> rfl
  case noRecord =>
    rw [exec_readProbe_of_serving serving]
    simp only [State.readProbe, index?_of_le high]

/-! ## CLEAR_FAULT and REOPEN_LANE (R67, R161) -/

section
variable {s : State} {c : SlotCopy} {a : Arm}

theorem arms_svcLook (s : State) : s.svcLook.arms = s.arms := by
  unfold State.svcLook
  dsimp only
  split <;> rfl

theorem corr_svcLook (s : State) : s.svcLook.corr = s.corr := by
  unfold State.svcLook
  dsimp only
  split <;> rfl

/-- The answer of a request touches no arm (R160). -/
theorem arms_svcAnswer (s : State) (ans : Answer) : (s.svcAnswer ans).arms = s.arms := by
  unfold State.svcAnswer
  split
  · rfl
  · rw [arms_svcLook]
    rfl

theorem corr_svcAnswer (s : State) (ans : Answer) : (s.svcAnswer ans).corr = s.corr := by
  unfold State.svcAnswer
  split
  · rfl
  · rw [corr_svcLook]
    rfl

/-- Whether immediate work is left depends on the arms and on swap-pending alone. -/
theorem settled_congr {t : State} (arms : t.arms = s.arms) (pending : t.corr.swapPending = s.corr.swapPending) :
    t.settled = s.settled := by
  rw [Bool.eq_iff_iff, settled_iff, settled_iff]
  have arm (x : Arm) : t.arm x = s.arm x := congrArg (fun d => d.get x) arms
  simp [State.swapReady, State.swapReleased, State.executing, arm, pending]

/-- A settled state stays so as an arm in FAULT goes to a standing that is not ACTIVE. -/
theorem settled_restored (h : s.settled = true) (state : (s.arm a).state ≠ .active) {st : ArmState} (next : st ≠ .active) :
    (s.modArm a fun r => { r with state := st }).settled = true := by
  rw [settled_iff] at h ⊢
  obtain ⟨ready, released, still⟩ := h
  have exec (x : Arm) : (s.modArm a fun r => { r with state := st }).executing x = s.executing x := by
    rcases a.eq_or_other x with rfl | rfl <;> simp [State.executing]
  refine ⟨?_, fun x => ?_, fun x => ?_⟩
  · rw [← ready]
    simp only [State.swapReady, exec]
    rfl
  · rcases a.eq_or_other x with rfl | rfl
    · simp [State.swapReleased, next]
    · rw [← released a.other]
      simp [State.swapReleased]
  · rcases a.eq_or_other x with rfl | rfl
    · rw [State.arm_modArm_same]
      exact ⟨(still _).1, fun e => absurd e next⟩
    · rw [State.arm_modArm_other]
      exact still _

theorem restState_ne_active (r : ArmRec) : r.restState ≠ .active := by
  unfold ArmRec.restState
  split
  · decide
  · split <;> decide

theorem clearFault_eq_error {f : FaultCode} (h : s.clearFaultCheck c = .error f) :
    s.clearFault c = s.svcAnswer (.refused f) := by
  simp [State.clearFault, h]

theorem reopenLane_eq_error {f : FaultCode} (h : s.reopenCheck c = .error f) :
    s.reopenLane c = s.svcAnswer (.refused f) := by
  simp [State.reopenLane, h]

end

/-- Settles O33: the tests of each request in their order, and what it does where they pass. -/
theorem clearFaultAndReopen : Obligations.ClearFaultAndReopen := by
  have clear {s : State} {c : SlotCopy} (h : s.serving .clearFault c = true) : exec .clearFault s = .next (s.clearFault c) :=
    congrArg Host.Outcome.next (serveKind_of_serving h State.clearFault)
  have reopen {s : State} {c : SlotCopy} (h : s.serving .reopenLane c = true) :
      exec .reopenLane s = .next (s.reopenLane c) :=
    congrArg Host.Outcome.next (serveKind_of_serving h State.reopenLane)
  refine ⟨fun s c high => ⟨fun serving => ?_, fun serving => ?_⟩,
    fun s c a serving code settled => ⟨fun active => ?_, fun released other => ?_, fun released fault => ?_⟩,
    fun s c a serving code => ⟨fun beyond => ?_, fun inside wrong => ?_, fun inside state exec committed queue => ?_⟩⟩
  · rw [clear serving, clearFault_eq_error (f := .badField)]
    simp [State.clearFaultCheck, arm?_of_le high]
  · rw [reopen serving, reopenLane_eq_error (f := .badField)]
    simp [State.reopenCheck, arm?_of_le high]
  · rw [clear serving, clearFault_eq_error (f := .lineActive)]
    simp [State.clearFaultCheck, code, arm?_code, active]
  · rw [clear serving, clearFault_eq_error (f := .badField)]
    simp [State.clearFaultCheck, code, arm?_code, released, other]
  · have check : s.clearFaultCheck c = .ok a := by simp [State.clearFaultCheck, code, arm?_code, released, fault]
    rw [clear serving, State.clearFault, check]
    refine congrArg Host.Outcome.next (settle_of_settled ?_)
    rw [settled_congr (arms_svcAnswer _ _) (by rw [corr_svcAnswer])]
    exact settled_restored settled (by rw [fault]; decide) (restState_ne_active _)
  · rw [reopen serving, reopenLane_eq_error (f := .badField)]
    simp [State.reopenCheck, code, arm?_code, beyond]
  · rw [reopen serving, reopenLane_eq_error (f := .wrongState)]
    simp [State.reopenCheck, code, arm?_code, Nat.not_le.2 inside, wrong]
  · have check : s.reopenCheck c = .ok a := by
      simp [State.reopenCheck, code, arm?_code, Nat.not_le.2 inside, state, exec, committed, queue]
    rw [reopen serving, State.reopenLane, check]

end Sys2Proof.Machine
end


section
/-! PROOF. The interpolator's segment, the correction chain, the groups and the scans of the Thermal Unit (O47, O48, O57,
O58). -/

namespace Sys2Proof.Machine

/-! ## A segment (R52, R53) -/

section
variable {g : Seg} {acc : Nat}

/-- A tick advances the segment with a velocity above 0 (R52). -/
theorem step_eq_advanced (acceleration : 0 < acc) (first : 0 < g.f1) (second : 0 < g.f2) :
    ∃ v, 0 < v ∧ g.step acc = g.advanced v := by
  have feed : 0 < g.feed := by
    unfold Seg.feed
    split
    · exact first
    · exact second
  unfold Seg.step
  split
  · exact ⟨_, by omega, rfl⟩
  · split
    · exact ⟨_, by omega, rfl⟩
    · exact ⟨_, by omega, rfl⟩

theorem total_advanced (g : Seg) (v : Nat) : (g.advanced v).total = g.total := rfl

theorem pos_advanced (g : Seg) (v : Nat) : (g.advanced v).pos = min (g.pos + v) g.total := rfl

/-- A segment within its length comes nearer to its end by at least one path unit in each tick. -/
theorem iterate_step (acceleration : 0 < acc) (n : Nat) (first : 0 < g.f1) (second : 0 < g.f2) (within : g.pos ≤ g.total)
    (near : g.total - g.pos ≤ n) : ((fun h => Seg.step h acc)^[n] g).pos = g.total := by
  induction n generalizing g with
  | zero =>
    show g.pos = g.total
    omega
  | succ n ih =>
    obtain ⟨v, moves, step⟩ := step_eq_advanced (g := g) acceleration first second
    rw [Function.iterate_succ_apply, step, ← total_advanced g v]
    refine ih (g := g.advanced v) first second ?_ ?_ <;> rw [total_advanced, pos_advanced] <;> omega

/-- The quotient of an exact multiple is that multiple. -/
theorem roundDiv_mul_right (n : Int) {d : Int} (positive : 0 < d) : roundDiv (n * d) d = n := by
  have exact (k : Int) : (2 * (k * d) + d) / (2 * d) = k := by
    rw [show 2 * (k * d) + d = d + k * (2 * d) by ring, Int.add_mul_ediv_right _ _ (by omega),
      Int.ediv_eq_zero_of_lt (by omega) (by omega), zero_add]
  unfold roundDiv
  split
  · exact exact n
  · rw [← Int.neg_mul, exact, neg_neg]

end

/-- Settles O47: by the least advance of a tick, and by the exact quotient at the end. -/
theorem segmentReachesItsEnd : Obligations.SegmentReachesItsEnd := by
  intro g acc acceleration first second within
  obtain ⟨v, moves, step⟩ := step_eq_advanced (g := g) acceleration first second
  refine ⟨fun before => ?_, ?_, fun n near => iterate_step acceleration n first second within near, fun long done => ?_⟩
  · rw [step, pos_advanced]
    omega
  · rw [step, pos_advanced]
    omega
  · have positive : (0 : Int) < g.total := by
      unfold Seg.total
      omega
    have component (s e : Int) : s + roundDiv ((e - s) * g.pos) g.total = e := by
      rw [done, roundDiv_mul_right _ positive]
      omega
    simp [Seg.position, Tri.map2, component]

/-! ## Nearest rounding (00, Arithmetic) -/

/-- Nearest rounding lies within half of the divisor, and a tie goes away from zero. -/
theorem roundDiv_near (n : Int) {d : Int} (positive : 0 < d) : |2 * (roundDiv n d * d - n)| ≤ d ∧
    (|2 * (roundDiv n d * d - n)| = d → |n| < |roundDiv n d * d|) := by
  have upper (k : Int) (nonneg : 0 ≤ k) : 2 * ((2 * k + d) / (2 * d) * d - k) ≤ d ∧
      -d < 2 * ((2 * k + d) / (2 * d) * d - k) ∧ 0 ≤ (2 * k + d) / (2 * d) * d := by
    have division := Int.mul_ediv_add_emod (2 * k + d) (2 * d)
    have low := Int.emod_nonneg (2 * k + d) (b := 2 * d) (by omega)
    have high := Int.emod_lt_of_pos (2 * k + d) (b := 2 * d) (by omega)
    have quotient : 0 ≤ (2 * k + d) / (2 * d) * d := Int.mul_nonneg (Int.ediv_nonneg (by omega) (by omega)) (by omega)
    rw [show 2 * d * ((2 * k + d) / (2 * d)) = 2 * ((2 * k + d) / (2 * d) * d) by ring] at division
    omega
  unfold roundDiv
  split
  · obtain ⟨high, low, positive⟩ := upper n ‹_›
    generalize (2 * n + d) / (2 * d) * d = m at *
    have error := abs_cases (2 * (m - n))
    have left := abs_cases n
    have right := abs_cases m
    omega
  · obtain ⟨high, low, positive⟩ := upper (-n) (by omega)
    rw [Int.neg_mul]
    generalize (2 * -n + d) / (2 * d) * d = m at *
    have error := abs_cases (2 * (-m - n))
    have left := abs_cases n
    have right := abs_cases (-m)
    omega

/-! ## The correction chain (R8 to R12) -/

theorem strain_bounds {k : Int} (ok : coeffOk k = true) (difference : Int) :
    -1342177280 ≤ strain k difference ∧ strain k difference ≤ 1342177280 := by
  rw [coeffOk_iff] at ok
  have clamped : |clamp (-5120) 5120 difference| ≤ 5120 := by
    unfold clamp
    rw [abs_le]
    omega
  have size : |k| ≤ 131072 := by
    rw [abs_le]
    omega
  have product : |k * clamp (-5120) 5120 difference| ≤ 131072 * 5120 := by
    rw [abs_mul]
    exact mul_le_mul size clamped (abs_nonneg _) (by norm_num)
  rw [abs_le] at product
  unfold strain
  rw [mul_assoc]
  omega

/-- Two roundings through the scale stage and its inverse move a value by at most 1. -/
theorem stretch_shrink_near {s : Int} (low : -1342177280 ≤ s) (high : s ≤ 1342177280) (v : Int) :
    (stretch (shrink v s) s - v).natAbs ≤ 1 := by
  have back := (roundDiv_near (v * two40) (d := two40 + s) (by unfold two40; omega)).1
  have forth := (roundDiv_near (shrink v s * s) (d := two40) (by decide)).1
  unfold stretch shrink at *
  generalize roundDiv (v * two40) (two40 + s) = c at *
  generalize roundDiv (c * s) two40 = r at *
  rw [abs_le] at back forth
  rw [mul_add] at back
  unfold two40 at *
  omega

/-- The workpiece stage over its inverse moves a value that is changed by at most 1 in between by at most 3. -/
theorem shrink_grow_near {w : Int} (low : -1342177280 ≤ w) (high : w ≤ 1342177280) (v u : Int)
    (near : (u - grow v w).natAbs ≤ 1) : (shrink u w - v).natAbs ≤ 3 := by
  have forth := (roundDiv_near (v * (two40 + w)) (d := two40) (by decide)).1
  have back := (roundDiv_near (u * two40) (d := two40 + w) (by unfold two40; omega)).1
  unfold grow at near
  unfold shrink
  generalize roundDiv (v * (two40 + w)) two40 = q at *
  generalize roundDiv (u * two40) (two40 + w) = t at *
  rw [abs_le] at back forth
  have positive : 0 ≤ two40 + w := by unfold two40; omega
  have sum : (t - v) * (two40 + w) = t * (two40 + w) - v * (two40 + w) := sub_mul ..
  by_contra far
  rcases (show 4 ≤ t - v ∨ 4 ≤ v - t by omega) with h | h
  · have := mul_le_mul_of_nonneg_right h positive
    unfold two40 at *
    omega
  · have := mul_le_mul_of_nonneg_right h positive
    rw [← neg_sub t v, neg_mul] at this
    unfold two40 at *
    omega

theorem coeffSet_ok_components {k : CoeffSet} (ok : k.ok = true) :
    (∀ a x, coeffOk ((k.scale.get a).get x) = true) ∧ coeffOk k.wp = true := by
  unfold CoeffSet.ok at ok
  simp only [Bool.and_eq_true] at ok
  obtain ⟨⟨⟨⟨⟨⟨ax, ay⟩, az⟩, bx⟩, by'⟩, bz⟩, wp⟩ := ok
  refine ⟨fun a x => ?_, wp⟩
  cases a <;> cases x <;> assumption

/-- The strains of an arm's axes and of the workpiece lie in their ranges. -/
theorem chain_strains {s : State} (ok : s.corr.active.ok = true) (a : Arm) :
    (∀ x, -1342177280 ≤ (s.chain a).axes.get x ∧ (s.chain a).axes.get x ≤ 1342177280) ∧
      -1342177280 ≤ (s.chain a).wp ∧ (s.chain a).wp ≤ 1342177280 := by
  obtain ⟨scale, wp⟩ := coeffSet_ok_components ok
  refine ⟨fun x => ?_, strain_bounds wp _⟩
  cases x
  · exact strain_bounds (scale a .X) _
  · exact strain_bounds (scale a .Y) _
  · exact strain_bounds (scale a .Z) _

theorem get_map2 {α β γ : Type} (f : α → β → γ) (u : Tri α) (v : Tri β) (x : Axis) :
    (Tri.map2 f u v).get x = f (u.get x) (v.get x) := by cases x <;> rfl

theorem get_map {α β : Type} (f : α → β) (u : Tri α) (x : Axis) : (u.map f).get x = f (u.get x) := by cases x <;> rfl

/-- A MACHINE position taken to raw counts and back. -/
theorem toMachine_fromMachine_near {s : State} (ok : s.corr.active.ok = true) (a : Arm) (v : Vec) (x : Axis) :
    (((s.chain a).toMachine ((s.chain a).fromMachine v)).get x - v.get x).natAbs ≤ 1 := by
  obtain ⟨low, high⟩ := (chain_strains ok a).1 x
  rw [ChainInputs.toMachine, ChainInputs.fromMachine, get_map2, get_map2]
  exact stretch_shrink_near low high _

/-- Settles O48: the errors of the roundings, stage by stage. -/
theorem chainComesBack : Obligations.ChainComesBack := by
  intro s a v ok
  refine ⟨toMachine_fromMachine_near ok a v, fun c conversion => ?_⟩
  unfold ChainInputs.fromPart at conversion
  rw [Option.map_eq_some_iff] at conversion
  obtain ⟨tip, mounted, rfl⟩ := conversion
  refine ⟨_, by rw [ChainInputs.toPart, mounted, Option.map_some], fun x => ?_⟩
  obtain ⟨-, low, high⟩ := chain_strains ok a
  rw [get_map]
  refine shrink_grow_near low high _ _ ?_
  have near := toMachine_fromMachine_near ok a
    (((v.map fun i => grow i (s.chain a).wp).plus (s.chain a).offset).minus tip) x
  simp only [Tri.minus, Tri.plus, get_map2, get_map] at near ⊢
  omega

/-! ## The groups at a scan end (R29, R31 to R34) -/

section
variable {g : Group} {t : Thermal}

theorem evaluated_empty (empty : g.members = []) (vs : List Int) (air : Option Int) :
    g.evaluated vs air = { g with state := .empty, temp := 2560, held := 0 } := by
  simp [Group.evaluated, empty]

theorem evaluated_valid (listed : g.members ≠ []) {vs : List Int} (valid : vs ≠ []) (air : Option Int) :
    g.evaluated vs air = { g with state := .valid, temp := roundDiv (sumList vs) vs.length, held := 0 } := by
  simp [Group.evaluated, listed, valid]

theorem evaluated_held (listed : g.members ≠ []) (early : min (g.held + 1) 255 < g.holdLimit) (air : Option Int) :
    g.evaluated [] air = { g with state := .held, held := min (g.held + 1) 255 } := by
  unfold Group.evaluated
  rw [if_neg listed, if_neg (by simp)]
  exact if_pos early

theorem evaluated_late (listed : g.members ≠ []) (late : g.holdLimit ≤ min (g.held + 1) 255) (air : Option Int) :
    g.evaluated [] air = match air with
      | some t => { g with state := .substituted, temp := t, held := min (g.held + 1) 255 }
      | none => { g with state := .lost, held := min (g.held + 1) 255 } := by
  unfold Group.evaluated
  rw [if_neg listed, if_neg (by simp)]
  exact if_neg (Nat.not_lt.2 late)

/-- What AIR gives in the place of a group without VALID members: nothing to itself, and nothing while it is not VALID
(R33). -/
def Thermal.substitute (t : Thermal) (i : Fin 10) : Option Int :=
  if i = airGroup then none else if t.airNow.state = .valid then some t.airNow.temp else none

/-- Each group at a scan end is evaluated from its VALID members. -/
theorem groups_scanEnded (t : Thermal) (i : Fin 10) :
    t.scanEnded.groups[i] = t.groups[i].evaluated (t.validValues t.groups[i]) (t.substitute i) := by
  show t.groupsNow[i] = _
  unfold Thermal.groupsNow Thermal.substitute
  rcases eq_or_ne i airGroup with rfl | other
  · simp [Thermal.airNow]
  · have apart : airGroup.val ≠ i.val := fun e => other (Fin.ext e.symm)
    rw [if_neg other]
    simp only [Fin.getElem_fin, Vector.getElem_set_ne _ _ apart]
    exact getElem_mapTable _ t.groups i

theorem sumList_eq (vs : List Int) : sumList vs = vs.sum := by
  induction vs with
  | nil => rfl
  | cons v vs ih => rw [sumList, ih, List.sum_cons]

theorem validValues_eq (t : Thermal) (g : Group) : t.validValues g =
    (g.members.filter fun m => t.chans[m].state = .valid).map fun m => t.chans[m].value := by
  unfold Thermal.validValues
  induction g.members with
  | nil => rfl
  | cons m ms ih =>
    rw [List.map_cons, List.filterMap_cons, ih]
    by_cases valid : t.chans[m].state = .valid
    · rw [if_pos valid, List.filter_cons_of_pos (by simpa using valid), List.map_cons]
    · rw [if_neg valid, List.filter_cons_of_neg (by simpa using valid)]

theorem validValues_eq_nil (none : ∀ m ∈ g.members, t.chans[m].state ≠ .valid) : t.validValues g = [] := by
  rw [validValues_eq, List.map_eq_nil_iff, List.filter_eq_nil_iff]
  simpa using none

end

/-- Settles O57: the branches of a group's evaluation, the mean by nearest rounding. -/
theorem groupTakesRoundedMean : Obligations.GroupTakesRoundedMean := by
  refine ⟨fun t i valid => ?_, fun t i listed none => ?_, fun t i empty => ?_⟩
  · have listed : t.groups[i].members ≠ [] := fun empty => valid (validValues_eq_nil (by rw [empty]; nofun))
    have positive : (0 : Int) < (t.validValues t.groups[i]).length := by
      simpa [List.length_pos_iff] using valid
    dsimp only
    rw [groups_scanEnded, evaluated_valid listed valid, sumList_eq]
    exact ⟨validValues_eq t _, rfl, roundDiv_near _ positive⟩
  · have air : t.scanEnded.groups[(9 : Fin 10)] = t.airNow := by
      rw [groups_scanEnded]
      rfl
    dsimp only
    rw [air, groups_scanEnded, validValues_eq_nil none]
    refine ⟨fun early => evaluated_held listed early _, fun late other valid => ?_, fun late other => ?_⟩
    · rw [evaluated_late listed late, Thermal.substitute, if_neg (by exact other), if_pos valid]
    · have nothing : t.substitute i = .none := by
        unfold Thermal.substitute
        rcases other with air | lost
        · exact if_pos air
        · rw [if_neg lost, ite_self]
      rw [evaluated_late listed late, nothing]
  · rw [groups_scanEnded, evaluated_empty empty]

/-! ## A scan (R24, R25, R29, R34) -/

section
variable {s : State}

/-- The state of a scan end before a held request is applied (R29, R34). -/
def State.published (s : State) : State :=
  let t := s.therm.scanEnded
  let s1 : State := { s with therm := t }
  if Thermal.statesDiffer s.therm.snap t.snap then s1.setNotice .thermal else s1

theorem scanEnd_eq (s : State) : s.scanEnd = s.published.applyHeld := rfl

theorem therm_published (s : State) : s.published.therm = s.therm.scanEnded := by
  unfold State.published
  dsimp only
  split <;> rfl

theorem svc_published (s : State) : s.published.svc = s.svc := by
  unfold State.published
  dsimp only
  split <;> rfl

theorem applyHeld_of_not (free : ∀ q, s.svc = some q → q.held = false) : s.applyHeld = s := by
  unfold State.applyHeld
  cases request : s.svc with
  | none => rfl
  | some q => simp [free q request]

theorem scanEnd_free (free : ∀ q, s.svc = some q → q.held = false) : s.scanEnd = s.published := by
  rw [scanEnd_eq, applyHeld_of_not]
  rwa [svc_published]

/-- The scan end with the request that the Thermal Unit holds (R29 step 5). -/
theorem scanEnd_held {c : SlotCopy} (request : s.svc = some ⟨c, true⟩) :
    s.scanEnd = ({ State.scanEnd { s with svc := none } with svc := s.svc } : State).thermalApply c := by
  have aside : ({ State.scanEnd { s with svc := none } with svc := s.svc } : State) = s.published := by
    rw [scanEnd_free (s := { s with svc := none }) nofun]
    unfold State.published
    dsimp only
    split <;> rfl
  rw [aside, scanEnd_eq, State.applyHeld, svc_published, request]
  rfl

/-- Whether a scan end changed a published state, by the index of a group (R34). -/
theorem statesDiffer_iff (x y : Snapshot) :
    Thermal.statesDiffer x y = true ↔ ∃ i : Fin 10, y.groups[i].state ≠ x.groups[i].state := by
  rw [Thermal.statesDiffer, bne_iff_ne, ne_eq, ← not_forall_not]
  refine not_congr ⟨fun same i differ => differ ?_, fun same => List.ext_getElem (by simp) fun k low _ => ?_⟩
  · have at_i := congrArg (fun l => l[i.val]?) same
    simp at at_i
    exact at_i.symm
  · have low : k < 10 := by simpa using low
    have at_k := not_not.1 (same ⟨k, low⟩)
    simpa using at_k.symm

theorem thermalApply_eq {c : SlotCopy} {t : Thermal} (applied : s.therm.apply c = some t) :
    s.thermalApply c = { s with therm := t }.svcAnswer (.done []) := by
  simp [State.thermalApply, applied]

end

/-- Settles O58: SCAN_BEGIN by the scan list, SAMPLE_COMPLETE by what remains, and the scan end with and without a held
request. -/
theorem scanSamplesAndPublishes : Obligations.ScanSamplesAndPublishes := by
  refine ⟨⟨fun s timer idle => ?begin, fun s code i rest scan => ?sample⟩, fun s free => ?publish, fun s c request => ?held⟩
  case begin =>
    have run : exec .scanBegin s = .next s.scanBegin := congrArg Host.Outcome.next (if_pos ⟨timer, idle⟩)
    rw [run, State.scanBegin]
    exact ⟨fun listed => by rw [if_neg listed], fun empty => by rw [if_pos empty]⟩
  case sample =>
    have run : exec (.sampleComplete code) s = .next (s.sampleDone code.toNat) :=
      congrArg Host.Outcome.next (if_neg (by rw [scan]; nofun))
    have sampled : s.therm.sampled code.toNat =
        { s.therm with chans := s.therm.chans.set i (s.therm.chans[i].sample code.toNat), scan := some rest } := by
      simp [Thermal.sampled, scan]
    rw [run, State.sampleDone, sampled]
    refine ⟨fun more => ?_, fun last => ?_⟩
    · exact congrArg Host.Outcome.next (if_neg (by simpa using more))
    · subst last
      rfl
  case publish =>
    rw [scanEnd_free free, therm_published, svc_published]
    refine ⟨fun i => ?_, fun i => ?_, rfl, rfl, rfl, ?_⟩
    · exact getElem_mapTable _ s.therm.chans i
    · exact getElem_mapTable _ _ i
    · simp only [← statesDiffer_iff, State.published]
      split <;> rfl
  case held =>
    dsimp only
    rw [scanEnd_held request]
    refine ⟨fun i kind index => ⟨fun on settings => ?_, fun off => ?_⟩, fun g ms kind index members distinct low high =>
      ⟨fun fresh => ?_, fun shared => ?_⟩⟩
    · exact thermalApply_eq (apply_sensor _ kind (sensorRequest_on index on settings))
    · exact thermalApply_eq (apply_sensor _ kind (sensorRequest_off index off))
    · refine thermalApply_eq ?_
      rw [apply_group _ kind (groupFields_of index members distinct low high), if_pos (noOtherGroup_iff.2 fresh)]
      rfl
    · rw [State.thermalApply, apply_group _ kind (groupFields_of index members distinct low high), if_neg]
      rw [noOtherGroup_iff]
      obtain ⟨h, ne, m, mem, inside⟩ := shared
      exact fun fresh => fresh h ne m mem inside

end Sys2Proof.Machine
end


section
/-! PROOF. The immediate work of one arm while the other has none, the link engine's events and the end of a cover
wait (O51, O54). -/

namespace Sys2Proof.Machine

/-! ## The immediate work of one arm -/

/-- No immediate work but an arm's own can be waiting: no swap is ready, none has to release an arm, the other arm is still. -/
def State.quietBut (s : State) (a : Arm) : Prop :=
  s.swapReady = false ∧ (∀ x, s.swapReleased x = false) ∧ (s.arm a.other).still

section
variable {s t u : State} {a : Arm}

theorem settled_iff_quietBut : s.settled = true ↔ s.quietBut a ∧ (s.arm a).still := by
  rw [settled_iff]
  refine ⟨fun ⟨ready, released, still⟩ => ⟨⟨ready, released, still _⟩, still _⟩,
    fun ⟨⟨ready, released, other⟩, own⟩ => ⟨ready, released, fun x => ?_⟩⟩
  rcases a.eq_or_other x with rfl | rfl
  · exact own
  · exact other

/-- Nothing but an arm's own work waits where the swap barrier sees the arm as before and the rest is as before. -/
theorem quietBut_of_same (h : s.quietBut a) (pending : t.corr.swapPending = s.corr.swapPending)
    (other : t.arm a.other = s.arm a.other) (exec : t.executing a = s.executing a)
    (own : ¬ ((t.arm a).state = .active ∧ (t.arm a).phase = .waitSwap)) : t.quietBut a := by
  obtain ⟨ready, released, still⟩ := h
  have executing (x : Arm) : t.executing x = s.executing x := by
    rcases a.eq_or_other x with rfl | rfl
    · exact exec
    · simp [State.executing, other]
  refine ⟨?_, fun x => ?_, other ▸ still⟩
  · simpa [State.swapReady, pending, executing] using ready
  · rcases a.eq_or_other x with rfl | rfl
    · rw [Bool.eq_false_iff, ne_eq, State.swapReleased_iff]
      exact fun waits => own ⟨waits.1, waits.2.1⟩
    · rw [← released a.other]
      simp [State.swapReleased, other, pending]

/-- Nothing but an arm's own work waits where no swap is pending and neither arm waits for one. -/
theorem quietBut_of_calm (pending : s.corr.swapPending = false) (other : (s.arm a.other).calm)
    (own : ¬ ((s.arm a).state = .active ∧ (s.arm a).phase = .waitSwap)) : s.quietBut a := by
  refine ⟨by simp [State.swapReady, pending], fun x => ?_, other.1⟩
  rw [Bool.eq_false_iff, ne_eq, s.swapReleased_iff]
  rcases a.eq_or_other x with rfl | rfl
  · exact fun waits => own ⟨waits.1, waits.2.1⟩
  · exact fun waits => other.2 ⟨waits.1, waits.2.1⟩

/-- One piece of an arm's work is the only immediate work. -/
theorem settle_own (quiet : s.quietBut a) (work : s.armWork a = some t) (done : t.settled = true) : s.settle = t :=
  settle_one (immediate_of_armWork quiet.1 quiet.2.1 quiet.2.2 work) done

/-- The segment from a position to another at a feed of an arm (R51). -/
def State.segTo (s : State) (a : Arm) (v stop : Vec) (feed : Nat) : Seg :=
  Seg.between v stop (s.feedOf a feed) (s.feedOf a feed) 0 0

theorem modArm_eq_setArm (s : State) (a : Arm) (f : ArmRec → ArmRec) : s.modArm a f = s.setArm a (f (s.arm a)) := rfl

theorem modArm_setArm (s : State) (a : Arm) (r : ArmRec) (f : ArmRec → ArmRec) :
    (s.setArm a r).modArm a f = s.setArm a (f r) := by
  rw [modArm_eq_setArm, State.arm_setArm_same, State.setArm_setArm]

theorem setPhase_setArm (s : State) (a : Arm) (r : ArmRec) (p : Phase) :
    (s.setArm a r).setPhase a p = s.setArm a { r with phase := p } := modArm_setArm s a r _

theorem setDue_setArm (s : State) (a : Arm) (r : ArmRec) (d : Due) :
    (s.setArm a r).setDue a d = s.setArm a { r with due := some d } := modArm_setArm s a r _

theorem modExec_setArm (s : State) (a : Arm) (r : ArmRec) (f : Block → Block) :
    (s.setArm a r).modExec a f = s.setArm a { r with exec := r.exec.map f } := modArm_setArm s a r _

/-- A segment of some length begins at the position of the record (R51). -/
theorem beginSeg_setArm {r : ArmRec} {stop : Vec} {feed : Nat} (long : (s.segTo a r.cmd stop feed).len ≠ 0) :
    (s.setArm a r).beginSeg a stop feed = s.setArm a { r with seg := s.segTo a r.cmd stop feed, moving := true } := by
  have long : (Seg.between r.cmd stop ((s.setArm a r).feedOf a feed) ((s.setArm a r).feedOf a feed) 0 0).len ≠ 0 := long
  unfold State.beginSeg State.beginSegTwo
  rw [modArm_setArm]
  dsimp only
  rw [if_neg long]
  rfl

/-- Nothing but an arm's own work waits where the arm's record is replaced by one that the swap barrier sees alike. -/
theorem quietBut_setArm {r : ArmRec} (h : s.quietBut a) (exec : (r.exec.isSome && r.phase != .waitSwap) = s.executing a)
    (own : ¬ (r.state = .active ∧ r.phase = .waitSwap)) : (s.setArm a r).quietBut a := by
  refine quietBut_of_same h rfl (by simp) ?_ ?_
  · rw [← exec]
    simp [State.executing]
  · rw [State.arm_setArm_same]
    exact own

/-- What is due at an ACTIVE arm at rest is the only immediate work. -/
theorem settle_due {d : Due} (quiet : s.quietBut a) (active : (s.arm a).state = .active) (rest : (s.arm a).moving = false)
    (free : (s.arm a).holdLevel = false) (due : (s.arm a).due = some d) (now : d ≠ .nextLeg)
    (work : s.beginDue a d = t) (done : t.settled = true) : s.settle = t :=
  settle_own quiet ((armWork_due active rest free due now).trans (congrArg some work)) done

/-- The settled state depends on six fields of each arm and on swap-pending alone. -/
theorem settled_alike (h : s.settled = true) (pending : t.corr.swapPending = s.corr.swapPending)
    (alike : ∀ x, (t.arm x).state = (s.arm x).state ∧ (t.arm x).phase = (s.arm x).phase ∧
      (t.arm x).moving = (s.arm x).moving ∧ (t.arm x).due = (s.arm x).due ∧ (t.arm x).holdLevel = (s.arm x).holdLevel ∧
        (t.arm x).exec.isSome = (s.arm x).exec.isSome) : t.settled = true := by
  rw [settled_iff] at h ⊢
  obtain ⟨ready, released, still⟩ := h
  refine ⟨?_, fun x => ?_, fun x => ?_⟩
  · simpa [State.swapReady, State.executing, pending, alike] using ready
  · simpa [State.swapReleased, pending, alike] using released x
  · simpa [ArmRec.still, alike] using still x

end

/-! ## The link engine (R131 to R135) -/

/-- A frame as the part forms it reads back as its byte (R133, R134). -/
theorem readFrame_frameOf : ∀ b : Byte, readFrame (frameOf b) = .ok b := by decide +kernel

theorem settled_modLink {s : State} (h : s.settled = true) (a : Arm) (f : Link → Link) : (s.modLink a f).settled = true := by
  refine settled_alike h rfl fun x => ?_
  rcases a.eq_or_other x with rfl | rfl
  · rw [arm_modLink_same]
    exact ⟨rfl, rfl, rfl, rfl, rfl, rfl⟩
  · rw [arm_modLink_other]
    exact ⟨rfl, rfl, rfl, rfl, rfl, rfl⟩

/-- Settles O54: each command finds the engine in the state it acts on. -/
theorem linkEventsAdvanceEngine : Obligations.LinkEventsAdvanceEngine := by
  intro s a
  refine ⟨fun wake => ?_, fun waits => ?_, fun n sync long => ?_, fun send => ?_, fun b settled receives room => ?_,
    fun pause => ?_⟩
  · exact congrArg Host.Outcome.next (if_pos wake)
  · exact congrArg Host.Outcome.next (if_pos waits)
  · show Host.Outcome.next (if s.engine a = .sync then _ else s) = _
    rw [if_pos sync, bitPeriod, if_neg (Nat.not_lt.2 long)]
  · exact congrArg Host.Outcome.next (if_pos send)
  · show Host.Outcome.next (if s.engine a = .replyWait ∨ s.engine a = .receive then _ else s) = _
    rw [if_pos receives, State.receiveFrame, if_neg (Nat.not_le.2 room), readFrame_frameOf]
    exact congrArg Host.Outcome.next (settle_of_settled (settled_modLink settled a _))
  · exact congrArg Host.Outcome.next (if_pos pause)

/-! ## The cover wait (R141) -/

section
variable {s : State} {a : Arm}

theorem coverSeen_of {n : Nat} {p : ChangePhase} {h : Half} (timer : (s.arm a).coverTimer = some n)
    (phase : (s.arm a).phase = .changing p h) : s.coverSeen a = s.coverOpened a h := by
  simp [State.coverSeen, timer, phase]

theorem coverSeen_of_none (timer : (s.arm a).coverTimer = none) : s.coverSeen a = s := by
  simp [State.coverSeen, timer]

theorem beginChange_dock {b : Block} (exec : (s.arm a).exec = some b) (h : Half) : s.beginChange a .dock h =
    (s.setPhase a (.changing .dock h)).beginSeg a (b.target (b.approachIndex h + 1)) (b.slot.nat 6) := by
  simp [State.beginChange, exec]

end

/-- Settles O51: the line alone, or the end of the wait and the dock as its only immediate work. -/
theorem coverOpenEndsWait : Obligations.CoverOpenEndsWait := by
  intro s a x settled change
  have unchanged : (s.setCover a x).settled = true := by
    refine settled_alike settled rfl fun y => ?_
    rw [arm_setCover]
    exact ⟨rfl, rfl, rfl, rfl, rfl, rfl⟩
  refine ⟨fun idle => ?_, fun n p h b active timer phase block state rest level due => ?_⟩
  · show Host.Outcome.next (if s.pins.coverOpen.get a = x then s else _) = _
    rw [if_neg change]
    rcases idle with rfl | timer
    · rfl
    · cases x
      · rfl
      · rw [if_pos rfl, coverSeen_of_none (s := s.setCover a true) timer, settle_of_settled unchanged]
        rfl
  · intro feed seg long
    subst active
    let u := (s.setCover a true).coverOpened a h
    have seen : exec (.coverOpenChange a true) s = .next u.settle := by
      show Host.Outcome.next (if s.pins.coverOpen.get a = true then s else _) = _
      rw [if_neg change, if_pos rfl, coverSeen_of (s := s.setCover a true) timer phase]
    let w := s.setCover a true
    let r : ArmRec := { s.arm a with coverTimer := none, phase := .changing .dock h, seg := seg, moving := true }
    have quiet : w.quietBut a := (settled_iff_quietBut.1 unchanged).1
    have executing : w.executing a = true := by simp [State.executing, w, block, phase]
    have begins : u.beginDue a (.change .dock h) = w.setArm a r := by
      show (u.modArm a fun r => { r with due := none }).beginChange a .dock h = _
      rw [beginChange_dock (b := b) (by simp [u, State.coverOpened, block])]
      simp only [u, State.coverOpened, modArm_eq_setArm, setDue_setArm, setPhase_setArm, State.setArm_setArm,
        State.arm_setArm_same]
      rw [beginSeg_setArm (by exact long)]
      simp [r, w, due]
      rfl
    have done : (w.setArm a r).settled = true := by
      refine settled_iff_quietBut.2 ⟨quietBut_setArm quiet ?_ (by simp [r]), ?_⟩
      · rw [executing]
        simp [r, block]
      · rw [State.arm_setArm_same]
        exact (calm_of_moving rfl (by simp [r, due]) (by simp [r])).1
    have quietu : u.quietBut a := by
      refine quietBut_of_same quiet rfl (by simp [u, w, State.coverOpened]) ?_ ?_
      · simp [State.executing, u, w, State.coverOpened]
      · simp [u, State.coverOpened, phase]
    rw [seen, settle_due quietu (d := .change .dock h) (by simp [u, State.coverOpened, state])
      (by simp [u, State.coverOpened, rest]) (by simp [u, State.coverOpened, level]) (by simp [u, State.coverOpened]) nofun
      begins done]
    rfl

end Sys2Proof.Machine
end


section
/-! SUPPORT. The end of a block that is DONE (R44), and the release test with the work of the arm that it lets go on (R73,
R77, R78). PROOF. The stability waits that the history ends (O59). -/

namespace Sys2Proof.Machine

/-! ## The next block's need of the zone (R77) -/

section
variable {s t u : State} {a : Arm}

/-- A head of a kind that never requests does not need the zone (R71). -/
theorem headNeedsZone_false {c : SlotCopy} (kind : c.kind ≠ some .home ∧ c.kind ≠ some .move ∧ c.kind ≠ some .probePoint ∧
    c.kind ≠ some .qualify ∧ c.kind ≠ some .changeProbe) : s.headNeedsZone a c = false := by
  obtain ⟨home, move, probe, qualify, change⟩ := kind
  unfold State.headNeedsZone
  rw [if_neg home]
  cases s.stepOne a c with
  | error f => rfl
  | ok b =>
    dsimp only
    cases s.stepTwo a b with
    | go b2 =>
      dsimp only
      cases s.convert a b2 with
      | none => rfl
      | some k =>
        dsimp only
        split
        · exact absurd ‹_› move
        · exact absurd ‹_› probe
        · exact absurd ‹_› qualify
        · exact absurd ‹_› change
        · rfl
    | _ => rfl

/-- Where the kind of the head tells, it is what the release test finds (R77). -/
theorem nextNeedsZone_of_queueNeeds (committed : (s.arm a).committed = none) {n : Bool}
    (needs : queueNeeds (s.arm a).queue = some n) : s.nextNeedsZone a = n := by
  unfold State.nextNeedsZone
  dsimp only
  rw [committed]
  cases queue : (s.arm a).queue with
  | nil =>
    rw [queue] at needs
    injection needs
  | cons c q =>
    rw [queue] at needs
    show s.headNeedsZone a c = n
    cases kind : c.kind with
    | none =>
      simp only [queueNeeds, kind] at needs
      injection needs with needs
      rw [← needs]
      exact headNeedsZone_false (by simp [kind])
    | some k =>
      simp only [queueNeeds, kind] at needs
      cases k
      case home =>
        injection needs with needs
        rw [← needs, State.headNeedsZone, if_pos kind]
      case move => cases needs
      case probePoint => cases needs
      case qualify => cases needs
      case changeProbe => cases needs
      all_goals
        injection needs with needs
        rw [← needs]
        exact headNeedsZone_false (by simp [kind])

/-! ## A block ends DONE (R44) -/

/-- The state of a completion before its release test: the arm has no block (R44). -/
def State.ended (s : State) (a : Arm) : State := s.modArm a ArmRec.emptied

theorem afterDone_eq (s : State) (a : Arm) : s.afterDone a =
    (((s.ended a).releaseTest a ((s.ended a).nextNeedsZone a)).modArm a fun r => { r with state := r.restState }).fill a :=
  rfl

/-- The arm after a completion: between blocks, with what the fill has taken (R41, R44). -/
theorem arm_afterDone_same (s : State) (a : Arm) : (s.afterDone a).arm a = { (s.arm a).emptied with
    state := (s.arm a).between
    queue := ((s.afterDone a).arm a).queue } := by
  rw [afterDone_eq, arm_fill_same, State.arm_modArm_same, arm_releaseTest_same, State.ended, State.arm_modArm_same]
  rfl

theorem zone_afterDone (s : State) (a : Arm) :
    (s.afterDone a).zone = ((s.ended a).releaseTest a ((s.ended a).nextNeedsZone a)).zone := by
  rw [afterDone_eq, zone_fill]
  rfl

theorem arm_afterDone_other (s : State) (a : Arm) : (s.afterDone a).arm a.other =
    ((s.ended a).releaseTest a ((s.ended a).nextNeedsZone a)).arm a.other := by
  rw [afterDone_eq, arm_fill_other, State.arm_modArm_other]

@[simp] theorem lanes_afterDone_base (s : State) (a : Arm) : ((s.afterDone a).lanes.get a).base = (s.lanes.get a).base := by
  rw [afterDone_eq, lane_fill_base]
  simp [State.ended]

/-! ## The release test and the arm that it lets go on -/

/-- A release test within a change of the state: `pre` stands before the test, `post` is what the event leaves before its
immediate work; the other arm stands as `r` at the test. -/
structure State.Releases (s pre post : State) (a : Arm) (n : Bool) (r : ArmRec) : Prop where
  zone : s.sameZone pre a
  other : pre.arm a.other = r
  zoneAfter : post.zone = (pre.releaseTest a n).zone
  otherAfter : post.arm a.other = (pre.releaseTest a n).arm a.other
  own : (post.arm a).calm
  otherCalm : r.calm
  pending : post.corr.swapPending = false
  settings : post.settings = s.settings

/-- What an event that makes the release test of an arm leaves of the zone and of the other arm, which stood as `r` at the
test: the holder is that of the test, or the grant has passed to the other arm where it waited with a MOVE (R73, R77, R78). -/
def State.handsOver (s t : State) (a : Arm) (v : Vec) (needs : Option Bool) (r : ArmRec) : Prop :=
  (s.unasked a = true → t.arm a.other = r ∧ s.tested t a v needs) ∧
    ∀ b, s.waitsToMove a.other b → s.holdsGrant a = true →
      (s.clears a v → needs = some false → s.passedOn t a b r) ∧
        (¬ s.clears a v ∨ needs = some true → t.zone.holder = some a)

/-- The step 6 of a MOVE whose first segment has a length is the only immediate work (R47, R48). -/
theorem settle_stepSix_move {b : Block} {r : ArmRec} (quiet : s.quietBut a)
    (arm : s.arm a = { r with due := some .stepSix }) (exec : r.exec = some b)
    (kind : b.slot.kind = some .move) (active : r.state = .active) (rest : r.moving = false) (free : r.holdLevel = false)
    (phase : r.phase ≠ .waitSwap) (due : r.due = none) (long : (s.segTo a r.cmd (b.target b.leg) (b.slot.nat 4)).len ≠ 0) :
    s.settle = s.setArm a { r with
      phase := .moving
      moving := true
      seg := s.segTo a r.cmd (b.target b.leg) (b.slot.nat 4) } := by
  have begins : s.beginDue a .stepSix = s.setArm a { r with
      phase := .moving
      moving := true
      seg := s.segTo a r.cmd (b.target b.leg) (b.slot.nat 4) } := by
    show (s.modArm a fun r => { r with due := none }).stepSix a = _
    rw [modArm_eq_setArm, arm]
    unfold State.stepSix State.beginLeg
    simp only [State.arm_setArm_same, exec, kind]
    rw [setPhase_setArm, beginSeg_setArm (by exact long)]
    simp [due]
  refine settle_due (d := .stepSix) quiet (by rw [arm]; exact active) (by rw [arm]; exact rest) (by rw [arm]; exact free) (by rw [arm]) nofun
    begins (settled_iff_quietBut.2 ⟨quietBut_setArm quiet ?_ ?_, ?_⟩)
  · simp only [State.executing, arm, exec]
    rw [bne_iff_ne.2 phase]
    rfl
  · simp
  · rw [State.arm_setArm_same]
    exact (calm_of_moving rfl (by simp [due]) (by simp)).1

theorem legOf_eq {b : Block} (s : State) (a : Arm) : s.legOf a b = s.segTo a (s.arm a).cmd (b.target b.leg) (b.slot.nat 4) := rfl

section
variable {pre post : State} {n : Bool} {r : ArmRec} {v : Vec} {needs : Option Bool}

theorem handsOver_kept (h : s.Releases pre post a n r) (same : pre.releaseTest a n = pre)
    (why : s.holdsGrant a = false ∨ ¬ s.clears a v ∨ n = true) (agree : ∀ m, needs = some m → n = m) :
    post.settle = post ∧ s.handsOver post a v needs r := by
  obtain ⟨holder, last, -, -⟩ := h.zone
  have other : post.arm a.other = r := by rw [h.otherAfter, same, h.other]
  have zone : post.zone = pre.zone := by rw [h.zoneAfter, same]
  refine ⟨settle_of_calm (calm_of_arms h.pending h.own (other ▸ h.otherCalm)), fun _ => ⟨other, by rw [zone, last],
    fun holds out no => ?_, fun _ => by rw [zone, holder]⟩, fun b _ holds => ⟨fun out no => ?_, fun _ => ?_⟩⟩
  · rcases why with free | inside | need
    · rw [State.holdsGrant, holds] at free
      simp at free
    · exact absurd out inside
    · rw [need] at agree
      cases agree _ no
  · rcases why with free | inside | need
    · rw [free] at holds
      cases holds
    · exact absurd out inside
    · rw [need] at agree
      cases agree _ no
  · rw [zone, holder]
    simpa [State.holdsGrant] using holds

theorem handsOver_freed (h : s.Releases pre post a n r) (idle : pre.zone.waits.get a.other = .idle)
    (freed : pre.releaseTest a n = pre.zoneRelease a) (holds : s.holdsGrant a = true) (out : s.clears a v)
    (unneeded : n = false) (agree : ∀ m, needs = some m → n = m) :
    post.settle = post ∧ s.handsOver post a v needs r := by
  obtain ⟨holder, last, -, waits⟩ := h.zone
  rw [State.zoneRelease_idle idle] at freed
  have other : post.arm a.other = r := by
    rw [h.otherAfter, freed]
    exact h.other
  have zone : post.zone = { pre.zone with holder := none } := by rw [h.zoneAfter, freed]
  refine ⟨settle_of_calm (calm_of_arms h.pending h.own (other ▸ h.otherCalm)), fun _ => ⟨other, by rw [zone, ← last],
    fun _ _ _ => by rw [zone], fun kept => ?_⟩, fun b waiting _ => ?_⟩
  · rcases kept with free | inside | need
    · exact absurd (by simpa [State.holdsGrant] using holds) free
    · exact absurd out inside
    · have := agree _ need
      rw [unneeded] at this
      cases this
  · exact absurd (waits.symm.trans idle) waiting.2.2.2.2.2.2.2.1

theorem handsOver_passed (h : s.Releases pre post a n r) (busy : pre.zone.waits.get a.other ≠ .idle)
    (passed : pre.releaseTest a n = pre.zoneRelease a) (holds : s.holdsGrant a = true) (out : s.clears a v)
    (unneeded : n = false) (agree : ∀ m, needs = some m → n = m) {b : Block} (waiting : s.waitsToMove a.other b) (standing : ∃ ax, r = { s.arm a.other with axes := ax }) :
    ∃ r', post.settle = post.setArm a.other r' ∧ s.handsOver (post.setArm a.other r') a v needs r := by
  obtain ⟨active, phase, exec, kind, rest, due, level, asks, long⟩ := waiting
  obtain ⟨ax, rfl⟩ := standing
  rw [State.zoneRelease_waiting busy] at passed
  have other : post.arm a.other = { s.arm a.other with axes := ax, due := some .stepSix } := by
    rw [h.otherAfter, passed, arm_zoneGrant_same, h.other]
  have zone : post.zone = (pre.zoneGrant a.other).zone := by rw [h.zoneAfter, passed]
  have leg : post.segTo a.other (s.arm a.other).cmd (b.target b.leg) (b.slot.nat 4) = s.legOf a.other b := by
    rw [legOf_eq, State.segTo, State.segTo, State.feedOf, State.feedOf, State.armSet, State.armSet, h.settings]
  have quiet : post.quietBut a.other := by
    refine quietBut_of_calm h.pending ?_ ?_
    · rw [Arm.other_other]
      exact h.own
    · rw [other]
      exact fun waits => by simp [phase] at waits
  refine ⟨_, settle_stepSix_move (r := { s.arm a.other with axes := ax }) quiet other exec kind active rest level (by simp [phase]) due (by rw [leg]; exact long),
    fun unasked => ?_, fun b' waiting' _ => ⟨fun _ _ => ?_, fun kept => ?_⟩⟩
  · rw [State.unasked, holds] at unasked
    exact absurd (by simpa using unasked) asks
  · obtain ⟨-, -, exec', -⟩ := waiting'
    rw [exec] at exec'
    injection exec' with same
    subst same
    refine ⟨by rw [State.setArm_zone, zone]; rfl, by rw [State.setArm_zone, zone]; rfl, ?_, ?_⟩
    · rw [State.setArm_zone, zone]
      simp [State.zoneGrant]
    · rw [State.arm_setArm_same, leg]
  · rcases kept with inside | need
    · exact absurd out inside
    · have := agree _ need
      rw [unneeded] at this
      cases this

/-- The release test within an event, the other arm not waiting for the grant or waiting with a MOVE: the immediate work
after it touches the other arm alone. -/
theorem settle_release_beside (h : s.Releases pre post a n r) (cmd : (pre.arm a).cmd = v)
    (agree : ∀ m, needs = some m → n = m) (may : s.unasked a = true ∨ ∃ b, s.waitsToMove a.other b)
    (standing : ∀ b, s.waitsToMove a.other b → ∃ ax, r = { s.arm a.other with axes := ax }) :
    ∃ r', post.settle = post.setArm a.other r' ∧ s.handsOver post.settle a v needs r := by
  have clears := clears_of_sameZone h.zone v
  have holds : pre.holdsGrant a = s.holdsGrant a := by
    rw [State.holdsGrant, State.holdsGrant, h.zone.1]
  have keep (done : post.settle = post ∧ s.handsOver post a v needs r) :
      ∃ r', post.settle = post.setArm a.other r' ∧ s.handsOver post.settle a v needs r :=
    ⟨post.arm a.other, by rw [done.1, State.setArm_arm], by rw [done.1]; exact done.2⟩
  rcases pre.releaseTest_cases a n with ⟨same, why⟩ | ⟨freed, held, out, unneeded⟩
  · rw [cmd, clears, holds] at why
    exact keep (handsOver_kept h same why agree)
  · rw [cmd, clears] at out
    rw [holds] at held
    by_cases idle : pre.zone.waits.get a.other = .idle
    · exact keep (handsOver_freed h idle freed held out unneeded agree)
    · rcases may with unasked | ⟨b, waiting⟩
      · rw [← unasked_of_sameZone h.zone, State.unasked, holds, held] at unasked
        exact absurd (by simpa using unasked) idle
      · obtain ⟨r', settle, handed⟩ := handsOver_passed h idle freed held out unneeded agree waiting (standing b waiting)
        exact ⟨r', settle, settle ▸ handed⟩

theorem settle_release (h : s.Releases pre post a n r) (cmd : (pre.arm a).cmd = v) (agree : ∀ m, needs = some m → n = m)
    (may : s.unasked a = true ∨ ∃ b, s.waitsToMove a.other b) (standing : ∃ ax, r = { s.arm a.other with axes := ax }) :
    ∃ r', post.settle = post.setArm a.other r' ∧ s.handsOver post.settle a v needs r :=
  settle_release_beside h cmd agree may fun _ _ => standing

end

/-! ## The events that make a release test -/

theorem between_ne_active (r : ArmRec) : r.between ≠ .active := by
  unfold ArmRec.between ArmRec.free
  repeat' split
  all_goals decide

section
variable {w : State} {r : ArmRec}

/-- A DONE completion makes the release test (R44). -/
theorem releases_afterDone (zone : s.sameZone w a) (other : w.arm a.other = r) (calm : r.calm)
    (pending : w.corr.swapPending = false) (settings : w.settings = s.settings) :
    s.Releases (w.ended a) (w.afterDone a) a ((w.ended a).nextNeedsZone a) r where
  zone := zone
  other := by rw [State.ended, State.arm_modArm_other, other]
  zoneAfter := zone_afterDone w a
  otherAfter := arm_afterDone_other w a
  own := by
    rw [arm_afterDone_same]
    exact calm_of_not_active (between_ne_active _) nofun
  otherCalm := calm
  pending := (congrArg (fun c => c.corr.swapPending) (core_afterDone w a)).trans pending
  settings := (congrArg Core.settings (core_afterDone w a)).trans settings

/-- A block-level fault makes the release test with no next block (R65, R78). -/
theorem releases_blockFault (f : FaultCode) (zone : s.sameZone w a) (other : w.arm a.other = r) (calm : r.calm)
    (pending : w.corr.swapPending = false) (settings : w.settings = s.settings) :
    s.Releases (w.faulted a f) (w.blockFault a f) a false r where
  zone := by
    obtain ⟨holder, last, boxes, waits⟩ := zone
    obtain ⟨holder', last', boxes', waits'⟩ := sameZone_of_withdraw (s := w) (zone_faulted w a f)
    exact ⟨holder'.trans holder, last'.trans last, boxes'.trans boxes, waits'.trans waits⟩
  other := by rw [arm_faulted_other, other]
  zoneAfter := rfl
  otherAfter := by rw [blockFault_eq, State.arm_modArm_other]
  own := by
    rw [arm_blockFault_same]
    exact calm_of_not_active (between_ne_active _) nofun
  otherCalm := calm
  pending := (congrArg (fun c => c.corr.swapPending) (core_blockFault w a f)).trans pending
  settings := (congrArg Core.settings (core_blockFault w a f)).trans settings

/-- The state of an entry into FAULT before its release test (R64). -/
def State.faulting (s : State) (a : Arm) (f : FaultCode) : State :=
  (s.modArm a fun r => { r with lastFault := some f, state := .fault }).setNotice (faultNotice a)

theorem enterFault_eq (s : State) (a : Arm) (f : FaultCode) :
    s.enterFault a f = ((s.faulting a f).releaseTest a false).applyProbeLost a := rfl

/-- An entry into FAULT makes the release test with no next block (R64, R78). -/
theorem releases_enterFault (f : FaultCode) (zone : s.sameZone w a) (other : w.arm a.other = r) (calm : r.calm)
    (pending : w.corr.swapPending = false) (settings : w.settings = s.settings) (due : (w.arm a).due ≠ some .segEnd) :
    s.Releases (w.faulting a f) (w.enterFault a f) a false r where
  zone := zone
  other := by rw [State.faulting, arm_setNotice, State.arm_modArm_other, other]
  zoneAfter := by rw [enterFault_eq, zone_applyProbeLost]
  otherAfter := by rw [enterFault_eq, arm_applyProbeLost_other]
  own := by
    rw [arm_enterFault_same]
    exact calm_of_not_active nofun due
  otherCalm := calm
  pending := (congrArg (fun c => c.corr.swapPending) (core_enterFault w a f)).trans pending
  settings := (congrArg Core.settings (core_enterFault w a f)).trans settings

end

end

end Sys2Proof.Machine
end


section
/-! PROOF. The blocks that end DONE by their timers, and the stability waits that the history ends (O45, O59). -/

namespace Sys2Proof.Machine

/-! ## The slot and the arm of a block that ends DONE (R44) -/

section
variable {s w : State} {a : Arm}

/-- The words of a slot that does not stand POSTED are kept by what follows a completion. -/
theorem keepsSlot_afterDone {i : Nat} (wf : w.shm.wf = true)
    (taken : field (w.shm.get ((w.lanes.get a).slotBase i)) 0 8 ≠ 1) : w.keepsSlot (w.afterDone a) a i := by
  let u := ((w.ended a).releaseTest a ((w.ended a).nextNeedsZone a)).modArm a fun r => { r with state := r.restState }
  have lanes : u.lanes = w.lanes := by simp [u, State.ended]
  have shm : u.shm = w.shm := by simp [u, State.ended]
  have before : w.keepsSlot u a i := keepsSlot_of_eq shm (by rw [lanes])
  exact before.trans (keepsSlot_fill (by rw [shm]; exact wf) (by rw [shm, lanes]; exact taken))

theorem slotSays_afterDone {c : SlotCopy} {st info : Nat} {tick : Word} (wf : w.shm.wf = true) (low : st < 256)
    (other : st ≠ 1) (told : w.slotSays a c st info tick) : (w.afterDone a).slotSays a c st info tick :=
  (keepsSlot_afterDone wf (by rw [slotSays_state low told]; exact other)).slotSays told

/-- The header of the slot of a block that ends DONE (R44, R159). -/
theorem slotSays_completeDone {b : Block} (exec : (s.arm a).exec = some b) (wf : s.shm.wf = true)
    (fits : (s.lanes.get a).slotBase b.slot.index + 32 ≤ 65536) (x : Status) :
    (s.completeDone a x).slotSays a b.slot slotDone (x.code + b.flags.bits) s.tickNo := by
  have written := slotSays_writeExec exec wf fits slotDone x none
  rw [show faultCodeOf none = 0 from rfl, Nat.zero_mul, Nat.add_zero] at written
  exact slotSays_afterDone (wf_writeExec wf _ _ _) (by decide) (by decide) written

theorem arm_completeDone_same (s : State) (a : Arm) (x : Status) : (s.completeDone a x).arm a = { (s.arm a).emptied with
    state := (s.arm a).between
    queue := ((s.completeDone a x).arm a).queue } := by
  rw [State.completeDone, arm_afterDone_same, arm_writeExec]

/-- A DONE completion of the executing block makes the release test (R44). -/
theorem releases_completeDone {r : ArmRec} (x : Status) (zone : s.sameZone w a) (other : w.arm a.other = r) (calm : r.calm)
    (pending : w.corr.swapPending = false) (settings : w.settings = s.settings) :
    s.Releases ((w.writeExec a slotDone x none).ended a) (w.completeDone a x) a
      (((w.writeExec a slotDone x none).ended a).nextNeedsZone a) r := by
  refine releases_afterDone ?_ (by rw [arm_writeExec, other]) calm ?_ ?_
  · unfold State.sameZone at zone ⊢
    rw [zone_writeExec]
    exact zone
  · exact (congrArg (fun c => c.corr.swapPending) (core_writeExec ..)).trans pending
  · exact (congrArg Core.settings (core_writeExec ..)).trans settings

/-- What a DONE completion leaves where the other arm does not wait for the grant: nothing is left to do. -/
theorem calm_completeDone (calm : s.calm = true) (unasked : s.unasked a = true) (x : Status) :
    (s.completeDone a x).calm = true ∧ (s.completeDone a x).arm a.other = s.arm a.other := by
  have releases := releases_completeDone x (sameZone_of_eq (s := s) (a := a) rfl) rfl (armCalm_of_calm calm _)
    (swapPending_of_calm calm) rfl
  have other : (s.completeDone a x).arm a.other = s.arm a.other := by
    rw [releases.otherAfter, arm_releaseTest_other ((unasked_of_sameZone releases.zone).trans unasked), releases.other]
  exact ⟨calm_of_arms releases.pending releases.own (other ▸ armCalm_of_calm calm _), other⟩

theorem settle_completeDone (calm : s.calm = true) (unasked : s.unasked a = true) (x : Status) :
    (s.completeDone a x).settle = s.completeDone a x := settle_of_calm (calm_completeDone calm unasked x).1

/-- What a block-level fault leaves where the other arm does not wait for the grant: nothing is left to do. -/
theorem settle_blockFault (calm : s.calm = true) (unasked : s.unasked a = true) (f : FaultCode) :
    (s.blockFault a f).settle = s.blockFault a f := by
  have releases := releases_blockFault f (sameZone_of_eq (s := s) (a := a) rfl) rfl (armCalm_of_calm calm _)
    (swapPending_of_calm calm) rfl
  refine settle_of_calm (calm_of_arms releases.pending releases.own ?_)
  rw [arm_blockFault_other unasked]
  exact armCalm_of_calm calm _

end

/-! ## The history (R36, R37) -/

theorem foldl_max_le_iff {x : Int} {xs : List Int} {b : Int} : xs.foldl max x ≤ b ↔ x ≤ b ∧ ∀ y ∈ xs, y ≤ b := by
  induction xs generalizing x with
  | nil => simp
  | cons y ys ih => simp [ih, and_assoc]

theorem le_foldl_min_iff {x : Int} {xs : List Int} {b : Int} : b ≤ xs.foldl min x ↔ b ≤ x ∧ ∀ y ∈ xs, b ≤ y := by
  induction xs generalizing x with
  | nil => simp
  | cons y ys ih => simp [ih, and_assoc]

/-- A group is stable within a band where its ring is full and no two of its entries lie further apart (R37). -/
theorem stable_iff (g : Group) (band : Nat) : g.stable band = true ↔
    g.ring.length = 16 ∧ ∀ x ∈ g.ring, ∀ y ∈ g.ring, x - y ≤ band := by
  unfold Group.stable Group.spread
  rw [Bool.and_eq_true, beq_iff_eq, decide_eq_true_iff]
  refine and_congr_right fun full => ?_
  cases ring : g.ring with
  | nil => simp [ring] at full
  | cons z zs =>
    have largest : zs.foldl max z - zs.foldl min z ≤ band ↔ zs.foldl max z ≤ band + zs.foldl min z := by omega
    have below (x : Int) : x ≤ band + zs.foldl min z ↔ ∀ y ∈ z :: zs, x - y ≤ band := by
      rw [show x ≤ band + zs.foldl min z ↔ x - band ≤ zs.foldl min z by omega, le_foldl_min_iff, List.forall_mem_cons]
      refine and_congr (by omega) (forall₂_congr fun y _ => by omega)
    rw [largest, foldl_max_le_iff, ← List.forall_mem_cons (p := fun x => x ≤ band + zs.foldl min z)]
    exact forall₂_congr fun x _ => below x

/-- The ring of a group after an expiry of the history interval (R36). -/
theorem record_kept {g : Group} {p : GroupPub} (state : p.state = .valid ∨ p.state = .empty) (short : g.ring.length ≤ 16) :
    g.record p = { g with ring := (if g.ring.length = 16 then g.ring.tail else g.ring) ++ [p.temp] } := by
  have ring : (if g.ring.length < 16 then g.ring else g.ring.drop (g.ring.length - 15)) =
      if g.ring.length = 16 then g.ring.tail else g.ring := by
    by_cases full : g.ring.length = 16
    · rw [if_neg (by omega), if_pos full, full, List.drop_one]
    · rw [if_pos (by omega), if_neg full]
  rw [← ring]
  rcases state with e | e <;> simp [Group.record, e]

theorem record_emptied {g : Group} {p : GroupPub} (valid : p.state ≠ .valid) (empty : p.state ≠ .empty) :
    g.record p = { g with ring := [] } := by
  unfold Group.record
  cases e : p.state
  case valid => exact absurd e valid
  case empty => exact absurd e empty
  all_goals rfl

theorem getElem_zipTables {α β γ : Type} {n : Nat} (f : α → β → γ) (v : Vector α n) (w : Vector β n) (i : Fin n) :
    (zipTables f v w)[i] = f v[i] w[i] := by
  have entry : (List.zipWith f v.toList w.toList)[i.val]'(by simp) = f v[i] w[i] := by simp
  exact entry

theorem stableNow_iff (s : State) (c : SlotCopy) : s.stableNow c = true ↔ ∃ i : Fin 10, c.nat 4 = i.val ∧
    s.therm.groups[i].ring.length = 16 ∧
      ∀ x ∈ s.therm.groups[i].ring, ∀ y ∈ s.therm.groups[i].ring, x - y ≤ c.nat 5 := by
  unfold State.stableNow
  constructor
  · intro stable
    cases index : index? 10 (c.nat 4) with
    | none => simp [index] at stable
    | some g =>
      rw [index] at stable
      exact ⟨g, (index?_eq_some index).symm, (stable_iff _ _).1 stable⟩
  · rintro ⟨i, index, stable⟩
    rw [index?_of_eq i index]
    exact (stable_iff _ _).2 stable

section
variable {s : State} {a : Arm}

/-- The arm's WAIT_STABLE is met. -/
def State.stabilityMet (s : State) (a : Arm) : Prop :=
  (s.arm a).phase = .waitingStable ∧ ∃ b, (s.arm a).exec = some b ∧ s.stableNow b.slot = true

theorem stabilityReport_met (met : s.stabilityMet a) : s.stabilityReport a = (s.completeDone a .ok).settle := by
  obtain ⟨phase, b, exec, stable⟩ := met
  simp [State.stabilityReport, exec, phase, stable]

theorem stabilityReport_not (other : ¬ s.stabilityMet a) : s.stabilityReport a = s := by
  unfold State.stabilityReport
  cases exec : (s.arm a).exec with
  | none => rfl
  | some b => exact if_neg fun ⟨phase, stable⟩ => other ⟨phase, b, exec, stable⟩

/-- A completion that finds the grant with no arm leaves the zone as it is. -/
theorem zone_completeDone_free (unheld : s.zone.holder = none) (x : Status) : (s.completeDone a x).zone = s.zone := by
  have zone : ((s.writeExec a slotDone x none).ended a).zone = s.zone := by simp [State.ended]
  rw [State.completeDone, zone_afterDone]
  simp [State.releaseTest, State.holdsGrant, zone, unheld]

theorem stabilityMet_completeDone_other (calm : s.calm = true) (unasked : s.unasked a = true) (x : Status) :
    (s.completeDone a x).stabilityMet a.other ↔ s.stabilityMet a.other := by
  have therm : (s.completeDone a x).therm = s.therm := congrArg Core.therm (core_completeDone ..)
  unfold State.stabilityMet
  rw [(calm_completeDone calm unasked x).2]
  simp only [State.stableNow, therm]

end

/-- Settles O59: the rings one by one; then the report to the first arm and to the second. -/
theorem historyRecordsRings : Obligations.HistoryRecordsRings := by
  intro s first timer
  let u : State := { s with therm := s.therm.recorded }
  refine ⟨s.therm.recorded.groups, fun i => ⟨fun state short => ?_, fun valid empty => ?_⟩, ?_⟩
  · exact (getElem_zipTables ..).trans (record_kept state short)
  · exact (getElem_zipTables ..).trans (record_emptied valid empty)
  have run : exec (.historyExpiry first) s = .next ((u.stabilityReport first).stabilityReport first.other) :=
    congrArg Host.Outcome.next (if_neg timer)
  intro u' ready
  have same : u' = u := rfl
  rw [same]
  have met (a : Arm) : u.stabilityMet a ↔ ready a := by
    unfold State.stabilityMet
    simp only [stableNow_iff]
    constructor
    · rintro ⟨phase, b, exec, i, index, full, near⟩
      exact ⟨phase, b, i, exec, index, full, near⟩
    · rintro ⟨phase, b, i, exec, index, full, near⟩
      exact ⟨phase, b, exec, i, index, full, near⟩
  have unasked (t : State) (zone : t.zone.holder = none) (a : Arm) : t.unasked a = true :=
    unasked_of_unheld (by rw [zone]; nofun)
  refine ⟨fun none => ?_, fun calm unheld => ?_⟩
  · rw [run, stabilityReport_not (mt (met _).1 (none _)), stabilityReport_not (mt (met _).1 (none _))]
  have calm : u.calm = true := calm_of_arms (t := u) (a := first) (swapPending_of_calm (s := s) calm)
    (armCalm_of_calm calm _) (armCalm_of_calm calm _)
  have report {a : Arm} (h : ready a) : u.stabilityReport a = u.completeDone a .ok := by
    rw [stabilityReport_met ((met a).2 h), settle_completeDone calm (unasked u unheld a)]
  have next (a : Arm) := stabilityMet_completeDone_other calm (unasked u unheld a) .ok
  refine ⟨fun a own other => ?_, fun all => ?_⟩
  · rcases a.eq_or_other first with rfl | rfl
    · rw [run, report own, stabilityReport_not (mt (next _).1 (mt (met _).1 other))]
    · rw [run, stabilityReport_not (mt (met _).1 other), Arm.other_other, report own]
  · have second := zone_completeDone_free (a := first) (x := .ok) (show u.zone.holder = none from unheld)
    rw [run, report (all first), stabilityReport_met ((next first).2 ((met _).2 (all _))),
      settle_completeDone (calm_completeDone calm (unasked u unheld first) .ok).1 (unasked _ (by rw [second]; exact unheld) _)]

end Sys2Proof.Machine
end


section
/-! SUPPORT. The block start (R45 to R47): what the checks look at, the taken head, and the way to the kind's work.
PROOF. The kinds that wait or complete at once (O36, O37, O38, O42). -/

namespace Sys2Proof.Machine

/-! ## What the checks and the conversions of a block look at -/

/-- Two states are the same in what the checks and the conversion of an arm's block look at (R14, R45, R46, R71). -/
structure State.SameChecks (s t : State) (a : Arm) : Prop where
  settings : t.settings = s.settings
  corr : t.corr = s.corr
  therm : t.therm = s.therm
  tables : t.tables = s.tables
  latches : t.latches = s.latches
  pins : t.pins = s.pins
  boxes : t.zone.boxes = s.zone.boxes
  referenced : (t.arm a).referenced = (s.arm a).referenced
  mounted : (t.arm a).mounted = (s.arm a).mounted
  offset : (t.arm a).frameOffset = (s.arm a).frameOffset
  cmd : (t.arm a).cmd = (s.arm a).cmd

section
variable {s t : State} {a : Arm}

theorem stepOne_congr (h : s.SameChecks t a) (c : SlotCopy) : t.stepOne a c = s.stepOne a c := by
  simp only [State.stepOne, State.fieldsOk, State.qualifyPositionsOk, State.mountedProbe, State.armSet, h.settings, h.mounted,
    h.tables]

theorem stepTwo_congr (h : s.SameChecks t a) (b : Block) : t.stepTwo a b = s.stepTwo a b := by
  simp only [State.stepTwo, State.commonCheck, State.kindGate, State.latchCheck, State.captureUnitCheck, State.unitCheck,
    State.trigCheck, State.changeGate, State.fetchHalf, State.stowHalf, State.coverCheck, h.referenced, h.mounted, h.tables,
    h.latches, h.pins]

theorem convert_congr (h : s.SameChecks t a) (b : Block) : t.convert a b = s.convert a b := by
  simp only [State.convert, State.chain, State.group, State.mountedProbe, State.armSet, h.settings, h.mounted, h.tables,
    h.corr, h.therm, h.offset]

theorem bind_congr (h : s.SameChecks t a) (b : Block) : t.bind a b = s.bind a b := by
  simp only [State.bind, convert_congr h, State.armSet, h.settings, h.mounted]
  rfl

theorem sweepMeets_congr (h : s.SameChecks t a) (v : Vec) (l : List Vec) : t.sweepMeets a v l = s.sweepMeets a v l := by
  simp only [State.sweepMeets, State.zoneBox, h.boxes]

theorem blockNeedsZone_congr (h : s.SameChecks t a) (v : Vec) (b : Block) :
    t.blockNeedsZone a v b = s.blockNeedsZone a v b := by
  simp only [State.blockNeedsZone, sweepMeets_congr h]

end

/-! ## The boundary and the taken head (R45) -/

section
variable {s : State} {a : Arm} {c : SlotCopy}

/-- An arm at a block boundary with `c` at the head of its queue. -/
structure State.AtBoundary (s : State) (a : Arm) (c : SlotCopy) : Prop where
  calm : s.calm = true
  run : s.device = .run
  state : (s.arm a).state = .idle ∨ (s.arm a).state = .unreferenced
  exec : (s.arm a).exec = none
  committed : (s.arm a).committed = none
  head : (s.arm a).queue.head? = some c
  rest : (s.arm a).moving = false
  due : (s.arm a).due = none
  level : (s.arm a).holdLevel = false

theorem atBoundary_of (h : s.boundary a c = true) : s.AtBoundary a c := by
  simp only [State.boundary, Bool.and_eq_true, Bool.or_eq_true, beq_iff_eq, Bool.not_eq_true'] at h
  obtain ⟨⟨⟨⟨⟨⟨⟨⟨calm, run⟩, state⟩, exec⟩, committed⟩, head⟩, rest⟩, due⟩, level⟩ := h
  exact ⟨calm, run, state, exec, committed, head, rest, due, level⟩

/-- At a boundary the command of the head's kind starts the head. -/
theorem startKind_boundary (h : s.AtBoundary a c) {k : Option Kind} (kind : c.kind = k) :
    s.startKind a k = s.startHead a c := by
  have head : s.startable a = some c := by
    rw [← h.head]
    exact if_pos ⟨h.run, h.exec, h.committed, h.state⟩
  simp [State.startKind, head, kind]

/-- The command of a kind is the start of a head of that kind. -/
theorem exec_startCommand (a : Arm) (k : Option Kind) : exec (startCommand a k) s = .next (s.startKind a k) := by
  cases k with
  | none => rfl
  | some k => cases k <;> rfl

/-- The arm once its head is taken (R42, R45). -/
theorem arm_takeHead (s : State) (a : Arm) (c : SlotCopy) : (s.takeHead a c).arm a = { s.arm a with
    queue := ((s.takeHead a c).arm a).queue
    exec := some (Block.fresh c)
    state := .active
    phase := .startCheck } := by
  unfold State.takeHead
  rw [arm_fill_same, State.arm_modArm_same]

@[simp] theorem arm_takeHead_other (s : State) (a : Arm) (c : SlotCopy) :
    (s.takeHead a c).arm a.other = s.arm a.other := by
  simp [State.takeHead]

@[simp] theorem zone_takeHead (s : State) (a : Arm) (c : SlotCopy) : (s.takeHead a c).zone = s.zone := by
  simp [State.takeHead]

@[simp] theorem latches_takeHead (s : State) (a : Arm) (c : SlotCopy) : (s.takeHead a c).latches = s.latches := by
  simp [State.takeHead]

@[simp] theorem tables_takeHead (s : State) (a : Arm) (c : SlotCopy) : (s.takeHead a c).tables = s.tables := by
  simp [State.takeHead]

theorem sameChecks_takeHead (s : State) (a : Arm) (c : SlotCopy) : s.SameChecks (s.takeHead a c) a where
  settings := congrArg Core.settings (core_takeHead ..)
  corr := congrArg Core.corr (core_takeHead ..)
  therm := congrArg Core.therm (core_takeHead ..)
  pins := congrArg Core.pins (core_takeHead ..)
  tables := tables_takeHead ..
  latches := latches_takeHead ..
  boxes := by rw [zone_takeHead]
  referenced := by rw [arm_takeHead]
  mounted := by rw [arm_takeHead]
  offset := by rw [arm_takeHead]
  cmd := by rw [arm_takeHead]

/-- Step 1 passes (R45). -/
theorem stepOne_ok {k : Kind} {f : Frame} (kind : c.kind = some k)
    (frame : resolveFrame (s.armSet a).frame k c.selector = some f) (fields : s.fieldsOk a c k = true)
    (locked : ¬ (k = .setFrame ∧ f = .part)) : s.stepOne a c = .ok { Block.fresh c with frame := f } := by
  simp [State.stepOne, kind, frame, fields, locked]

/-- Step 2 of a kind with no checks of its own (R46). -/
theorem stepTwo_plain {k : Kind} {f : Frame} (kind : c.kind = some k) (common : s.commonCheck a k f = none)
    (own : s.kindGate a (s.startedBlock a c f) k = .go (s.startedBlock a c f)) :
    s.stepTwo a { Block.fresh c with frame := f } = .go (s.startedBlock a c f) := by
  have kind : (Block.fresh c).slot.kind = some k := kind
  simp only [State.stepTwo, kind, common]
  exact own

/-- A head that steps 1 and 2 pass goes on from its swap check (R47). -/
theorem startHead_go (h : s.AtBoundary a c) {b b2 : Block} (one : s.stepOne a c = .ok b) (two : s.stepTwo a b = .go b2) :
    s.startHead a c = (((s.takeHead a c).setArm a { (s.takeHead a c).arm a with exec := some b2 }).passSwap a).settle := by
  have pending : s.corr.swapPending = false := swapPending_of_calm h.calm
  have same := sameChecks_takeHead s a c
  have corr : ((s.takeHead a c).modExec a fun _ => b2).corr.swapPending = false := by
    rw [State.modExec_corr, same.corr, pending]
  unfold State.startHead State.startSequence
  rw [stepOne_congr same, one]
  dsimp only
  rw [stepTwo_congr same, two]
  dsimp only
  rw [State.swapCheck, corr]
  have taken : (s.takeHead a c).modExec a (fun _ => b2) =
      (s.takeHead a c).setArm a { (s.takeHead a c).arm a with exec := some b2 } := by
    rw [State.modExec, modArm_eq_setArm, arm_takeHead]
    rfl
  rw [← taken]
  rfl

/-- The arm record of a head that has been taken and stands in START_CHECK with its block (R47). -/
def State.taken (s : State) (a : Arm) (c : SlotCopy) (b : Block) : ArmRec :=
  { (s.takeHead a c).arm a with exec := some b }

section
variable {b : Block}

theorem taken_eq (s : State) (a : Arm) (c : SlotCopy) (b : Block) : s.taken a c b = { s.arm a with
    queue := (s.taken a c b).queue
    exec := some b
    state := .active
    phase := .startCheck } := by
  unfold State.taken
  rw [arm_takeHead]

/-- The arm with its head taken executes its block at rest, with nothing due and its hold level clear. -/
theorem taken_standing (h : s.AtBoundary a c) : (s.taken a c b).state = .active ∧ (s.taken a c b).phase = .startCheck ∧
    (s.taken a c b).moving = false ∧ (s.taken a c b).due = none ∧ (s.taken a c b).holdLevel = false ∧
      (s.taken a c b).exec = some b := by
  rw [taken_eq]
  exact ⟨rfl, rfl, h.rest, h.due, h.level, rfl⟩

/-- Nothing but the work of the arm whose head is taken can be left, as long as it does not wait for a swap. -/
theorem quietBut_takeHead (h : s.AtBoundary a c) {r : ArmRec} (phase : r.phase ≠ .waitSwap) :
    ((s.takeHead a c).setArm a r).quietBut a := by
  refine quietBut_of_calm ?_ ?_ ?_
  · rw [State.setArm_corr, (sameChecks_takeHead s a c).corr]
    exact swapPending_of_calm h.calm
  · rw [State.arm_setArm_other, arm_takeHead_other]
    exact armCalm_of_calm h.calm _
  · rw [State.arm_setArm_same]
    exact fun waits => phase waits.2

theorem calm_takeHead (h : s.AtBoundary a c) {r : ArmRec} (own : r.calm) : ((s.takeHead a c).setArm a r).calm = true := by
  refine calm_of_arms ?_ (by rwa [State.arm_setArm_same]) ?_
  · rw [State.setArm_corr, (sameChecks_takeHead s a c).corr]
    exact swapPending_of_calm h.calm
  · rw [State.arm_setArm_other, arm_takeHead_other]
    exact armCalm_of_calm h.calm _

theorem unasked_takeHead (r : ArmRec) : ((s.takeHead a c).setArm a r).unasked a = s.unasked a :=
  unasked_of_sameZone (sameZone_of_eq (by rw [State.setArm_zone, zone_takeHead]))

/-- A block whose swap check passes goes to step 6 at once where its kind asks for no zone and binds nothing (R47). -/
theorem passSwap_toStepSix {r : ArmRec} (exec : r.exec = some b) (phase : r.phase = .startCheck)
    (kind : b.slot.kind = some .dwell ∨ b.slot.kind = some .waitStable ∨ b.slot.kind = some .identify) :
    (s.setArm a r).passSwap a = s.setArm a { r with due := some .stepSix } := by
  have due : ((s.setArm a r).setPhase a .startCheck).setDue a .stepSix = s.setArm a { r with due := some .stepSix } := by
    rw [setPhase_setArm, setDue_setArm, ← phase]
  unfold State.passSwap
  rw [State.arm_setArm_same, exec]
  rcases kind with e | e | e <;> simp only [e, due, exec]

/-- Step 6 is the only immediate work of a taken head for which it is due. -/
theorem settle_stepSix (h : s.AtBoundary a c) {t : State}
    (work : ((s.takeHead a c).setArm a (s.taken a c b)).stepSix a = t) (done : t.settled = true) :
    ((s.takeHead a c).setArm a { s.taken a c b with due := some .stepSix }).settle = t := by
  obtain ⟨active, phase, rest, due, level, -⟩ := taken_standing (b := b) h
  refine settle_due (d := .stepSix) (quietBut_takeHead h ?_) ?_ ?_ ?_ ?_ nofun ?_ done
  · simp [phase]
  · simp [active]
  · simp [rest]
  · simp [level]
  · simp
  · rw [← work]
    show (State.modArm _ a fun r => { r with due := none }).stepSix a = _
    rw [modArm_setArm]
    simp only [← due]

/-- A head of a kind that asks for no zone and binds nothing begins its step 6 (R47). -/
theorem exec_start_stepSix (h : s.AtBoundary a c) {k : Kind} (kind : c.kind = some k)
    (plain : k = .dwell ∨ k = .waitStable ∨ k = .identify) {b2 : Block} (slot : b2.slot = c)
    (one : s.stepOne a c = .ok b) (two : s.stepTwo a b = .go b2) {t : State}
    (work : ((s.takeHead a c).setArm a (s.taken a c b2)).stepSix a = t) (done : t.settled = true) :
    exec (startCommand a (some k)) s = .next t := by
  rw [exec_startCommand, startKind_boundary h kind, startHead_go h one two]
  have pass : ((s.takeHead a c).setArm a (s.taken a c b2)).passSwap a =
      (s.takeHead a c).setArm a { s.taken a c b2 with due := some .stepSix } := by
    refine passSwap_toStepSix (b := b2) rfl (by rw [taken_eq]) ?_
    rw [slot, kind]
    rcases plain with rfl | rfl | rfl <;> simp
  rw [show ((s.takeHead a c).setArm a { (s.takeHead a c).arm a with exec := some b2 }).passSwap a = _ from pass]
  exact congrArg Host.Outcome.next (settle_stepSix h work done)

end

end

/-! ## DWELL, WAIT_STABLE and IDENTIFY -/

section
variable {s : State} {a : Arm} {c : SlotCopy} {b : Block} {r : ArmRec}

theorem stepSix_dwell (exec : r.exec = some b) (kind : b.slot.kind = some .dwell) : (s.setArm a r).stepSix a =
    if b.slot.nat 4 = 0 then (s.setArm a { r with phase := .dwelling }).completeDone a .ok
    else s.setArm a { r with phase := .dwelling, dwellTimer := some (b.slot.nat 4) } := by
  unfold State.stepSix State.beginDwell
  simp only [State.arm_setArm_same, exec, kind]
  rw [setPhase_setArm, modArm_setArm, exec]

theorem stepSix_waitStable (exec : r.exec = some b) (kind : b.slot.kind = some .waitStable) : (s.setArm a r).stepSix a =
    if s.stableNow b.slot then (s.setArm a { r with phase := .waitingStable }).completeDone a .ok
    else if b.slot.nat 6 = 0 then (s.setArm a { r with phase := .waitingStable }).completeDone a .unstable
    else s.setArm a { r with phase := .waitingStable, stableTimer := some (b.slot.nat 6) } := by
  unfold State.stepSix State.beginWaitStable
  simp only [State.arm_setArm_same, exec, kind]
  rw [setPhase_setArm, modArm_setArm, exec]
  rfl

theorem stepSix_identify (exec : r.exec = some b) (kind : b.slot.kind = some .identify) : (s.setArm a r).stepSix a =
    (s.setArm a { r with phase := .identifying }).beginLink a .readId := by
  unfold State.stepSix
  simp only [State.arm_setArm_same, exec, kind]
  rw [setPhase_setArm, exec]

/-- A taken head that stands at rest in a phase with nothing due, its hold level clear, leaves no work. -/
theorem settled_waiting (h : s.AtBoundary a c) (due : r.due = none) (level : r.holdLevel = false)
    (phase : r.phase ≠ .waitSwap) : ((s.takeHead a c).setArm a r).settled = true :=
  settled_of_calm (calm_takeHead h (calm_of_resting (.inl due) level phase))

/-- A taken head that completes at once where the other arm does not wait for the grant leaves no work. -/
theorem settled_completing (h : s.AtBoundary a c) (unasked : s.unasked a = true) (due : r.due = none)
    (level : r.holdLevel = false) (phase : r.phase ≠ .waitSwap) (x : Status) :
    (((s.takeHead a c).setArm a r).completeDone a x).settled = true :=
  settled_of_calm (calm_completeDone (calm_takeHead h (calm_of_resting (.inl due) level phase))
    ((unasked_takeHead r).trans unasked) x).1

end

/-- Settles O36: the wait begins, or the block completes in the same step. -/
theorem waitsBeginOrCompleteAtOnce : Obligations.WaitsBeginOrCompleteAtOnce := by
  intro s a c f boundary
  have h := atBoundary_of boundary
  obtain ⟨-, -, -, due, level, exec⟩ := taken_standing (b := s.startedBlock a c f) h
  refine ⟨fun kind frame low => ?_, fun kind frame group band timeout => ?_⟩
  · have one : s.stepOne a c = .ok { Block.fresh c with frame := f } :=
      stepOne_ok kind frame (by simpa [State.fieldsOk] using low) nofun
    have two := stepTwo_plain (s := s) (a := a) (f := f) kind rfl rfl
    have start {t : State} (work : ((s.takeHead a c).setArm a (s.taken a c (s.startedBlock a c f))).stepSix a = t)
        (done : t.settled = true) : Machine.exec (.dwell a) s = .next t :=
      exec_start_stepSix h kind (.inl rfl) rfl one two work done
    refine ⟨fun time => start ?_ ?_, fun zero unasked => start ?_ ?_⟩
    · exact (stepSix_dwell exec kind).trans (if_neg time)
    · exact settled_waiting h due level nofun
    · exact (stepSix_dwell exec kind).trans (if_pos zero)
    · exact settled_completing (r := { s.taken a c (s.startedBlock a c f) with phase := .dwelling }) h unasked due level
        nofun .ok
  · have one : s.stepOne a c = .ok { Block.fresh c with frame := f } :=
      stepOne_ok kind frame (by simp [State.fieldsOk, group, band, timeout]) nofun
    have two := stepTwo_plain (s := s) (a := a) (f := f) kind rfl rfl
    have start {t : State} (work : ((s.takeHead a c).setArm a (s.taken a c (s.startedBlock a c f))).stepSix a = t)
        (done : t.settled = true) : Machine.exec (.waitStable a) s = .next t :=
      exec_start_stepSix h kind (.inr (.inl rfl)) rfl one two work done
    have stable : (s.takeHead a c).stableNow c = s.stableNow c := by
      simp only [State.stableNow, (sameChecks_takeHead s a c).therm]
    have work := stepSix_waitStable (s := s.takeHead a c) (a := a) exec kind
    rw [show (s.startedBlock a c f).slot = c from rfl, stable] at work
    refine ⟨fun unstable time => start (work.trans ?_) ?_, fun met unasked => start (work.trans ?_) ?_,
      fun unstable zero unasked => start (work.trans ?_) ?_⟩
    · rw [if_neg (by simp [unstable]), if_neg time]
      rfl
    · exact settled_waiting h due level nofun
    · rw [if_pos met]
      rfl
    · exact settled_completing (r := { s.taken a c (s.startedBlock a c f) with phase := .waitingStable }) h unasked due level
        nofun .ok
    · rw [if_neg (by simp [unstable]), if_pos zero]
      rfl
    · exact settled_completing (r := { s.taken a c (s.startedBlock a c f) with phase := .waitingStable }) h unasked due level
        nofun .unstable

/-- Settles O42: the head is taken and its transaction begins. -/
theorem identifyBeginsReadId : Obligations.IdentifyBeginsReadId := by
  intro s a c boundary kind valid mounted
  have h := atBoundary_of boundary
  obtain ⟨-, -, -, due, level, exec⟩ := taken_standing (b := s.startedBlock a c .machine) h
  have one : s.stepOne a c = .ok { Block.fresh c with frame := .machine } :=
    stepOne_ok kind (by simp [resolveFrame, valid]) rfl nofun
  have two := stepTwo_plain (s := s) (a := a) (f := .machine) kind rfl (if_neg mounted)
  refine exec_start_stepSix (k := .identify) h kind (.inr (.inr rfl)) rfl one two ?_ (settled_waiting h due level nofun)
  rw [stepSix_identify exec kind]
  exact modArm_setArm _ _ _ _

end Sys2Proof.Machine
end


section
/-! PROOF. The kinds that complete in their block start: SET_FRAME and SET_LATCH (O37, O38). -/

namespace Sys2Proof.Machine

section
variable {s w : State} {a : Arm} {c : SlotCopy} {b : Block} {r : ArmRec}

theorem completeWith_some (exec : (w.arm a).exec = some b) (ws : List Word) :
    w.completeWith a ws = (w.writeBlock a b slotDone .ok none ws).afterDone a := by
  simp [State.completeWith, exec]

/-- What a completion with given result words leaves where the other arm does not wait for the grant. -/
theorem settled_completeWith (calm : w.calm = true) (unasked : w.unasked a = true) (exec : (w.arm a).exec = some b)
    (ws : List Word) : (w.completeWith a ws).settled = true := by
  have releases := releases_afterDone (s := w) (w := w.writeBlock a b slotDone .ok none ws) (sameZone_of_eq (a := a) rfl) rfl
    (armCalm_of_calm calm _) (swapPending_of_calm (s := w) calm) rfl
  rw [completeWith_some exec]
  refine settled_of_calm (calm_of_arms releases.pending releases.own ?_)
  rw [releases.otherAfter, arm_releaseTest_other ((unasked_of_sameZone releases.zone).trans unasked), releases.other]
  exact armCalm_of_calm calm _

/-- A block that is complete past its swap check (R47). -/
theorem exec_start_completing (h : s.AtBoundary a c) {k : Kind} (kind : c.kind = some k) {b2 : Block}
    (one : s.stepOne a c = .ok b) (two : s.stepTwo a b = .go b2) {t : State}
    (work : ((s.takeHead a c).setArm a (s.taken a c b2)).passSwap a = t) (done : t.settled = true) :
    exec (startCommand a (some k)) s = .next t := by
  rw [exec_startCommand, startKind_boundary h kind, startHead_go h one two]
  exact congrArg Host.Outcome.next ((congrArg State.settle work).trans (settle_of_settled done))

theorem passSwap_setFrame (exec : r.exec = some b) (phase : r.phase = .startCheck) (kind : b.slot.kind = some .setFrame) :
    (s.setArm a r).passSwap a =
      (s.setArm a { r with frameOffset := b.slot.vec 4 }).completeWith a (vecWords r.frameOffset) := by
  have stands : (s.setArm a r).setPhase a .startCheck = s.setArm a r := by rw [setPhase_setArm, ← phase]
  unfold State.passSwap State.applyFrame
  simp only [State.arm_setArm_same, exec, kind, stands]
  rw [modArm_setArm, exec]

end

/-- Settles O37: the head is taken, the offset replaced, and the block completes with the previous one. -/
theorem setFrameReplacesOffset : Obligations.SetFrameReplacesOffset := by
  intro s a c boundary unasked kind frame inside
  have h := atBoundary_of boundary
  obtain ⟨-, phase, -, due, level, exec⟩ := taken_standing (b := s.startedBlock a c .machine) h
  have one : s.stepOne a c = .ok { Block.fresh c with frame := .machine } :=
    stepOne_ok kind frame (by simpa [State.fieldsOk] using inside) (by simp)
  have two := stepTwo_plain (s := s) (a := a) (f := .machine) kind rfl rfl
  have previous : (s.taken a c (s.startedBlock a c .machine)).frameOffset = (s.arm a).frameOffset := by rw [taken_eq]
  refine exec_start_completing (k := .setFrame) h kind one two ?_ ?_
  · rw [passSwap_setFrame exec phase kind, previous]
    rfl
  · exact settled_completeWith (calm_takeHead (r := { s.taken a c (s.startedBlock a c .machine) with
      frameOffset := ⟨c.int 4, c.int 5, c.int 6⟩ }) h (calm_of_resting (.inl due) level (by simp [phase])))
      ((unasked_takeHead _).trans unasked) (by rw [State.arm_setArm_same]; exact exec) _

section
variable {s : State} {a : Arm} {c : SlotCopy} {b : Block} {r : ArmRec}

theorem passSwap_setLatch {u : Fin 16} {act : LatchAction} (exec : r.exec = some b) (phase : r.phase = .startCheck)
    (kind : b.slot.kind = some .setLatch) (check : s.latchCheck a b.slot = none) (index : b.slot.nat 4 = u.val)
    (action : latchAction? (b.slot.nat 5) = some act) : (s.setArm a r).passSwap a =
      ((s.setArm a r).setUnit u ((s.setArm a r).latchAfter a b.slot u act)).completeWith a
        ((s.setArm a r).latchAfter a b.slot u act).words := by
  have stands : (s.setArm a r).setPhase a .startCheck = s.setArm a r := by rw [setPhase_setArm, ← phase]
  have check : (s.setArm a r).latchCheck a b.slot = none := check
  unfold State.passSwap State.applyLatch
  simp only [State.arm_setArm_same, exec, kind, stands, check, index?_of_eq u index, action]
  congr 2
  simp [State.setUnit]

theorem counts_get (s : State) (a : Arm) (x : Axis) : (s.counts a).get x = ((s.arm a).axes.get x).count := get_map _ _ x

end

/-- Settles O38: the head is taken, the action changes its unit, and the block completes with the unit's record. -/
theorem setLatchActsOnUnit : Obligations.SetLatchActsOnUnit := by
  intro s a c f u act boundary unasked kind frame fields index action check
  have h := atBoundary_of boundary
  obtain ⟨-, phase, -, due, level, exec⟩ := taken_standing (b := s.startedBlock a c f) h
  have one : s.stepOne a c = .ok { Block.fresh c with frame := f } :=
    stepOne_ok kind frame (by simpa [State.fieldsOk] using fields) (by simp)
  have two : s.stepTwo a { Block.fresh c with frame := f } = .go (s.startedBlock a c f) := by
    refine stepTwo_plain kind rfl ?_
    simp only [State.kindGate]
    rw [show (s.startedBlock a c f).slot = c from rfl, check]
  have checkTaken : (s.takeHead a c).latchCheck a c = none := by
    rw [← check]
    simp only [State.latchCheck, State.unitCheck, latches_takeHead]
  let w := (s.takeHead a c).setArm a (s.taken a c (s.startedBlock a c f))
  have axes : (w.arm a).axes = (s.arm a).axes := by
    rw [State.arm_setArm_same, taken_eq]
  have units : w.latches = s.latches := latches_takeHead s a c
  have after : w.latchAfter a c u act = (match act with
      | .allocate => { (c.latchSettings s.latches[u]).getD s.latches[u] with
          alloc := some a, cap := ⟨⟨0, 0, 0⟩, 0, false⟩, extra := 0 }
      | .release => { s.latches[u] with alloc := none }
      | .arm => { s.latches[u] with
          state := .armed
          armedBy := .standing
          extra := 0
          cap := ⟨⟨0, 0, 0⟩, 0, false⟩
          previous := if s.latches[u].mode = .compare then ((s.arm a).axes.get s.latches[u].axis).count
            else s.latches[u].previous }
      | .disarm => { s.latches[u] with state := .idle, armedBy := .none }
      | .read => s.latches[u]) := by
    unfold State.latchAfter
    cases act <;> simp only [units, counts_get, axes] <;> rfl
  intro old new
  have after : w.latchAfter a c u act = new := after.trans (by cases act <;> rfl)
  refine exec_start_completing (k := .setLatch) h kind one two
    ((passSwap_setLatch (b := s.startedBlock a c f) exec phase kind checkTaken index action).trans ?_) ?_
  · rw [show (s.startedBlock a c f).slot = c from rfl, show State.latchAfter _ a c u act = new from after]
    rfl
  · have calm := calm_takeHead h (calm_of_resting (r := s.taken a c (s.startedBlock a c f)) (.inl due) level (by simp [phase]))
    exact settled_completeWith (w := w.setUnit u new) (calm_of_arms (swapPending_of_calm (s := w) calm)
      (armCalm_of_calm calm a) (armCalm_of_calm calm a.other))
      ((unasked_takeHead (s.taken a c (s.startedBlock a c f))).trans unasked)
      ((congrArg ArmRec.exec (State.arm_setArm_same _ _ _)).trans exec) _

end Sys2Proof.Machine
end


section
/-! PROOF. The decisions of the arbiter, the refused heads and the expiries of the block timers (O34, O44, O45). -/

namespace Sys2Proof.Machine

/-! ## The decisions of the arbiter (R73) -/

section
variable {s : State} {a : Arm}

theorem zoneDecide_lone (free : s.zone.holder = none) (own : s.zone.request.get a = true)
    (other : s.zone.request.get a.other = false) : s.zoneDecide = s.zoneGrant a := by
  unfold State.zoneDecide
  rw [free]
  cases a
  · rw [show s.zone.request.a = true from own, show s.zone.request.b = false from other]
  · rw [show s.zone.request.b = true from own, show s.zone.request.a = false from other]

theorem zoneDecide_tie (free : s.zone.holder = none) (both : s.zone.request = ⟨true, true⟩)
    (winner : s.zone.last = some a.other ∨ (s.zone.last = none ∧ a = .A)) :
    s.zoneDecide = (s.zoneGrant a).zoneWait a.other := by
  have wins : s.zoneTieWinner = a := by
    unfold State.zoneTieWinner
    rcases winner with last | ⟨last, rfl⟩
    · rw [last]
      exact a.other_other
    · rw [last]
  unfold State.zoneDecide
  rw [free, both, wins]

/-- An arm that is made to wait leaves no work where none was left before (R72). -/
theorem settled_zoneWait (h : s.settled = true) : (s.zoneWait a).settled = true := by
  have own : (s.zoneWait a).arm a = { s.arm a with phase := .waitZone } := State.arm_modArm_same _ _ _
  have other : (s.zoneWait a).arm a.other = s.arm a.other := State.arm_modArm_other _ _ _
  have executing (x : Arm) (was : s.executing x = true) : (s.zoneWait a).executing x = true := by
    rcases a.eq_or_other x with rfl | rfl
    · unfold State.executing at was ⊢
      rw [own]
      simpa using (Bool.and_eq_true _ _ ▸ was).1
    · rwa [State.executing, other]
  rw [settled_iff] at h ⊢
  obtain ⟨ready, released, still⟩ := h
  refine ⟨?_, fun x => ?_, fun x => ?_⟩
  · cases pending : s.corr.swapPending
    · simp [State.swapReady, State.zoneWait, pending]
    · have some : s.executing .A = true ∨ s.executing .B = true := by
        simpa [State.swapReady, pending, or_iff_not_imp_left] using ready
      rcases some with at_A | at_B
      · simp [State.swapReady, executing .A at_A]
      · simp [State.swapReady, executing .B at_B]
  · rcases a.eq_or_other x with rfl | rfl
    · simp [State.swapReleased, own]
    · rw [← released a.other]
      simp [State.swapReleased, State.zoneWait]
  · rcases a.eq_or_other x with rfl | rfl
    · rw [own]
      obtain ⟨due, resting⟩ := still x
      refine ⟨due, fun active rest => ?_⟩
      obtain ⟨level, none⟩ := resting active rest
      exact ⟨fun ⟨held, was⟩ => level ⟨held, was.imp_right nofun⟩, none⟩
    · exact other ▸ still _

end

/-- Settles O44: the decision, case by case; a wait alone leaves no immediate work. -/
theorem zoneDecisionGrantsOrWaits : Obligations.ZoneDecisionGrantsOrWaits := by
  refine ⟨fun s h settled holder asks => ?_, fun s a free own other => ?_, fun s a free both winner => ?_⟩
  · have decided : s.zoneDecide = s.zoneWait h.other := by
      unfold State.zoneDecide
      rw [holder]
      exact if_pos asks
    show Host.Outcome.next s.zoneDecide.settle = _
    rw [decided, settle_of_settled (settled_zoneWait settled)]
    rfl
  · show Host.Outcome.next s.zoneDecide.settle = _
    rw [zoneDecide_lone free own other]
    rfl
  · show Host.Outcome.next s.zoneDecide.settle = _
    rw [zoneDecide_tie free both winner]
    unfold State.zoneWait State.zoneGrant
    rw [both]
    cases a <;> rfl

/-! ## Refused heads (R45 to R47) -/

section
variable {s : State} {a : Arm} {c : SlotCopy} {b b2 : Block} {k : Kind} {f : FaultCode}

/-- A head that is refused before it stands past its checks completes FAULTED (R65). -/
theorem exec_start_refused (h : s.AtBoundary a c) (unasked : s.unasked a = true) {r : ArmRec} (due : r.due = none)
    (level : r.holdLevel = false) (phase : r.phase ≠ .waitSwap)
    (refused : (s.takeHead a c).startSequence a c = ((s.takeHead a c).setArm a r).blockFault a f) :
    exec (startCommand a c.kind) s = .next (((s.takeHead a c).setArm a r).blockFault a f) := by
  rw [exec_startCommand, startKind_boundary h rfl, State.startHead, refused]
  exact congrArg Host.Outcome.next (settle_blockFault (calm_takeHead h (calm_of_resting (.inl due) level phase))
    ((unasked_takeHead r).trans unasked) f)

/-- A head that step 1 or step 2 refuses (R45, R46). -/
theorem exec_start_refused_early (h : s.AtBoundary a c) (unasked : s.unasked a = true)
    (refused : s.stepOne a c = .error f ∨ ∃ b, s.stepOne a c = .ok b ∧ s.stepTwo a b = .refuse f) :
    exec (startCommand a c.kind) s = .next ((s.takeHead a c).blockFault a f) := by
  have same := sameChecks_takeHead s a c
  have sequence : (s.takeHead a c).startSequence a c = (s.takeHead a c).blockFault a f := by
    unfold State.startSequence
    rw [stepOne_congr same]
    rcases refused with one | ⟨b, one, two⟩
    · rw [one]
    · rw [one]
      dsimp only
      rw [stepTwo_congr same, two]
  have arm := arm_takeHead s a c
  have start := exec_start_refused (f := f) (r := (s.takeHead a c).arm a) h unasked (by rw [arm]; exact h.due)
    (by rw [arm]; exact h.level) (by rw [arm]; nofun)
  rw [State.setArm_arm] at start
  exact start sequence

theorem stepOne_kind (one : s.stepOne a c = .ok b) : b.slot = c := by
  unfold State.stepOne at one
  cases kind : c.kind with
  | none => simp [kind] at one
  | some k =>
    simp only [kind] at one
    cases frame : resolveFrame (s.armSet a).frame k c.selector with
    | none => simp [frame] at one
    | some f =>
      simp only [frame] at one
      split at one
      · cases one
      · split at one
        · cases one
        · injection one with e
          rw [← e]
          rfl

/-- The checks that come before a kind's own refuse the block (R46). -/
theorem stepTwo_common (kind : b.slot.kind = some k) (refused : s.commonCheck a k b.frame = some f) :
    s.stepTwo a b = .refuse f := by
  simp [State.stepTwo, kind, refused]

/-- A kind's own checks, where those before them pass (R46). -/
theorem stepTwo_own (kind : b.slot.kind = some k) (passed : s.commonCheck a k b.frame = none) :
    s.stepTwo a b = s.kindGate a { b with passed := true, before := (s.arm a).mounted } k := by
  simp [State.stepTwo, kind, passed]

theorem commonCheck_unreferenced (needs : k.needsReference = true) (unreferenced : (s.arm a).referenced = false)
    (f : Frame) : s.commonCheck a k f = some .notReferenced := by
  simp [State.commonCheck, needs, unreferenced]

section
variable {f : Frame}

/-- The mounted-value checks are the ones that a referenced arm meets (R46). -/
theorem commonCheck_bare (referenced : (s.arm a).referenced = true) (needs : k.needsProbe f = true)
    (bare : (s.arm a).mounted = .none) : s.commonCheck a k f = some .noProbe := by
  simp [State.commonCheck, needs, referenced, bare]

theorem commonCheck_unsure (referenced : (s.arm a).referenced = true) (needs : k.needsProbe f = true)
    (unsure : (s.arm a).mounted = .unverified ∨ (s.arm a).mounted = .foreign) :
    s.commonCheck a k f = some .mountUnknown := by
  rcases unsure with e | e <;> simp [State.commonCheck, needs, referenced, e]

theorem commonCheck_new {i : Fin 24} (referenced : (s.arm a).referenced = true) (needs : k.needsProbe f = true)
    (mounted : (s.arm a).mounted = .probe i) (point : k = .probePoint) (new : s.tables.probes[i].qual = .new) :
    s.commonCheck a k f = some .notQualified := by
  simp only [State.commonCheck, needs, referenced, mounted, Bool.not_true, Bool.and_false, Bool.false_eq_true, if_false,
    if_true]
  exact if_pos ⟨point, new⟩

end

/-- Where the mounted-value checks of a kind pass, a probe is mounted (R46). -/
theorem mountedProbe_of_passed {f : Frame} (passed : s.commonCheck a k f = none) (needs : k.needsProbe f = true) :
    ∃ p, s.mountedProbe a = some p := by
  have referenced : (k.needsReference && !(s.arm a).referenced) = false := by
    cases e : k.needsReference && !(s.arm a).referenced
    · rfl
    · simp only [State.commonCheck, e, if_true] at passed
      cases passed
  simp only [State.commonCheck, referenced, needs, Bool.false_eq_true, if_false, if_true] at passed
  unfold State.mountedProbe
  cases mounted : (s.arm a).mounted with
  | probe i => exact ⟨_, rfl⟩
  | _ => simp [mounted] at passed

/-- The block that passes its kind's checks is the same in its slot and its frame (R46). -/
theorem kindGate_go (two : s.kindGate a b k = .go b2) : b2.slot = b.slot ∧ b2.frame = b.frame := by
  unfold State.kindGate State.changeGate at two
  cases k
  case changeProbe =>
    dsimp only at two
    repeat' split at two
    all_goals cases two
    exact ⟨rfl, rfl⟩
  all_goals
    dsimp only at two
    repeat' split at two
    all_goals
      cases two
      try exact ⟨rfl, rfl⟩

theorem stepTwo_go (kind : b.slot.kind = some k) (two : s.stepTwo a b = .go b2) :
    s.commonCheck a k b.frame = none ∧ b2.slot = b.slot ∧ b2.frame = b.frame := by
  cases passed : s.commonCheck a k b.frame with
  | some f =>
    rw [stepTwo_common kind passed] at two
    cases two
  | none =>
    rw [stepTwo_own kind passed] at two
    obtain ⟨slot, frame⟩ := kindGate_go two
    exact ⟨rfl, slot, frame⟩

theorem allSome_map {α β : Type} {f : α → Option β} (all : ∀ x, (f x).isSome = true) (l : List α) :
    (allSome (l.map f)).isSome = true := by
  induction l with
  | nil => rfl
  | cons x l ih =>
    obtain ⟨y, e⟩ := Option.isSome_iff_exists.1 (all x)
    simpa [allSome, e] using ih

/-- A block that passes step 2 is converted: where its conversion needs a tip, a probe is mounted (R10, R46). -/
theorem convert_of_go (kind : b.slot.kind = some k) (two : s.stepTwo a b = .go b2) : (s.convert a b2).isSome = true := by
  obtain ⟨passed, slot, frame⟩ := stepTwo_go kind two
  have tip (needs : k.needsProbe b.frame = true) (v : Vec) : ((s.chain a).fromFrame b2.frame v).isSome = true := by
    obtain ⟨p, mounted⟩ := mountedProbe_of_passed passed needs
    cases b2.frame <;> simp [ChainInputs.fromFrame, ChainInputs.fromPart, State.chain, mounted]
  unfold State.convert
  rw [slot, kind]
  cases k
  case move =>
    have all (v : Vec) : ((s.chain a).fromFrame b2.frame v).isSome = true := by
      cases fr : b2.frame
      · rfl
      · rw [← fr]
        exact tip (by rw [← frame, fr]; rfl) v
    simp only [convertMove, Option.isSome_map]
    exact allSome_map all _
  case probePoint =>
    obtain ⟨x, ex⟩ := Option.isSome_iff_exists.1 (tip rfl b.slot.probeStart)
    obtain ⟨y, ey⟩ := Option.isSome_iff_exists.1 (tip rfl (b.slot.vec 4))
    obtain ⟨z, ez⟩ := Option.isSome_iff_exists.1 (tip rfl b.slot.probeEnd)
    simp [convertProbePoint, ex, ey, ez]
  case qualify =>
    obtain ⟨p, mounted⟩ := mountedProbe_of_passed passed rfl
    simp [mounted]
  all_goals rfl

/-- A block that is converted is refused by the limit check alone, and its offending waypoint is known (R14, R16). -/
theorem bind_refused (converted : (s.convert a b).isSome = true) (refused : (s.bind a b).2 = some f) :
    f = .outOfLimits ∧ (s.bind a b).1.limitHit ≠ none ∧ (s.bind a b).1.slot = b.slot := by
  obtain ⟨k, e⟩ := Option.isSome_iff_exists.1 converted
  unfold State.bind at refused ⊢
  simp only [e] at refused ⊢
  cases hit : limitCheck (s.armSet a).axes 0 k.tested with
  | none => simp [hit] at refused
  | some x =>
    simp only [hit] at refused ⊢
    injection refused with same
    exact ⟨same.symm, by simp, trivial⟩

/-- A kind that converts nothing is never refused by the limit check (R47). -/
theorem bind_moving (kind : b.slot.kind = some k) (refused : (s.bind a b).2 = some f) :
    k = .move ∨ k = .probePoint ∨ k = .qualify ∨ k = .changeProbe := by
  unfold State.bind State.convert at refused
  rw [kind] at refused
  cases k
  case move => simp
  case probePoint => simp
  case qualify => simp
  case changeProbe => simp
  all_goals simp [Conversion.empty, limitCheck] at refused

/-- The checks see the arm with its head taken as they see it before (R45). -/
theorem sameChecks_taken (s : State) (a : Arm) (c : SlotCopy) (b : Block) :
    s.SameChecks ((s.takeHead a c).setArm a (s.taken a c b)) a := by
  obtain ⟨settings, corr, therm, tables, latches, pins, boxes, referenced, mounted, offset, cmd⟩ := sameChecks_takeHead s a c
  exact ⟨settings, corr, therm, tables, latches, pins, boxes, (congrArg ArmRec.referenced (State.arm_setArm_same ..)).trans referenced,
    (congrArg ArmRec.mounted (State.arm_setArm_same ..)).trans mounted, (congrArg ArmRec.frameOffset (State.arm_setArm_same ..)).trans offset,
    (congrArg ArmRec.cmd (State.arm_setArm_same ..)).trans cmd⟩

/-- A moving block goes on from its swap check with its conversion (R47). -/
theorem passSwap_binds {r : ArmRec} (exec : r.exec = some b) (phase : r.phase = .startCheck) (kind : b.slot.kind = some k)
    (moving : k = .move ∨ k = .probePoint ∨ k = .qualify ∨ k = .changeProbe) :
    (s.setArm a r).passSwap a = (s.setArm a r).bindAndRequest a b := by
  have stands : (s.setArm a r).setPhase a .startCheck = s.setArm a r := by rw [setPhase_setArm, ← phase]
  unfold State.passSwap
  simp only [State.arm_setArm_same, exec, stands]
  rcases moving with rfl | rfl | rfl | rfl <;> rw [kind]

/-- The start of a head that steps 1 and 2 pass (R45 to R47). -/
theorem exec_start_boundary (h : s.AtBoundary a c) (one : s.stepOne a c = .ok b) (two : s.stepTwo a b = .go b2) :
    exec (startCommand a c.kind) s =
      .next (((s.takeHead a c).setArm a (s.taken a c b2)).passSwap a).settle := by
  rw [exec_startCommand, startKind_boundary h rfl, startHead_go h one two]
  rfl

/-- A head that the limit check of step 4 refuses, bound to its offending waypoint (R16, R47). -/
theorem exec_start_refused_late (h : s.AtBoundary a c) (unasked : s.unasked a = true) (kind : c.kind = some k)
    (one : s.stepOne a c = .ok b) (two : s.stepTwo a b = .go b2) (refused : (s.bind a b2).2 = some f) :
    exec (startCommand a c.kind) s = .next (((s.takeHead a c).modArm a fun r =>
      { r with exec := some (s.bind a b2).1 }).blockFault a f) := by
  have slot : b2.slot.kind = some k := by rw [(stepTwo_go ((stepOne_kind one).symm ▸ kind) two).2.1, stepOne_kind one, kind]
  have pass : ((s.takeHead a c).setArm a (s.taken a c b2)).passSwap a =
      ((s.takeHead a c).setArm a (s.taken a c (s.bind a b2).1)).blockFault a f := by
    rw [passSwap_binds (by rw [taken_eq]) (taken_standing h).2.1 slot (bind_moving slot refused), State.bindAndRequest,
      bind_congr (sameChecks_taken s a c b2), refused]
    simp only [modExec_setArm]
    rfl
  rw [exec_start_boundary h one two, pass]
  obtain ⟨-, phase, -, due, level, -⟩ := taken_standing (b := (s.bind a b2).1) h
  exact congrArg Host.Outcome.next (settle_blockFault (calm_takeHead h (calm_of_resting (.inl due) level (by simp [phase])))
    ((unasked_takeHead _).trans unasked) f)

end

/-- A block of no motion kind is refused at step 1 (R45). -/
theorem stepOne_badKind {s : State} {a : Arm} {c : SlotCopy} (kind : c.kind = none) : s.stepOne a c = .error .badKind := by
  simp [State.stepOne, kind]

theorem unitCheck_foreign {s : State} {a : Arm} {u : Fin 16} (foreign : s.latches[u].alloc ≠ some a) :
    s.unitCheck a u = some .latchNotOwned := if_pos foreign

theorem unitCheck_owned {s : State} {a : Arm} {u : Fin 16} (owned : s.latches[u].alloc = some a) :
    s.unitCheck a u = if s.latches[u].state ≠ .idle then some .latchBusy else none := by
  unfold State.unitCheck LatchUnit.isArmed
  rw [if_neg (not_not.2 owned)]
  simp only [bne_iff_ne]

/-- The touch blocks are refused while the trigger is active (R102, R113). -/
theorem kindGate_refused_unit {s : State} {a : Arm} {b : Block} {k : Kind} {u : Fin 16}
    (unit : b.slot.captureUnit k = some u) {f : FaultCode} (refused : firstFault [s.unitCheck a u,
      if k = .home then none else s.trigCheck a] = some f) : s.kindGate a b k = .refuse f := by
  have check : s.captureUnitCheck a k b.slot = s.unitCheck a u := by
    unfold State.captureUnitCheck
    rw [unit]
  unfold State.kindGate
  cases k
  case home =>
    have own : s.unitCheck a u = some f := by
      cases e : s.unitCheck a u with
      | none =>
        rw [e] at refused
        cases refused
      | some g =>
        rw [e] at refused
        exact refused
    simp only [check, own]
  case probePoint => simp only [check, show firstFault [s.unitCheck a u, s.trigCheck a] = some f from refused]
  case qualify => simp only [check, show firstFault [s.unitCheck a u, s.trigCheck a] = some f from refused]
  all_goals cases unit

theorem stepOne_fields {s : State} {a : Arm} {c : SlotCopy} {b : Block} {k : Kind} (kind : c.kind = some k)
    (one : s.stepOne a c = .ok b) : s.fieldsOk a c k = true := by
  unfold State.stepOne at one
  simp only [kind] at one
  cases frame : resolveFrame (s.armSet a).frame k c.selector with
  | none => simp [frame] at one
  | some f =>
    cases fields : s.fieldsOk a c k with
    | true => rfl
    | false => simp [frame, fields] at one

/-- A change with a module that is not verified is refused (R140 check 2). -/
theorem changeGate_unsure {s : State} {a : Arm} {b : Block} (i : Fin 24) (index : b.slot.nat 4 = i.val)
    (unsure : (s.arm a).mounted = .unverified ∨ (s.arm a).mounted = .foreign) : s.changeGate a b = .refuse .mountUnknown := by
  unfold State.changeGate
  rw [index?_of_eq i index]
  rcases unsure with e | e <;> simp only [e]

/-- A change for a probe that stands in no port is refused (R140 check 4). -/
theorem changeGate_away {s : State} {a : Arm} {b : Block} (i : Fin 24) (index : b.slot.nat 4 = i.val)
    (bare : (s.arm a).mounted = .none) (away : ∀ p, s.tables.probes[i].loc ≠ .inPort p) :
    s.changeGate a b = .refuse .portState := by
  have fetch : s.fetchHalf a i = .error .portState := by
    unfold State.fetchHalf
    split
    · exact absurd ‹_› (away _)
    · rfl
  unfold State.changeGate
  rw [index?_of_eq i index]
  simp only [bare, fetch]
  exact if_neg nofun

theorem serviceKind_none {q : SvcReq} (none : ∀ k ∈ [0x11, 0x12, 0x13, 0x14, 0x15, 0x16, 0x17, 0x18, 0x19, 0x1A],
    q.slot.kindCode ≠ k) : q.slot.svcKind = .none := by
  simp only [List.forall_mem_cons] at none
  obtain ⟨h1, h2, h3, h4, h5, h6, h7, h8, h9, h10, -⟩ := none
  unfold SlotCopy.svcKind SvcKind.ofCode
  split
  case h_11 => rfl
  all_goals contradiction

/-- Settles O34: every refusal is one of step 1, of step 2 by one of its checks, or of the limit check. -/
theorem badKindsRefused : Obligations.BadKindsRefused := by
  refine ⟨fun s a c boundary unasked => ?_, fun s q busy none => ?_⟩
  · have h := atBoundary_of boundary
    refine ⟨fun kind => ?_, fun f one => exec_start_refused_early h unasked (.inl one), fun b k one kind => ?_⟩
    · have start := exec_start_refused_early h unasked (.inl (stepOne_badKind (a := a) (s := s) kind))
      rwa [kind] at start
    have slot : b.slot = c := stepOne_kind one
    have kind' : b.slot.kind = some k := by rw [slot, kind]
    intro probed moves passed
    have refuse {f : FaultCode} (two : s.stepTwo a b = .refuse f) :
        exec (startCommand a c.kind) s = .next ((s.takeHead a c).blockFault a f) :=
      exec_start_refused_early h unasked (.inr ⟨b, one, two⟩)
    have common {f : FaultCode} (refused : s.commonCheck a k b.frame = some f) := refuse (stepTwo_common kind' refused)
    have own (ok : passed) : s.stepTwo a b = s.kindGate a { b with passed := true, before := (s.arm a).mounted } k :=
      stepTwo_own kind' ok
    refine ⟨fun f two => refuse two, fun moving unreferenced => common (commonCheck_unreferenced ?_ unreferenced _),
      fun probe referenced => ?_, fun u unit ok => ?_, fun identify bare => ?_, fun change ok => ?_, fun b2 f two bound => ?_⟩
    · rcases moving with rfl | rfl | rfl | rfl <;> rfl
    · have needs : k.needsProbe b.frame = true := by
        rcases probe with rfl | rfl | ⟨rfl, part⟩
        · rfl
        · rfl
        · simp [Kind.needsProbe, part]
      exact ⟨fun bare => common (commonCheck_bare referenced needs bare),
        fun unsure => common (commonCheck_unsure referenced needs unsure),
        fun i mounted point new => common (commonCheck_new referenced needs mounted point new)⟩
    · have unitRefuse {f : FaultCode} (refused : firstFault [s.unitCheck a u, if k = .home then none else s.trigCheck a] =
          some f) := refuse ((own ok).trans (kindGate_refused_unit (by rw [slot]; exact unit) refused))
      refine ⟨fun foreign => unitRefuse ?_, fun owned armed => unitRefuse ?_, fun owned idle touch pressed => unitRefuse ?_⟩
      · rw [unitCheck_foreign foreign]
        rfl
      · rw [unitCheck_owned owned, if_pos armed]
        rfl
      · rw [unitCheck_owned owned, if_neg (not_not.2 idle), if_neg touch, State.trigCheck, if_pos pressed]
        rfl
    · subst identify
      exact refuse ((own rfl).trans (if_pos bare))
    · subst change
      have low : b.slot.nat 4 < 24 := by
        have fields := stepOne_fields kind one
        simp only [State.fieldsOk, Bool.and_eq_true, decide_eq_true_iff] at fields
        rw [slot]
        omega
      refine ⟨fun unsure => refuse ((own ok).trans (changeGate_unsure ⟨_, low⟩ rfl unsure)), fun i index bare away =>
        refuse ((own ok).trans (changeGate_away i (by rw [slot]; exact index) bare away))⟩
    · obtain ⟨code, hit, -⟩ := bind_refused (convert_of_go kind' two) bound
      subst code
      exact ⟨rfl, hit, exec_start_refused_late h unasked kind one two bound⟩
  · have refused : exec .serviceBadKind s = .next (if q.slot.svcKind = .none then s.svcAnswer (.refused .badKind) else s) := by
      show execServiceBadKind s = _
      unfold execServiceBadKind
      rw [busy]
    rw [refused, if_pos (serviceKind_none none)]

/-! ## The end of a dwell, against O45

The release test finds that the next block of arm A, a PROBE_POINT whose unit is armed, does not need the zone. The HOME of
arm B that the grant passes to names the same unit: its search has length 0, so that it misses and disarms the unit, and the
PROBE_POINT, tested after the command, needs the zone. -/

/-- A PROBE_POINT in the MACHINE frame with capture unit 0, along X from the origin. -/
def unitZeroPoint : SlotCopy := ⟨0, [natWord (7 * 256), 1, 0, 0, 0, 0, 0, 0x4000, 0, 0, 1, 0, 1, 1, 0]⟩

/-- A HOME with capture unit 0. -/
def unitZeroHome : SlotCopy := ⟨0, [natWord (6 * 256), 0, 0, 0, 0]⟩

/-- Arm A, which holds the grant outside its box, dwells with the PROBE_POINT behind; arm B waits with the HOME. -/
def contestedUnit : State :=
  let limits : AxisSet := ⟨-10, 10, 0, false, 0⟩
  { State.reset with
    device := .run
    settings := { State.reset.settings with
      arms := ⟨{ State.reset.settings.arms.a with axes := ⟨limits, limits, limits⟩ }, State.reset.settings.arms.b⟩ }
    zone := { Zone.reset with
      holder := some .A
      last := some .A
      waits := ⟨.idle, .waiting 0⟩
      boxes := ⟨⟨1, 1, 0, 0⟩, ⟨0, 0, 0, 0⟩⟩ }
    latches := State.reset.latches.set 0 { LatchUnit.reset with alloc := some .A, state := .armed, armedBy := .standing }
    tables := { Tables.reset with
      probes := Tables.reset.probes.set 0 { Probe.blank with qual := .qualified, loc := .mounted .A } }
    arms :=
      ⟨{ ArmRec.reset false with
          referenced := true
          mounted := .probe 0
          dwellTimer := some 1
          queue := [unitZeroPoint] },
        { ArmRec.reset false with state := .active, phase := .waitZone, exec := some (Block.fresh unitZeroHome) }⟩ }

/-- The state once the dwell has ended, by the model's own step. -/
def contestedUnitAfter : State := (contestedUnit.completeDone .A .ok).settle

theorem contestedUnit_calm : contestedUnit.calm = true := by decide +kernel

theorem contestedUnitAfter_needs : contestedUnitAfter.headNeedsZone .A unitZeroPoint = true := by decide +kernel

theorem contestedUnitAfter_passed : contestedUnitAfter.zone.holder = some .B := by decide +kernel

/-- Refutes O45: what the other arm does once it has the grant can make the next block need the zone, which the release
test has found not to need it. -/
theorem not_waitExpiriesEndBlock : ¬ Obligations.WaitExpiriesEndBlock := by
  rintro ⟨-, -, released⟩
  obtain ⟨t, step, -, -, kept, -⟩ := released contestedUnit .A 1 contestedUnit_calm rfl rfl
  have same : contestedUnitAfter = t := next_inj step
  subst same
  obtain ⟨zone, -⟩ := kept (.inr ⟨unitZeroPoint, [], rfl, contestedUnitAfter_needs⟩)
  have holder := contestedUnitAfter_passed
  rw [zone] at holder
  cases holder

end Sys2Proof.Machine
end


section
/-! PROOF. The hold level and the abort (O21, O22). -/

namespace Sys2Proof.Machine

section
variable {s : State} {a : Arm} {r : ArmRec}

theorem still_of_settled (h : s.settled = true) (a : Arm) : (s.arm a).still := ((settled_iff s).1 h).2.2 a

/-- No work comes up where an arm's record changes in none of the fields that the swap barrier sees. -/
theorem settled_setArm (h : s.settled = true) (state : r.state = (s.arm a).state) (phase : r.phase = (s.arm a).phase)
    (exec : r.exec.isSome = (s.arm a).exec.isSome) (still : r.still) : (s.setArm a r).settled = true := by
  rw [settled_iff] at h ⊢
  obtain ⟨ready, released, quiet⟩ := h
  have alike (x : Arm) : ((s.setArm a r).arm x).state = (s.arm x).state ∧ ((s.setArm a r).arm x).phase = (s.arm x).phase ∧
      ((s.setArm a r).arm x).exec.isSome = (s.arm x).exec.isSome := by
    rcases a.eq_or_other x with rfl | rfl
    · rw [State.arm_setArm_same]
      exact ⟨state, phase, exec⟩
    · rw [State.arm_setArm_other]
      exact ⟨rfl, rfl, rfl⟩
  refine ⟨?_, fun x => ?_, fun x => ?_⟩
  · simpa [State.swapReady, State.executing, alike] using ready
  · simpa [State.swapReleased, alike] using released x
  · rcases a.eq_or_other x with rfl | rfl
    · rwa [State.arm_setArm_same]
    · rw [State.arm_setArm_other]
      exact quiet _

/-- An arm that moves is still. -/
theorem still_of_moving (moves : r.moving = true) (due : r.due ≠ some .segEnd) : r.still :=
  ⟨due, fun _ rest => by rw [moves] at rest; cases rest⟩

/-! ## The hold level becomes set (R60) -/

theorem disarmOfBlock_ours {u : LatchUnit} (ours : u.alloc = some a ∧ u.mode = .capture ∧ ∃ n, u.armedBy = .block n) :
    LatchUnit.disarmOfBlock a true u = u.unarmed := by
  obtain ⟨alloc, mode, n, armed⟩ := ours
  unfold LatchUnit.disarmOfBlock
  rw [armed]
  exact if_pos ⟨alloc, .inr mode⟩

theorem disarmOfBlock_not {u : LatchUnit} (other : ¬ (u.alloc = some a ∧ u.mode = .capture ∧ ∃ n, u.armedBy = .block n)) :
    LatchUnit.disarmOfBlock a true u = u := by
  unfold LatchUnit.disarmOfBlock
  cases armed : u.armedBy with
  | block n =>
    refine if_neg fun h => other ⟨h.1, ?_, n, armed⟩
    rcases h.2 with e | e
    · cases e
    · exact e
  | _ => rfl

theorem becomeHeld_setArm (s : State) (a : Arm) (r : ArmRec) : (s.setArm a r).becomeHeld a =
    (s.setArm a { r with state := .held, holding := false, holdPhase := some (r.holdPhase.getD r.phase) }).disarmCaptures
      a := by
  rw [State.becomeHeld, modArm_setArm]

/-- An arm that has to be HELD becomes so, and nothing else is left to do (R60). -/
theorem settle_becomeHeld (h : s.settled = true) (active : (s.arm a).state = .active) (rest : (s.arm a).moving = false)
    (begun : (s.arm a).phase.begun = true) :
    (s.setArm a { s.arm a with holdLevel := true }).settle = (s.setArm a { s.arm a with
      holdLevel := true
      state := .held
      holding := false
      holdPhase := some ((s.arm a).holdPhase.getD (s.arm a).phase) }).disarmCaptures a := by
  let r := { s.arm a with holdLevel := true }
  obtain ⟨due, -⟩ := still_of_settled h a
  have ahead : (s.arm a).phase ≠ .waitSwap := fun waits => by
    rw [waits] at begun
    cases begun
  have quiet := quietBut_setArm (r := r) (settled_iff_quietBut.1 h).1 rfl fun waits => ahead waits.2
  have work : (s.setArm a r).armWork a = some ((s.setArm a r).becomeHeld a) := by
    refine armWork_held ?_ ?_ ?_ (.inr ?_) ?_ <;> rw [State.arm_setArm_same]
    exacts [active, rest, begun, due]
  rw [becomeHeld_setArm] at work
  refine settle_own quiet work ((settled_congr (t := State.disarmCaptures _ a) rfl rfl).trans (settled_iff_quietBut.2
    ⟨quietBut_setArm (settled_iff_quietBut.1 h).1 rfl fun waits => ahead waits.2, ?_⟩))
  rw [arm_disarmCaptures, State.arm_setArm_same]
  refine ⟨due, fun active _ => ?_⟩
  cases active

/-- The level alone changes where the arm has nothing to do about it (R60). -/
theorem settle_levelAlone (h : s.settled = true) (still : { s.arm a with holdLevel := true }.still) :
    (s.setArm a { s.arm a with holdLevel := true }).settle = s.setArm a { s.arm a with holdLevel := true } :=
  settle_of_settled (settled_setArm h rfl rfl rfl still)

theorem exec_holdSet (level : (s.arm a).holdLevel = false) : exec (.holdSet a) s =
    .next (if s.device = .run then s.holdArm a else s.modArm a fun r => { r with holdLevel := true }) :=
  congrArg Host.Outcome.next (if_neg (by simp [level]))

theorem holdArm_active (active : (s.arm a).state = .active) : s.holdArm a =
    if (s.arm a).moving = true ∧ (s.arm a).phase.brakes = false then
      (s.setArm a { s.arm a with holdLevel := true, holding := true, holdPhase := some (s.arm a).phase }).settle
    else (s.setArm a { s.arm a with holdLevel := true }).settle := by
  unfold State.holdArm
  simp only [active, modArm_eq_setArm, State.arm_setArm_same, State.setArm_setArm]

theorem holdArm_boundary (state : (s.arm a).state = .idle ∨ (s.arm a).state = .unreferenced) :
    s.holdArm a = s.modArm a fun r => { r with holdLevel := true, state := .held } := by
  unfold State.holdArm
  rcases state with e | e <;> simp only [e, modArm_eq_setArm, State.arm_setArm_same, State.setArm_setArm]

/-! ## The hold level becomes clear (R61) -/

/-- The record of a HELD arm with a block as its hold level becomes clear (R61). -/
def ArmRec.released (r : ArmRec) : ArmRec := { r with holdLevel := false, holdPhase := none, state := .active }

theorem exec_holdClear (run : s.device = .run) (level : (s.arm a).holdLevel = true) :
    exec (.holdClear a) s = .next (s.releaseArm a) := by
  show Host.Outcome.next (if (s.arm a).holdLevel = false then s else if s.device = .run then s.releaseArm a
    else s.modArm a fun r => { r with holdLevel := false }) = _
  rw [if_neg (by simp [level]), if_pos run]

theorem releaseArm_boundary (state : (s.arm a).state = .held) (exec : (s.arm a).exec = none) : s.releaseArm a =
    s.modArm a fun r => { r with holdLevel := false, holdPhase := none, state := r.free } := by
  unfold State.releaseArm
  simp only [state, exec, modArm_eq_setArm, State.arm_setArm_same, State.setArm_setArm]
  rfl

theorem releaseArm_active (state : (s.arm a).state = .active) : s.releaseArm a =
    s.modArm a fun r => { r with holdLevel := false, holdPhase := none, holding := false } := by
  unfold State.releaseArm
  simp only [state, modArm_eq_setArm, State.arm_setArm_same, State.setArm_setArm]

theorem releaseArm_block (state : (s.arm a).state = .held) (exec : (s.arm a).exec ≠ none) :
    s.releaseArm a = ((s.setArm a (s.arm a).released).resume a).settle := by
  obtain ⟨b, exec⟩ := Option.ne_none_iff_exists'.1 exec
  unfold State.releaseArm
  simp only [state, exec, modArm_eq_setArm, State.arm_setArm_same, State.setArm_setArm]
  rw [← exec]
  rfl

/-- An arm that resumes along its segment in a phase with no unit to arm afresh goes on as it is (R61). -/
theorem resume_plain {b : Block} (exec : r.exec = some b) (plain : r.moving = false ∨ r.phase = .moving) :
    (s.setArm a r).resume a = s.setArm a r := by
  unfold State.resume
  simp only [State.arm_setArm_same, exec]
  rcases plain with e | e
  · rw [e]
    rfl
  · rw [e]
    exact ite_self _

/-- The search of an axis is resumed with its unit armed afresh (R61, R96). -/
theorem resume_home {b : Block} {u : Fin 16} {x : Axis} (exec : r.exec = some b) (moves : r.moving = true)
    (phase : r.phase = .homeSearch x) (unit : b.unit = some u) :
    (s.setArm a r).resume a = (s.setUnit u (s.latches[u].searching (.refm x) b.slot.index)).setArm a r := by
  unfold State.resume
  simp only [State.arm_setArm_same, exec, moves, phase, unit]
  rfl

/-- A touch's search that is resumed (R61, R110). -/
theorem resume_touch {b : Block} (exec : r.exec = some b) (moves : r.moving = true)
    (phase : r.phase = .search ∨ ∃ k, r.phase = .touch k .search) :
    (s.setArm a r).resume a = (s.setArm a r).resumeTouch a b := by
  unfold State.resume
  simp only [State.arm_setArm_same, exec, moves]
  rcases phase with e | ⟨k, e⟩ <;> rw [e] <;> rfl

theorem resumeTouch_free {b : Block} {u : Fin 16} (free : s.pins.trig.get a = false) (unit : b.unit = some u) :
    (s.setArm a r).resumeTouch a b = (s.setUnit u (s.latches[u].searching .trig b.slot.index)).setArm a r := by
  have free : (s.setArm a r).pins.trig.get a = false := free
  unfold State.resumeTouch
  simp only [free, unit]
  rfl

/-- The record of a touch that was lost in a hold, its retract due. -/
def ArmRec.lost (r : ArmRec) (b : Block) : ArmRec := { r with
  moving := false
  exec := some { b with touch := { b.touch with missed := true }, qual := { b.qual with missed := true } } }

/-- A touch that is lost while the arm was HELD: the unit is disarmed, the retract is due (R107, R110). -/
theorem resumeTouch_lost {b : Block} {u : Fin 16} (exec : r.exec = some b) (pressed : s.pins.trig.get a = true)
    (unit : b.unit = some u) : (s.setArm a r).resumeTouch a b = (s.setUnit u s.latches[u].unarmed).setArm a { r.lost b with
      due := some .retract } := by
  have pressed : (s.setArm a r).pins.trig.get a = true := pressed
  unfold State.resumeTouch State.searchMissed
  rw [if_pos pressed, modArm_setArm, unit]
  show ((s.setUnit u s.latches[u].unarmed).setArm a _ |>.modExec a _).setDue a _ = _
  rw [modExec_setArm, setDue_setArm]
  rw [exec]
  rfl

theorem beginSegTwo_setArm {stop : Vec} {f g n : Nat} (long : (Seg.between r.cmd stop f g n 0).len ≠ 0) :
    (s.setArm a r).beginSegTwo a stop f g n = s.setArm a { r with seg := Seg.between r.cmd stop f g n 0, moving := true } := by
  unfold State.beginSegTwo
  rw [modArm_setArm]
  dsimp only
  rw [if_neg long]

/-- The segment of a touch's retract, by the block's kind (R108, R116). -/
def State.retractSeg (s : State) (a : Arm) (b : Block) (v : Vec) : Kind → Seg
  | .probePoint => Seg.between v (b.target 0) (s.feedOf a (b.slot.nat 13)) (s.feedOf a (b.slot.nat 12))
      (b.slot.nat 11 * 65536) 0
  | _ => Seg.between v (b.target (3 * b.qual.k + 1)) (s.feedOf a (b.slot.nat 10)) (s.feedOf a (b.slot.nat 10)) 0 0

/-- The phase of a touch's retract, by the block's kind (R108, R116). -/
def Block.retractPhase (b : Block) : Kind → Phase
  | .probePoint => .retract
  | _ => .touch b.qual.k .retract

theorem beginRetract_setArm {b : Block} {k : Kind} (exec : r.exec = some b) (kind : b.slot.kind = some k)
    (touch : k = .probePoint ∨ k = .qualify) (long : (s.retractSeg a b r.cmd k).len ≠ 0) :
    (s.setArm a r).beginRetract a =
      s.setArm a { r with phase := b.retractPhase k, seg := s.retractSeg a b r.cmd k, moving := true } := by
  have own : ((s.setArm a r).arm a).exec = some b := (congrArg ArmRec.exec (State.arm_setArm_same ..)).trans exec
  unfold State.beginRetract
  rw [own]
  dsimp only
  rw [kind]
  rcases touch with rfl | rfl
  · show ((s.setArm a r).setPhase a .retract).beginSegTwo a _ _ _ _ = _
    rw [setPhase_setArm]
    exact beginSegTwo_setArm (r := { r with phase := .retract }) long
  · show ((s.setArm a r).setPhase a (.touch b.qual.k .retract)).beginSeg a _ _ = _
    rw [setPhase_setArm]
    exact beginSegTwo_setArm (r := { r with phase := .touch b.qual.k .retract }) long

/-- What the resumption leaves of the swap barrier and of the other arm (R19, R61). -/
theorem quietBut_resumed (h : s.settled = true) (exec : r.exec.isSome = (s.arm a).exec.isSome)
    (before : (s.arm a).phase ≠ .waitSwap) (phase : r.phase ≠ .waitSwap) : (s.setArm a r).quietBut a :=
  quietBut_setArm (settled_iff_quietBut.1 h).1 (by
    simp only [State.executing, exec, bne_iff_ne.2 before, bne_iff_ne.2 phase]) fun waits => phase waits.2

end

/-- Settles O21: HOLD_SET and HOLD_CLEAR, standing by standing. -/
theorem holdLevelActsByStanding : Obligations.HoldLevelActsByStanding := by
  refine ⟨fun s a level => ?_, fun s a run level => ?_⟩
  · have block := exec_holdSet level
    have running (run : s.device = .run) : exec (.holdSet a) s = .next (s.holdArm a) := by rw [block, if_pos run]
    refine ⟨fun run state => ?_, fun run settled active moves => ⟨fun free => ?_, fun brakes => ?_⟩,
      fun run settled active rest due => ⟨fun waits => ?_, fun begun => ?_⟩, fun idle => ?_⟩
    · rw [running run, holdArm_boundary state]
    · rw [running run, holdArm_active active, if_pos ⟨moves, free⟩]
      exact congrArg Host.Outcome.next (settle_of_settled (settled_setArm settled rfl rfl rfl
        (still_of_moving moves (still_of_settled settled a).1)))
    · rw [running run, holdArm_active active, if_neg (by simp [brakes]),
        settle_levelAlone settled (still_of_moving moves (still_of_settled settled a).1)]
      rfl
    · have still : { s.arm a with holdLevel := true }.still := by
        refine ⟨by simp [due], fun _ _ => ⟨fun ⟨_, work⟩ => ?_, .inl due⟩⟩
        rcases work with e | e
        · exact e due
        · rcases waits with w | w | w <;> simp [w, Phase.begun] at e
      rw [running run, holdArm_active active, if_neg (by simp [rest]), settle_levelAlone settled still]
      rfl
    · have begun : (s.arm a).phase.begun = true := by
        rcases begun with w | w | w | ⟨c, h, w⟩ <;> rw [w] <;> rfl
      have step := (holdArm_active active).trans ((if_neg (by simp [rest])).trans
        (settle_becomeHeld settled active rest begun))
      refine ⟨_, (running run).trans (congrArg Host.Outcome.next step), rfl, ?_, ?_,
        fun u => ⟨fun mine => ?_, fun other => ?_⟩⟩
      · simp
      · rw [arm_disarmCaptures, State.arm_setArm_same]
      · exact (getElem_mapTable _ _ u).trans (disarmOfBlock_ours mine)
      · exact (getElem_mapTable _ _ u).trans (disarmOfBlock_not other)
    · rcases idle with off | state
      · rw [block, if_neg off]
      · rw [block]
        split
        · unfold State.holdArm
          rcases state with e | e <;> simp only [e]
        · rfl
  · rw [exec_holdClear run level]
    refine ⟨fun held none => ?_, fun active => ?_, fun settled held => ?_⟩
    · rw [releaseArm_boundary held none]
    · rw [releaseArm_active active]
    obtain ⟨due, -⟩ := still_of_settled settled a
    have block (exec : (s.arm a).exec ≠ none) := releaseArm_block held exec
    refine ⟨fun exec phase moves => ?_, fun exec rest due phase => ?_, fun b exec kind rest due phase long => ?_,
      fun b u exec moves unit => ?_⟩
    · obtain ⟨b, own⟩ := Option.ne_none_iff_exists'.1 exec
      have ahead : (s.arm a).phase ≠ .waitSwap := by simp [phase]
      rw [block exec, resume_plain (r := (s.arm a).released) own (.inr phase), settle_of_settled]
      · rfl
      · refine settled_iff_quietBut.2 ⟨quietBut_resumed settled rfl ahead ahead, ?_⟩
        rw [State.arm_setArm_same]
        exact still_of_moving moves due
    · obtain ⟨b, own⟩ := Option.ne_none_iff_exists'.1 exec
      have ahead : (s.arm a).phase ≠ .waitSwap := by
        rcases phase with e | e | e | ⟨c, h, e⟩ <;> simp [e]
      rw [block exec, resume_plain (r := (s.arm a).released) own (.inl rest), settle_of_settled]
      · rfl
      · refine settled_iff_quietBut.2 ⟨quietBut_resumed settled rfl ahead ahead, ?_⟩
        rw [State.arm_setArm_same]
        exact (calm_of_resting (r := (s.arm a).released) (.inl due) rfl ahead).1
    · have quiet : (s.setArm a (s.arm a).released).quietBut a := quietBut_resumed settled rfl phase phase
      rw [block (by simp [exec]), resume_plain (r := (s.arm a).released) exec (.inl rest),
        settle_stepSix_move (r := { (s.arm a).released with due := none }) quiet ?_ exec kind rfl rest rfl phase rfl long]
      · rw [State.setArm_setArm]
        rfl
      · rw [State.arm_setArm_same, ← due]
        rfl
    have own : (s.arm a).exec ≠ none := by simp [exec]
    have resumed {t : State} (resume : (s.setArm a (s.arm a).released).resume a = t) (done : t.settled = true) :
        s.releaseArm a = t := by
      rw [block own, resume, settle_of_settled done]
    have goesOn {v : LatchUnit} (before : (s.arm a).phase ≠ .waitSwap) : ((s.setUnit u v).setArm a (s.arm a).released).settled = true := by
      refine settled_iff_quietBut.2 ⟨quietBut_resumed (s := s.setUnit u v) ((settled_congr (s := s) (t := s.setUnit u v) rfl rfl).trans settled) rfl before before, ?_⟩
      rw [State.arm_setArm_same]
      exact still_of_moving moves due
    refine ⟨fun x phase => ?_, fun phase => ⟨fun free => ?_, fun pressed => ?_⟩⟩
    · exact congrArg Host.Outcome.next (resumed (resume_home (r := (s.arm a).released) exec moves phase unit)
        (goesOn (by simp [phase])))
    all_goals have before : (s.arm a).phase ≠ .waitSwap := by rcases phase with e | ⟨k, e⟩ <;> simp [e]
    · exact congrArg Host.Outcome.next (resumed ((resume_touch (r := (s.arm a).released) exec moves phase).trans
        (resumeTouch_free free unit)) (goesOn before))
    · have retracts {k : Kind} (kind : b.slot.kind = some k) (touch : k = .probePoint ∨ k = .qualify)
          (none : (s.arm a).due = none) (long : (s.retractSeg a b (s.arm a).cmd k).len ≠ 0) :
          s.releaseArm a = (s.setUnit u s.latches[u].unarmed).setArm a { (s.arm a).released.lost b with
            phase := b.retractPhase k, seg := s.retractSeg a b (s.arm a).cmd k, moving := (s.arm a).moving } := by
        let w := s.setUnit u s.latches[u].unarmed
        let r := { (s.arm a).released.lost b with due := some .retract }
        have settled : w.settled = true := (settled_congr (s := s) (t := w) rfl rfl).trans settled
        have quiet : (w.setArm a r).quietBut a := 
          quietBut_resumed settled ((congrArg Option.isSome exec).symm) before before
        rw [block own, (resume_touch (r := (s.arm a).released) exec moves phase).trans (resumeTouch_lost exec pressed unit)]
        refine settle_due (d := .retract) quiet ?_ ?_ ?_ ?_ nofun ?_ ?_
        · rw [State.arm_setArm_same]
          rfl
        · rw [State.arm_setArm_same]
          rfl
        · rw [State.arm_setArm_same]
          rfl
        · rw [State.arm_setArm_same]
        · show ((w.setArm a r).modArm a _).beginRetract a = _
          rw [modArm_setArm]
          refine (beginRetract_setArm (s := w) (r := { (s.arm a).released.lost b with due := .none }) rfl kind touch
            ?_).trans ?_
          · rcases touch with rfl | rfl <;> exact long
          · rw [moves]
            show _ = w.setArm a { (s.arm a).released.lost b with
              phase := b.retractPhase k, seg := s.retractSeg a b (s.arm a).cmd k, moving := true }
            rcases touch with rfl | rfl <;> rw [← none] <;> rfl
        · refine settled_iff_quietBut.2 ⟨quietBut_resumed (s := w) settled ((congrArg Option.isSome exec).symm) before ?_, ?_⟩
          · rcases touch with rfl | rfl <;> exact nofun
          · rw [State.arm_setArm_same]
            exact still_of_moving moves due
      refine ⟨fun kind none long => ?_, fun kind none long => ?_⟩
      · exact congrArg Host.Outcome.next (retracts kind (.inl rfl) none long)
      · exact congrArg Host.Outcome.next (retracts kind (.inr rfl) none long)

end Sys2Proof.Machine
end


section
/-! SUPPORT. The entry into STOPPING and its end at rest (R62 to R64, R66). PROOF. The abort, the stop line and the collision
(O19, O22, O50). -/

namespace Sys2Proof.Machine

/-! ## The entry into STOPPING (R62, R63) -/

/-- The state as an arm enters STOPPING: its lane is paused, its zone request and every wait are withdrawn. -/
def State.halted (s : State) (a : Arm) (cause : Cause) : State :=
  ((s.pauseLane a).zoneWithdraw a).modArm a fun r =>
    { r with
      state := .stopping
      cause := some cause
      due := none
      dwellTimer := none
      stableTimer := none
      coverTimer := none
      seatWait := .none
      link := r.link.idled }

section
variable {s : State} {a : Arm} {cause : Cause}

/-- The arm with a velocity is STOPPING along its segment (R62). -/
theorem enterStopping_runs (runs : s.runsOn a = true) : s.enterStopping a cause = s.halted a cause := if_pos runs

/-- The arm at rest ends STOPPING at once (R62). -/
theorem enterStopping_rest (rests : s.runsOn a = false) : s.enterStopping a cause = (s.halted a cause).endStopping a :=
  if_neg (by simp [rests])

@[simp] theorem arm_halted_same (s : State) (a : Arm) (cause : Cause) :
    (s.halted a cause).arm a = { (s.arm a).stopping cause with queue := s.pausedQueue a } := by
  rw [State.halted, State.arm_modArm_same, arm_zoneWithdraw, arm_pauseLane_same]
  rfl

@[simp] theorem arm_halted_other (s : State) (a : Arm) (cause : Cause) :
    (s.halted a cause).arm a.other = s.arm a.other := by
  rw [State.halted, State.arm_modArm_other, arm_zoneWithdraw, arm_pauseLane_other]

@[simp] theorem zone_halted (s : State) (a : Arm) (cause : Cause) : (s.halted a cause).zone = (s.zoneWithdraw a).zone := by
  simp [State.halted, State.zoneWithdraw]

@[simp] theorem lanes_halted (s : State) (a : Arm) (cause : Cause) :
    (s.halted a cause).lanes = s.lanes.set a { s.lanes.get a with paused := true } := by
  simp [State.halted, State.zoneWithdraw]

@[simp] theorem latches_halted (s : State) (a : Arm) (cause : Cause) : (s.halted a cause).latches = s.latches := by
  simp [State.halted, State.zoneWithdraw]

@[simp] theorem tables_halted (s : State) (a : Arm) (cause : Cause) : (s.halted a cause).tables = s.tables := by
  simp [State.halted, State.zoneWithdraw]

@[simp] theorem core_halted (s : State) (a : Arm) (cause : Cause) : (s.halted a cause).core = s.core := by
  simp [State.halted]

theorem noted_halted {n : Notice} (h : s.noted n) (a : Arm) (cause : Cause) : (s.halted a cause).noted n :=
  noted_pauseLane h a

theorem wf_halted (wf : s.shm.wf = true) (a : Arm) (cause : Cause) : (s.halted a cause).shm.wf = true :=
  stable_shm_wf.pauseLane wf a

/-- An arm that is STOPPING along its segment leaves no work where none was left (R62). -/
theorem settled_halted (settled : s.settled = true) (moves : (s.arm a).moving = true) (cause : Cause) :
    (s.halted a cause).settled = true := by
  have own := arm_halted_same s a cause
  refine settled_iff_quietBut.2 ⟨quietBut_of_same (settled_iff_quietBut.1 settled).1
    (congrArg (fun c => c.corr.swapPending) (core_halted s a cause)) (arm_halted_other s a _) ?_ ?_, ?_⟩
  · simp only [State.executing, own]
    rfl
  · rw [own]
    exact fun waits => nomatch waits.1
  · rw [own]
    exact still_of_moving moves (by simp [ArmRec.stopping])

/-- The arm that is STOPPING with its lane paused just now (R62). -/
theorem arm_halted_open (opened : (s.lanes.get a).paused = false) (cause : Cause) :
    (s.halted a cause).arm a = (s.arm a).stopping cause := by
  rw [arm_halted_same, State.pausedQueue, opened]
  rfl

theorem runsOn_of_active (active : (s.arm a).state = .active) (moves : (s.arm a).moving = true) (fast : 0 < (s.arm a).seg.v) :
    s.runsOn a = true := by
  simp [State.runsOn, moves, active, fast]

/-! ## The end of STOPPING at rest (R62 to R64, R66) -/

/-- The completions of a stop: the settlement of a change, the executing block's slot, the committed block's (R58, R62). -/
def State.stopEnded (s : State) (a : Arm) (st : Nat) (x : Status) (f : Option FaultCode) : State :=
  ((s.settleChange a).writeExec a st x f).writeCommitted a st x f

/-- The fault code that a cause gives the blocks; an abort gives none (R62 to R64). -/
def Cause.fault? : Cause → Option FaultCode
  | .abort => none
  | .stopLine => some .stopLine
  | .fault f => some f

theorem endStopping_abort (by_ : (s.arm a).cause = some .abort) :
    s.endStopping a = ((s.stopEnded a slotDone .aborted none).afterDone a).applyProbeLost a := by
  unfold State.endStopping
  rw [by_]
  rfl

theorem endStopping_fault (by_ : (s.arm a).cause = some cause) {f : FaultCode} (code : cause.fault? = some f) :
    s.endStopping a = ((s.stopEnded a slotFaulted .none (some f)).ended a).enterFault a f := by
  unfold State.endStopping
  rw [by_]
  cases cause with
  | abort => cases code
  | stopLine =>
    cases code
    rfl
  | fault g =>
    cases code
    rfl

section
variable {st : Nat} {x : Status} {f : Option FaultCode}

@[simp] theorem arm_stopEnded_same (s : State) (a : Arm) (st : Nat) (x : Status) (f : Option FaultCode) :
    (s.stopEnded a st x f).arm a = { s.arm a with mounted := (s.arm a).settledMounted } := by
  simp [State.stopEnded]

@[simp] theorem arm_stopEnded_other (s : State) (a : Arm) (st : Nat) (x : Status) (f : Option FaultCode) :
    (s.stopEnded a st x f).arm a.other = s.arm a.other := by
  simp [State.stopEnded]

@[simp] theorem zone_stopEnded (s : State) (a : Arm) (st : Nat) (x : Status) (f : Option FaultCode) :
    (s.stopEnded a st x f).zone = s.zone := by
  simp [State.stopEnded]

@[simp] theorem lanes_stopEnded (s : State) (a : Arm) (st : Nat) (x : Status) (f : Option FaultCode) :
    (s.stopEnded a st x f).lanes = s.lanes := by
  simp [State.stopEnded]

@[simp] theorem core_stopEnded (s : State) (a : Arm) (st : Nat) (x : Status) (f : Option FaultCode) :
    (s.stopEnded a st x f).core = s.core := by
  simp [State.stopEnded]

theorem wf_settleChange (wf : s.shm.wf = true) (a : Arm) : (s.settleChange a).shm.wf = true := by rwa [shm_settleChange]

theorem wf_stopEnded (wf : s.shm.wf = true) (a : Arm) (st : Nat) (x : Status) (f : Option FaultCode) :
    (s.stopEnded a st x f).shm.wf = true :=
  stable_shm_wf.writeCommitted (stable_shm_wf.writeExec (wf_settleChange wf a) a st x f) a st x f

theorem noted_stopEnded {n : Notice} (h : s.noted n) (a : Arm) (st : Nat) (x : Status) (f : Option FaultCode) :
    (s.stopEnded a st x f).noted n :=
  noted_writeCommitted (noted_writeExec (noted_settleChange h a) a st x f) a st x f

/-- The completion of the executing block sets its lane's notice (R159). -/
theorem noted_stopEnded_lane (exec : (s.arm a).exec ≠ none) : (s.stopEnded a st x f).noted (laneNotice a) := by
  obtain ⟨b, exec⟩ := Option.ne_none_iff_exists'.1 exec
  refine noted_writeCommitted ?_ a st x f
  rw [writeExec_some (b := b) (by simpa using exec), noted_disarmBlock]
  exact noted_writeBlock_lane _ _ _ _ _ _ _

/-- The header of the executing block's slot at the end of a stop, its committed block in another slot (R58, R159). -/
theorem slotSays_stopEnded {b : Block} (exec : (s.arm a).exec = some b) (wf : s.shm.wf = true)
    (fits : (s.lanes.get a).slotBase b.slot.index + 32 ≤ 65536)
    (apart : ∀ d, (s.arm a).committed = some d → d.slot.index ≠ b.slot.index) :
    (s.stopEnded a st x f).slotSays a b.slot st (x.code + faultCodeOf f * 256 + b.flags.bits) s.tickNo := by
  have written := slotSays_writeExec (s := s.settleChange a) (a := a) (b := b) (by simpa using exec)
    (wf_settleChange wf a) (by simpa using fits) st x f
  rw [show (s.settleChange a).tickNo = s.tickNo from congrArg Core.tickNo (core_settleChange ..)] at written
  exact (keepsSlot_writeCommitted (stable_shm_wf.writeExec (wf_settleChange wf a) a st x f)
    (fun d committed => apart d (by simpa using committed)) st x f).slotSays written

end

/-! ## The release tests at the end of a stop -/

section
variable {w pre post : State} {n : Bool} {r : ArmRec}

/-- The loss of a probe that is acted on after a release test does not touch what the test leaves. -/
theorem releases_applyProbeLost (h : s.Releases pre post a n r) : s.Releases pre (post.applyProbeLost a) a n r where
  zone := h.zone
  other := h.other
  zoneAfter := by rw [zone_applyProbeLost, h.zoneAfter]
  otherAfter := by rw [arm_applyProbeLost_other, h.otherAfter]
  own := by
    rw [arm_applyProbeLost_same]
    exact h.own
  otherCalm := h.otherCalm
  pending := (congrArg (fun c => c.corr.swapPending) (core_applyProbeLost post a)).trans h.pending
  settings := (congrArg Core.settings (core_applyProbeLost post a)).trans h.settings

/-- An abort that ends a block makes the release test (R44, R62). -/
theorem releases_endStopping_abort (by_ : (w.arm a).cause = some .abort) (zone : s.sameZone w a) (other : w.arm a.other = r)
    (calm : r.calm) (pending : w.corr.swapPending = false) (settings : w.settings = s.settings) :
    s.Releases ((w.stopEnded a slotDone .aborted none).ended a) (w.endStopping a) a
      (((w.stopEnded a slotDone .aborted none).ended a).nextNeedsZone a) r := by
  have core := core_stopEnded w a slotDone .aborted none
  rw [endStopping_abort by_]
  refine releases_applyProbeLost (releases_afterDone ?_ (by rw [arm_stopEnded_other, other]) calm ?_ ?_)
  · unfold State.sameZone at zone ⊢
    rw [zone_stopEnded]
    exact zone
  · exact (congrArg (fun c => c.corr.swapPending) core).trans pending
  · exact (congrArg Core.settings core).trans settings

/-- A fault or the stop line that ends a block makes the release test with no next block (R64, R78). -/
theorem releases_endStopping_fault {f : FaultCode} (by_ : (w.arm a).cause = some cause) (code : cause.fault? = some f)
    (zone : s.sameZone w a) (other : w.arm a.other = r) (calm : r.calm) (pending : w.corr.swapPending = false)
    (settings : w.settings = s.settings) :
    s.Releases (((w.stopEnded a slotFaulted .none (some f)).ended a).faulting a f) (w.endStopping a) a false r := by
  have core := core_stopEnded w a slotFaulted .none (some f)
  rw [endStopping_fault by_ code]
  refine releases_enterFault f ?_ ?_ calm ?_ ?_ ?_
  · unfold State.sameZone at zone ⊢
    rw [State.ended, State.modArm_zone, zone_stopEnded]
    exact zone
  · rw [State.ended, State.arm_modArm_other, arm_stopEnded_other, other]
  · exact (congrArg (fun c => c.corr.swapPending) core).trans pending
  · exact (congrArg Core.settings core).trans settings
  · rw [State.ended, State.arm_modArm_same]
    nofun

end

/-! ## What the end of a stop leaves of its arm -/

/-- The arm at the end of an abort: between blocks (R41, R62). -/
theorem arm_endStopping_abort (by_ : (s.arm a).cause = some .abort) : (s.endStopping a).arm a = { (s.arm a).emptied with
    state := (s.arm a).between
    queue := ((s.endStopping a).arm a).queue
    mounted := if (s.arm a).probeLost then .none else (s.arm a).settledMounted
    probeLost := false } := by
  rw [endStopping_abort by_, arm_applyProbeLost_same, arm_afterDone_same, arm_stopEnded_same]
  rfl

/-- The arm at the end of a stop by a fault or the stop line: in FAULT (R62 to R64). -/
theorem arm_endStopping_fault {f : FaultCode} (by_ : (s.arm a).cause = some cause) (code : cause.fault? = some f) :
    (s.endStopping a).arm a = { (s.arm a).emptied with
      state := .fault
      lastFault := some f
      mounted := if (s.arm a).probeLost then .none else (s.arm a).settledMounted
      probeLost := false } := by
  rw [endStopping_fault by_ code, arm_enterFault_same, State.ended, State.arm_modArm_same, arm_stopEnded_same]
  rfl

@[simp] theorem lanes_afterDone_paused (s : State) (a : Arm) :
    ((s.afterDone a).lanes.get a).paused = (s.lanes.get a).paused := by
  rw [afterDone_eq, lane_fill_paused]
  simp [State.ended]

/-- The fill after a completion takes nothing on a PAUSED lane (R42). -/
theorem queue_afterDone_paused (paused : (s.lanes.get a).paused = true) :
    ((s.afterDone a).arm a).queue = (s.arm a).queue := by
  rw [afterDone_eq, fill_eq_self (.inl (by simpa [State.ended] using paused)), State.arm_modArm_same, arm_releaseTest_same]
  simp [State.ended, ArmRec.emptied, ArmRec.quiet]

theorem queue_endStopping_abort (by_ : (s.arm a).cause = some .abort) (paused : (s.lanes.get a).paused = true) :
    ((s.endStopping a).arm a).queue = (s.arm a).queue := by
  rw [endStopping_abort by_, arm_applyProbeLost_same]
  exact (queue_afterDone_paused (by simpa using paused)).trans (by rw [arm_stopEnded_same])

/-- The header of the slot of a block that a stop has ended, its committed block in another slot (R62 to R64, R159). -/
theorem slotSays_endStopping_abort {b : Block} (by_ : (s.arm a).cause = some .abort) (exec : (s.arm a).exec = some b)
    (wf : s.shm.wf = true) (fits : (s.lanes.get a).slotBase b.slot.index + 32 ≤ 65536)
    (apart : ∀ d, (s.arm a).committed = some d → d.slot.index ≠ b.slot.index) :
    (s.endStopping a).slotSays a b.slot slotDone (4 + b.flags.bits) s.tickNo := by
  have written := slotSays_stopEnded (st := slotDone) (x := .aborted) (f := none) exec wf fits apart
  rw [endStopping_abort by_]
  have done := slotSays_afterDone (wf_stopEnded wf a _ _ _) (by decide) (by decide) written
  refine (keepsSlot_of_eq (shm_applyProbeLost _ a) (by rw [lanes_applyProbeLost])).slotSays ?_
  simpa [Status.code, faultCodeOf] using done

theorem slotSays_endStopping_fault {b : Block} {f : FaultCode} (by_ : (s.arm a).cause = some cause)
    (code : cause.fault? = some f) (exec : (s.arm a).exec = some b) (wf : s.shm.wf = true)
    (fits : (s.lanes.get a).slotBase b.slot.index + 32 ≤ 65536)
    (apart : ∀ d, (s.arm a).committed = some d → d.slot.index ≠ b.slot.index) :
    (s.endStopping a).slotSays a b.slot slotFaulted (f.code * 256 + b.flags.bits) s.tickNo := by
  have written := slotSays_stopEnded (st := slotFaulted) (x := .none) (f := some f) exec wf fits apart
  rw [endStopping_fault by_ code]
  refine (keepsSlot_of_eq ?_ ?_).slotSays (s := s.stopEnded a slotFaulted .none (some f)) ?_
  · simp [State.enterFault, State.ended, State.setNotice]
  · simp [State.ended]
  · simpa [Status.code, faultCodeOf] using written

end

end Sys2Proof.Machine
end


section
/-! PROOF. The abort (O22). -/

namespace Sys2Proof.Machine

/-! ## The slots that a pause flushes (R43, R159) -/

section
variable {s : State} {a : Arm} {l : List SlotCopy}

/-- Flushed slots change nothing but their headers (R43). -/
theorem get_flushSlots_outside (wf : s.shm.wf = true) {j : Nat}
    (apart : ∀ c ∈ l, j < (s.lanes.get a).slotBase c.index ∨ (s.lanes.get a).slotBase c.index + 4 ≤ j) :
    (State.flushSlots a l s).shm.get j = s.shm.get j := by
  induction l generalizing s with
  | nil => rfl
  | cons c l ih =>
    let t := s.completeMotionSlot a c ⟨slotFlushed, .none, none, {}⟩ none
    have wft : t.shm.wf = true := Shm.wf_writeList wf _ _
    refine (ih (s := t) wft fun d mem => apart d (List.mem_cons_of_mem _ mem)).trans ?_
    exact Shm.get_writeList_outside wf _ _ _ (by simpa using apart c List.mem_cons_self)

/-- Each flushed slot says so in its header, where no two entries are of one slot (R43, R159). -/
theorem get_flushSlots_header (wf : s.shm.wf = true) (nodup : (l.map SlotCopy.index).Nodup) {c : SlotCopy} (mem : c ∈ l)
    (fits : (s.lanes.get a).slotBase c.index + 4 ≤ 65536) {k : Nat} (low : k < 4) :
    (State.flushSlots a l s).shm.get ((s.lanes.get a).slotBase c.index + k) =
      (Completion.header ⟨slotFlushed, .none, none, {}⟩ c s.tickNo).getD k 0 := by
  induction l generalizing s with
  | nil => cases mem
  | cons d l ih =>
    let t := s.completeMotionSlot a d ⟨slotFlushed, .none, none, {}⟩ none
    have wft : t.shm.wf = true := Shm.wf_writeList wf _ _
    obtain ⟨new, rest⟩ := List.nodup_cons.1 nodup
    rcases List.mem_cons.1 mem with rfl | later
    · refine (get_flushSlots_outside (s := t) wft fun e later => ?_).trans ?_
      · have ne : e.index ≠ c.index := fun same => new (same ▸ List.mem_map_of_mem later)
        simp only [show t.lanes = s.lanes from rfl, LaneRec.slotBase]
        omega
      · exact get_writeSlot_header wf _ _ _ none _ k low (by omega)
    · exact ih (s := t) wft rest later fits

theorem noted_flushSlots_lane (some : l ≠ []) : (State.flushSlots a l s).noted (laneNotice a) := by
  cases l with
  | nil => exact absurd rfl some
  | cons c l => exact noted_flushSlots (noted_setNotice_same _ _) a l

end

/-! ## The abort (R62) -/

section
variable {s : State} {a : Arm}

theorem exec_abort (run : s.device = .run) : exec (.abort a) s = .next (s.abortArm a).settle :=
  congrArg Host.Outcome.next (if_pos run)

/-- In FAULT and in STOPPING an abort does nothing (R62). -/
theorem abortArm_stopped (state : (s.arm a).state = .fault ∨ (s.arm a).state = .stopping) : s.abortArm a = s := by
  unfold State.abortArm
  rcases state with e | e <;> simp only [e]

theorem abortArm_idle (fault : (s.arm a).state ≠ .fault) (stopping : (s.arm a).state ≠ .stopping)
    (exec : (s.arm a).exec = none) : s.abortArm a = s.pauseLane a := by
  unfold State.abortArm
  rw [exec]
  cases state : (s.arm a).state
  case fault => exact absurd state fault
  case stopping => exact absurd state stopping
  all_goals rfl

theorem abortArm_block (fault : (s.arm a).state ≠ .fault) (stopping : (s.arm a).state ≠ .stopping)
    (exec : (s.arm a).exec ≠ none) : s.abortArm a = s.enterStopping a .abort := by
  obtain ⟨b, exec⟩ := Option.ne_none_iff_exists'.1 exec
  unfold State.abortArm
  rw [exec]
  cases state : (s.arm a).state
  case fault => exact absurd state fault
  case stopping => exact absurd state stopping
  all_goals rfl

end

/-- An arm that executes a block at rest, the other arm not waiting for its grant. -/
theorem resting_of {s : State} {a : Arm} (h : s.restingBlock a = true) :
    s.runsOn a = false ∧ ((s.arm a).state = .active ∨ (s.arm a).state = .held) ∧ s.unasked a = true := by
  simp only [State.restingBlock, Bool.and_eq_true, Bool.or_eq_true, beq_iff_eq, Bool.not_eq_true'] at h
  obtain ⟨⟨⟨-, rest⟩, state⟩, unasked⟩ := h
  exact ⟨by simp [State.runsOn, rest], state, unasked⟩

/-- Settles O22: standing by standing; a block at rest ends within the command, and its release test decides the holder. -/
theorem abortActsByStanding : Obligations.AbortActsByStanding := by
  refine ⟨fun s a => ⟨fun off => ?_, fun settled state => ?_, fun run settled fault stopping exec opened wf => ?_⟩,
    fun s a b calm run resting exec single wf fits => ?_, fun s a settled run exec active moves fast opened => ?_⟩
  · exact congrArg Host.Outcome.next (if_neg off)
  · show Host.Outcome.next (if s.device = .run then (s.abortArm a).settle else s) = _
    rw [abortArm_stopped state, settle_of_settled settled, ite_self]
  · let u : State := ({ s with lanes := s.lanes.set a { s.lanes.get a with paused := true } }.modArm a
      fun r => { r with queue := [] })
    have step : s.abortArm a = State.flushSlots a (s.arm a).queue u :=
      (abortArm_idle fault stopping exec).trans (pauseLane_open opened)
    have lanes : (State.flushSlots a (s.arm a).queue u).lanes = s.lanes.set a { s.lanes.get a with paused := true } := by
      simp [u]
    have base (c : SlotCopy) : (u.lanes.get a).slotBase c.index = (s.lanes.get a).slotBase c.index := by
      simp [u, LaneRec.slotBase]
    have core : (State.flushSlots a (s.arm a).queue u).core = s.core :=
      (congrArg State.core (pauseLane_open opened)).symm.trans (core_pauseLane s a)
    have still : { s.arm a with queue := [] }.still := still_of_settled settled a
    have done : (State.flushSlots a (s.arm a).queue u).settled = true :=
      (settled_congr (s := s.setArm a { s.arm a with queue := [] }) (by rw [arms_flushSlots]; rfl)
        (congrArg (fun c => c.corr.swapPending) core)).trans (settled_setArm settled rfl rfl rfl still)
    have header (nodup : ((s.arm a).queue.map SlotCopy.index).Nodup) (c : SlotCopy) (mem : c ∈ (s.arm a).queue)
        (fits : (s.lanes.get a).slotBase c.index + 4 ≤ 65536) (k : Nat) (low : k < 4) :=
      get_flushSlots_header (s := u) (a := a) wf nodup mem (by rwa [base]) low
    refine ⟨State.flushSlots a (s.arm a).queue u, ?_, by rw [lanes, Duo.get_set_same], by rw [lanes, Duo.get_set_same],
      ?_, ?_, by rw [lanes, Duo.get_set_other], by simp [u], congrArg Core.corr core, by simp [u], by simp [u],
      congrArg Core.therm core, fun j apart => ?_, noted_flushSlots_lane, fun nodup c mem room => ⟨?_, ?_, ?_, ?_⟩⟩
    · rw [exec_abort run, step, settle_of_settled done]
    · simp [u]
    · simp [u]
    · exact get_flushSlots_outside (s := u) wf fun c mem => by rw [base]; exact apart c mem
    · have word := header nodup c mem room 0 (by decide)
      rwa [base, Nat.add_zero] at word
    · have word := header nodup c mem room 1 (by decide)
      rwa [base] at word
    · have word := header nodup c mem room 2 (by decide)
      rwa [base] at word
    · have word := header nodup c mem room 3 (by decide)
      rwa [base] at word
  · obtain ⟨rest, standing, unasked⟩ := resting_of resting
    let h := s.halted a .abort
    have own : h.arm a = { (s.arm a).stopping .abort with queue := s.pausedQueue a } := arm_halted_same s a _
    have by_ : (h.arm a).cause = some .abort := by rw [own]; rfl
    have exec' : (h.arm a).exec = some b := by rw [own]; exact exec
    have core : h.core = s.core := core_halted s a .abort
    have releases := releases_endStopping_abort (s := s) (r := s.arm a.other) by_ (sameZone_of_withdraw (zone_halted s a _))
      (arm_halted_other s a _) (armCalm_of_calm calm _) ((congrArg (fun c => c.corr.swapPending) core).trans
        (swapPending_of_calm calm)) (congrArg Core.settings core)
    have cmd : (((h.stopEnded a slotDone .aborted none).ended a).arm a).cmd = (s.arm a).cmd := by
      rw [State.ended, State.arm_modArm_same, arm_stopEnded_same, own]
      rfl
    obtain ⟨r, settle, handed⟩ := settle_release (v := (s.arm a).cmd) (needs := some _) releases cmd (fun m e => Option.some.inj e)
      (.inl unasked) ⟨_, rfl⟩
    obtain ⟨other, tested⟩ := handed.1 unasked
    let post := h.endStopping a
    have after := arm_endStopping_abort by_
    rw [own] at after
    have lanes : (post.lanes.get a).base = (s.lanes.get a).base ∧ (post.lanes.get a).paused = true := by
      simp [post, endStopping_abort by_, h]
    have base : (post.lanes.get a).slotBase b.slot.index = (s.lanes.get a).slotBase b.slot.index := by
      simp [LaneRec.slotBase, lanes.1]
    have told : post.slotSays a b.slot slotDone (4 + b.flags.bits) h.tickNo :=
      slotSays_endStopping_abort by_ exec' (wf_halted wf a _) (by simpa [h, LaneRec.slotBase] using fits)
        (fun d committed => by rw [own] at committed; cases single.symm.trans committed)
    obtain ⟨header, info, tick⟩ := told
    rw [base] at header info tick
    have noted : post.noted (laneNotice a) := by
      show (h.endStopping a).noted _
      rw [endStopping_abort by_]
      exact noted_applyProbeLost (noted_afterDone (noted_stopEnded_lane (by simp [exec'])) a) a
    have empty (opened : (s.lanes.get a).paused = false) : s.pausedQueue a = [] := if_neg (by simp [opened])
    have arm : (post.setArm a.other r).arm a = post.arm a := by rw [State.arm_other_setArm]
    refine ⟨post.settle, ?_, ?_⟩
    · rw [exec_abort run, abortArm_block (by rcases standing with e | e <;> simp [e])
        (by rcases standing with e | e <;> simp [e]) (by simp [exec]), enterStopping_rest rest]
    rw [settle] at other tested ⊢
    refine ⟨?_, ?_, lanes.2, fun opened => ⟨?_, ?_⟩, ?_, other, noted, header, info, ?_⟩
    · rw [arm, after]
      rfl
    · rw [arm, after]
      rfl
    · rw [arm]
      exact (queue_endStopping_abort by_ (by simp [h])).trans (by rw [own]; exact empty opened)
    · have none : ((h.stopEnded a slotDone .aborted none).ended a).nextNeedsZone a = false := by
        refine nextNeedsZone_of_queueNeeds ?_ ?_
        · rw [State.ended, State.arm_modArm_same]
          rfl
        · rw [State.ended, State.arm_modArm_same, arm_stopEnded_same, own]
          exact congrArg queueNeeds (empty opened)
      rwa [none] at tested
    · rw [arm, after]
      rfl
    · rw [show (post.setArm a.other r).shm = post.shm from rfl, tick]
      exact congrArg Core.tickNo core
  · let h := s.halted a .abort
    have core : h.core = s.core := core_halted s a .abort
    refine ⟨h, ?_, arm_halted_open opened _, by simp [h], arm_halted_other s a _, by simp [h], by simp [h], congrArg Core.corr core, by simp [h],
      congrArg Core.therm core, by simp [h, State.zoneWithdraw]⟩
    rw [exec_abort run, abortArm_block (by simp [active]) (by simp [active]) exec,
      enterStopping_runs (runsOn_of_active active moves fast), settle_of_settled (settled_halted settled moves _)]

end Sys2Proof.Machine
end


section
/-! PROOF. The collision and the stop line (O19, O50). -/

namespace Sys2Proof.Machine

section
variable {s : State} {a : Arm}

/-- A line change that fires no unit of a block changes the units alone (R83). -/
theorem lineChange_unfired {input : CaptureInput} {x : Bool} (unfired : s.firing a input x = false) :
    s.lineChange a input x =
      { s with latches := mapTable (LatchUnit.onEdge a input x (s.captureNow a x)) s.latches } := by
  unfold State.lineChange
  rw [unfired]
  rfl

/-- An arm-level fault of an ACTIVE or HELD arm begins its stop (R64). -/
theorem armFault_stops (state : (s.arm a).state ≠ .stopping) (fault : (s.arm a).state ≠ .fault) (f : FaultCode) :
    s.armFault a f = s.enterStopping a (.fault f) := by
  unfold State.armFault
  cases e : (s.arm a).state
  case fault => exact absurd e fault
  case stopping => exact absurd e state
  all_goals rfl

end

/-- Settles O50: the trigger watch takes the touch as an arm-level fault, and the arm has a velocity. -/
theorem collisionStopsArm : Obligations.CollisionStopsArm := by
  intro s a calm free watch unfired active fast
  have moves : (s.arm a).moving = true := by
    simp only [State.watchOn, Bool.and_eq_true] at watch
    exact watch.1.1.2
  let w : State := { s.setTrig a true with
    latches := mapTable (LatchUnit.onEdge a .trig true ((s.setTrig a true).captureNow a true)) s.latches }
  have changed : s.trigChanged a true = w.armFault a .collision := by
    unfold State.trigChanged
    rw [lineChange_unfired (by exact unfired), watch]
    rfl
  have settled : w.settled = true := (settled_congr (s := s) (t := w) rfl rfl).trans (settled_of_calm calm)
  have step : (s.trigChanged a true).settle = w.halted a (.fault .collision) := by
    rw [changed, armFault_stops (s := w) (by rw [show w.arm a = s.arm a from rfl, active]; nofun)
      (by rw [show w.arm a = s.arm a from rfl, active]; nofun), enterStopping_runs (s := w) (runsOn_of_active active moves fast),
      settle_of_settled (settled_halted (s := w) settled moves _)]
  have own : (w.halted a (.fault .collision)).arm a = { (s.arm a).stopping (.fault .collision) with queue := w.pausedQueue a } :=
    arm_halted_same w a _
  refine ⟨w.halted a (.fault .collision), ?_, by rw [own]; rfl, by rw [own]; rfl, by rw [own]; exact moves, by rw [own]; rfl,
    by rw [own]; rfl, by simp, arm_halted_other w a _⟩
  rw [← step]
  exact congrArg Host.Outcome.next (if_neg (by simp [free]))

/-! ## The stop line at an arm (R63) -/

section
variable {s : State} {a : Arm}

/-- A release test leaves the other arm as it is, or hands it the grant that it waits for (R73). -/
theorem arm_releaseTest_other_cases (s : State) (a : Arm) (n : Bool) :
    (s.releaseTest a n).arm a.other = s.arm a.other ∨
      (s.unasked a = false ∧ (s.releaseTest a n).arm a.other = { s.arm a.other with due := some .stepSix }) := by
  cases unasked : s.unasked a
  · rcases s.releaseTest_cases a n with ⟨e, -⟩ | ⟨e, -⟩
    · exact .inl (by rw [e])
    · have asked : s.zone.waits.get a.other ≠ .idle := by
        intro idle
        simp [State.unasked, idle] at unasked
      rw [e, State.zoneRelease_waiting asked]
      exact .inr ⟨rfl, arm_zoneGrant_same s a.other⟩
  · exact .inl (arm_releaseTest_other unasked n)

theorem arm_enterFault_other_cases (s : State) (a : Arm) (f : FaultCode) :
    (s.enterFault a f).arm a.other = s.arm a.other ∨
      (s.unasked a = false ∧ (s.enterFault a f).arm a.other = { s.arm a.other with due := some .stepSix }) := by
  rw [enterFault_eq, arm_applyProbeLost_other]
  have cases := arm_releaseTest_other_cases (s.faulting a f) a false
  rwa [State.faulting, arm_setNotice, State.arm_modArm_other] at cases

theorem stopLineArm_fault (fault : (s.arm a).state = .fault) : s.stopLineArm a = s := by
  unfold State.stopLineArm
  rw [fault]

theorem stopLineArm_stopping (stopping : (s.arm a).state = .stopping) : s.stopLineArm a =
    s.modArm a fun r => { r with cause := if r.cause = some .abort then some .stopLine else r.cause } := by
  unfold State.stopLineArm
  rw [stopping]

theorem stopLineArm_block (fault : (s.arm a).state ≠ .fault) (stopping : (s.arm a).state ≠ .stopping)
    (exec : (s.arm a).exec ≠ none) : s.stopLineArm a = s.enterStopping a .stopLine := by
  obtain ⟨b, exec⟩ := Option.ne_none_iff_exists'.1 exec
  unfold State.stopLineArm
  rw [exec]
  cases state : (s.arm a).state
  case fault => exact absurd state fault
  case stopping => exact absurd state stopping
  all_goals rfl

/-- The ways the stop line can act on an arm (R63). -/
theorem stopLineArm_cases (s : State) (a : Arm) :
    ((s.arm a).state = .fault ∧ s.stopLineArm a = s) ∨
      ((s.arm a).state = .stopping ∧ s.stopLineArm a =
        s.modArm a fun r => { r with cause := if r.cause = some .abort then some .stopLine else r.cause }) ∨
      s.stopLineArm a = (s.pauseLane a).enterFault a .stopLine ∨ s.stopLineArm a = s.halted a .stopLine ∨
      s.stopLineArm a = (s.halted a .stopLine).endStopping a := by
  by_cases fault : (s.arm a).state = .fault
  · exact .inl ⟨fault, stopLineArm_fault fault⟩
  by_cases stopping : (s.arm a).state = .stopping
  · exact .inr (.inl ⟨stopping, stopLineArm_stopping stopping⟩)
  by_cases exec : (s.arm a).exec = none
  · exact .inr (.inr (.inl (stopLineArm_idle exec fault stopping)))
  rw [stopLineArm_block fault stopping exec]
  cases runs : s.runsOn a
  · exact .inr (.inr (.inr (.inr (enterStopping_rest runs))))
  · exact .inr (.inr (.inr (.inl (enterStopping_runs runs))))

/-- The cause with which the stop line enters STOPPING. -/
theorem cause_halted (s : State) (a : Arm) (cause : Cause) : ((s.halted a cause).arm a).cause = some cause := by
  rw [arm_halted_same]
  rfl

/-- The arm that the stop line has acted on is STOPPING or in FAULT. -/
theorem stopLineArm_own (due : (s.arm a).due ≠ some .segEnd) :
    ((s.stopLineArm a).arm a).state ≠ .active ∧ ((s.stopLineArm a).arm a).due ≠ some .segEnd := by
  rcases stopLineArm_cases s a with ⟨state, e⟩ | ⟨state, e⟩ | e | e | e
  · rw [e, state]
    exact ⟨nofun, due⟩
  · rw [e, State.arm_modArm_same]
    exact ⟨by rw [state]; nofun, due⟩
  · rw [e, arm_enterFault_same, arm_pauseLane_same]
    exact ⟨nofun, due⟩
  · rw [e, arm_halted_same]
    exact ⟨nofun, nofun⟩
  · rw [e, arm_endStopping_fault (cause_halted s a _) rfl]
    exact ⟨nofun, nofun⟩

/-- The other arm is not concerned by the stop line at an arm, but for the grant that it may be handed (R73). -/
theorem arm_stopLineArm_other_cases (s : State) (a : Arm) :
    (s.stopLineArm a).arm a.other = s.arm a.other ∨
      (s.unasked a = false ∧ (s.stopLineArm a).arm a.other = { s.arm a.other with due := some .stepSix }) := by
  rcases stopLineArm_cases s a with ⟨-, e⟩ | ⟨-, e⟩ | e | e | e
  · exact .inl (by rw [e])
  · exact .inl (by rw [e, State.arm_modArm_other])
  · rw [e]
    have cases := arm_enterFault_other_cases (s.pauseLane a) a .stopLine
    rwa [arm_pauseLane_other, unasked_of_sameZone (sameZone_of_eq (zone_pauseLane s a))] at cases
  · exact .inl (by rw [e, arm_halted_other])
  · rw [e, endStopping_fault (cause_halted s a _) rfl]
    have zone : s.sameZone (((s.halted a .stopLine).stopEnded a slotFaulted .none (some .stopLine)).ended a) a :=
      sameZone_of_withdraw (by rw [State.ended, State.modArm_zone, zone_stopEnded, zone_halted])
    have cases := arm_enterFault_other_cases
      (((s.halted a .stopLine).stopEnded a slotFaulted .none (some .stopLine)).ended a) a .stopLine
    rwa [unasked_of_sameZone zone, State.ended, State.arm_modArm_other, arm_stopEnded_other, arm_halted_other] at cases

/-- The second arm as the first arm's stop leaves it: what is due at it may have changed (R73). -/
theorem exists_due_stopLineArm (s : State) (a : Arm) :
    ∃ d, (s.stopLineArm a).arm a.other = { s.arm a.other with due := d } := by
  rcases arm_stopLineArm_other_cases s a with e | ⟨-, e⟩
  · exact ⟨_, e⟩
  · exact ⟨_, e⟩

/-- An arm that waits for no grant is not concerned by the stop line at the other arm (R73). -/
theorem arm_stopLineArm_of_idle (idle : s.zone.waits.get a.other = .idle) :
    (s.stopLineArm a).arm a.other = s.arm a.other := by
  rcases arm_stopLineArm_other_cases s a with e | ⟨asked, -⟩
  · exact e
  · simp [State.unasked, idle] at asked

/-- The stop line at an arm leaves the other arm's lane as it is. -/
theorem lane_stopLineArm_other (s : State) (a : Arm) : (s.stopLineArm a).lanes.get a.other = s.lanes.get a.other := by
  rcases stopLineArm_cases s a with ⟨-, e⟩ | ⟨-, e⟩ | e | e | e
  · rw [e]
  · rw [e, State.modArm_lanes]
  · rw [e, lanes_enterFault, lanes_pauseLane, Duo.get_set_other]
  · rw [e, lanes_halted, Duo.get_set_other]
  · rw [e, endStopping_fault (cause_halted s a _) rfl, lanes_enterFault, State.ended, State.modArm_lanes, lanes_stopEnded,
      lanes_halted, Duo.get_set_other]

/-- The stop line pauses the lane of an arm that is neither STOPPING nor in FAULT. -/
theorem paused_stopLineArm (state : (s.arm a).state ≠ .fault ∧ (s.arm a).state ≠ .stopping) :
    ((s.stopLineArm a).lanes.get a).paused = true := by
  rcases stopLineArm_cases s a with ⟨fault, -⟩ | ⟨stopping, -⟩ | e | e | e
  · exact absurd fault state.1
  · exact absurd stopping state.2
  · rw [e, lanes_enterFault, lanes_pauseLane, Duo.get_set_same]
  · rw [e, lanes_halted, Duo.get_set_same]
  · rw [e, endStopping_fault (cause_halted s a _) rfl, lanes_enterFault, State.ended, State.modArm_lanes, lanes_stopEnded,
      lanes_halted, Duo.get_set_same]

theorem noted_stopLineArm {n : Notice} (h : s.noted n) (a : Arm) : (s.stopLineArm a).noted n := by
  rcases stopLineArm_cases s a with ⟨-, e⟩ | ⟨-, e⟩ | e | e | e
  · rwa [e]
  · rwa [e, noted_modArm]
  · rw [e]
    exact noted_enterFault (noted_pauseLane h a) a _
  · rw [e]
    exact noted_halted h a _
  · rw [e, endStopping_fault (cause_halted s a _) rfl]
    exact noted_enterFault ((noted_modArm a _).2 (noted_stopEnded (noted_halted h a _) a _ _ _)) a _

end

/-! ## A fall of the stop line (R173) -/

/-- The state in which the first arm meets a fall of the stop line (R173, R174). -/
def State.stopFallen (s : State) : State := ((s.setStop true).setStopState .active false).setNotice .stopLine

section
variable {s : State} {a first : Arm}

theorem exec_stopInFall (run : s.device = .run) (released : s.unit.stop = .released) (high : s.pins.stopLow = false) :
    exec (.stopInFall first) s =
      .next (((s.stopFallen.stopLineArm first).swapBetween.stopLineArm first.other).settle) := by
  show Host.Outcome.next (if s.pins.stopLow then s else if s.unit.stop = .released then
    (s.setStop true).stopActivated first else _) = _
  rw [if_neg (by simp [high]), if_pos released]
  exact congrArg Host.Outcome.next (if_pos run)

/-- Once both arms are STOPPING or in FAULT no work is left, as long as no swap is ready. -/
theorem settled_of_stopped {t : State} (ready : t.swapReady = false)
    (stopped : ∀ x, (t.arm x).state ≠ .active ∧ (t.arm x).due ≠ some .segEnd) : t.settled = true := by
  refine (settled_iff t).2 ⟨ready, fun x => ?_, fun x => ?_⟩
  · rw [Bool.eq_false_iff, ne_eq, State.swapReleased_iff]
    exact fun waits => (stopped x).1 waits.1
  · exact (calm_of_not_active (stopped x).1 (stopped x).2).1

/-- The stop line at the second arm leaves neither arm ACTIVE (R63). -/
theorem stopped_both {w : State} (own : (w.arm a).due ≠ some .segEnd)
    (other : (w.arm a.other).state ≠ .active ∧ (w.arm a.other).due ≠ some .segEnd) (x : Arm) :
    ((w.stopLineArm a).arm x).state ≠ .active ∧ ((w.stopLineArm a).arm x).due ≠ some .segEnd := by
  rcases a.eq_or_other x with rfl | rfl
  · exact stopLineArm_own own
  · rcases arm_stopLineArm_other_cases w a with e | ⟨-, e⟩
    · rwa [e]
    · rw [e]
      exact ⟨other.1, nofun⟩

/-- The second arm meets the stop line with what the first arm's stop left of what was due at it. -/
theorem due_stopLineArm_other (h : (s.arm a.other).due ≠ some .segEnd) :
    ((s.stopLineArm a).arm a.other).due ≠ some .segEnd := by
  rcases arm_stopLineArm_other_cases s a with e | ⟨-, e⟩
  · rwa [e]
  · rw [e]
    nofun

end

/-- An arm between blocks has been taken to FAULT by the stop line, where it stands (R63). -/
def ArmRec.stoppedBetween (r t : ArmRec) : Prop :=
  t.state = .fault ∧ t.lastFault = some .stopLine ∧ t.queue = [] ∧ t.cmd = r.cmd ∧ t.referenced = r.referenced ∧
    t.frameOffset = r.frameOffset ∧ t.mounted = r.mounted

section
variable {s w : State} {a : Arm}

theorem stoppedBetween_stopLineArm {r : ArmRec} {d : Option Due} (arm : s.arm a = { r with due := d }) (exec : r.exec = none)
    (kept : r.probeLost = false) (state : r.state ≠ .fault ∧ r.state ≠ .stopping) (empty : s.pausedQueue a = []) :
    r.stoppedBetween ((s.stopLineArm a).arm a) := by
  rw [arm_stopLineArm_idle (by rw [arm]; exact exec) (by rw [arm]; exact state.1) (by rw [arm]; exact state.2), empty, arm,
    kept]
  exact ⟨rfl, rfl, rfl, rfl, rfl, rfl, rfl⟩

/-- A grant that is handed over does not touch what the stop line has left of the arm. -/
theorem stoppedBetween_other {r : ArmRec} (h : r.stoppedBetween (w.arm a.other)) :
    r.stoppedBetween ((w.stopLineArm a).arm a.other) := by
  rcases arm_stopLineArm_other_cases w a with e | ⟨-, e⟩ <;> rw [e]
  · exact h
  · exact h

theorem swapReady_of_unpending (pending : s.corr.swapPending = false) : s.swapReady = false := by
  simp [State.swapReady, pending]

theorem swapReady_of_executing (executing : s.executing a = true) : s.swapReady = false := by
  cases a <;> simp [State.swapReady, executing]

theorem swapPending_stopFallen (calm : s.calm = true) : (s.stopFallen.stopLineArm a).corr.swapPending = false :=
  (congrArg (fun c => c.corr.swapPending) (core_stopLineArm s.stopFallen a)).trans (swapPending_of_calm calm)

/-- Where no swap is pending the second arm meets the line right after the first (R20, R63). -/
theorem exec_stopInFall_calm {first : Arm} (calm : s.calm = true) (run : s.device = .run) (released : s.unit.stop = .released)
    (high : s.pins.stopLow = false) : exec (.stopInFall first) s =
      .next ((s.stopFallen.stopLineArm first).stopLineArm first.other) := by
  have pending := swapPending_stopFallen (a := first) calm
  have still (x : Arm) : (s.arm x).due ≠ some .segEnd := (armCalm_of_calm calm x).1.1
  rw [exec_stopInFall run released high, State.swapBetween_idle pending, settle_of_settled]
  refine settled_of_stopped ?_ (stopped_both (due_stopLineArm_other (still _)) ?_)
  · exact swapReady_of_unpending ((congrArg (fun c => c.corr.swapPending) (core_stopLineArm _ _)).trans pending)
  · rw [Arm.other_other]
    exact stopLineArm_own (still _)

end

/-! ## A block at rest that the stop line ends (R63) -/

section
variable {s w : State} {a : Arm} {b : Block}

/-- The stop line at an arm with no block and an empty queue writes no slot and, where the arm holds no grant, leaves the zone. -/
theorem stopLineArm_empty (exec : (w.arm a).exec = none) (empty : (w.arm a).queue = []) (stopping : (w.arm a).state ≠ .stopping) :
    (w.stopLineArm a).shm = w.shm ∧ (w.zone.holder ≠ some a → (w.stopLineArm a).zone = w.zone) := by
  by_cases fault : (w.arm a).state = .fault
  · rw [stopLineArm_fault fault]
    exact ⟨rfl, fun _ => rfl⟩
  · rw [stopLineArm_idle exec fault stopping]
    have shm : (w.pauseLane a).shm = w.shm := by
      cases opened : (w.lanes.get a).paused
      · rw [pauseLane_open opened, empty]
        rfl
      · rw [pauseLane_paused opened]
    refine ⟨?_, fun unheld => ?_⟩
    · rw [← shm, enterFault_eq, shm_applyProbeLost, shm_releaseTest]
      rfl
    · rw [zone_enterFault_unheld (by rw [zone_pauseLane]; exact unheld), zone_pauseLane]

/-- What the stop line leaves of an arm that executes a block at rest (R63, R64). -/
structure State.LineStopped (s t : State) (a : Arm) (b : Block) : Prop where
  state : (t.arm a).state = .fault
  code : (t.arm a).lastFault = some .stopLine
  exec : (t.arm a).exec = none
  cmd : (t.arm a).cmd = (s.arm a).cmd
  paused : (t.lanes.get a).paused = true
  empty : (s.lanes.get a).paused = false → (t.arm a).queue = []
  told : t.slotSays a b.slot slotFaulted (FaultCode.stopLine.code * 256 + b.flags.bits) s.tickNo

/-- Steps that keep the core keep the place of a slot. -/
theorem base_of_core {t : State} (core : t.core = s.core) (a : Arm) : (t.lanes.get a).base = (s.lanes.get a).base := by
  cases a
  · exact congrArg Core.baseA core
  · exact congrArg Core.baseB core

/-- A release test that hands the grant on where the state of the arm at it is in the zone as before. -/
theorem tested_of_releaseTest {pre t : State} {v : Vec} {n : Bool} (zone : s.sameZone pre a) (unasked : s.unasked a = true)
    (after : t.zone = (pre.releaseTest a n).zone) (cmd : (pre.arm a).cmd = v) : s.tested t a v (some n) := by
  have test := State.releaseTest_tested pre a n ((unasked_of_sameZone zone).trans unasked)
  rw [cmd] at test
  refine tested_of_sameZone zone ?_
  unfold State.tested at test ⊢
  rwa [after]

/-- The stop line at the other arm, where that writes no slot, leaves what it has left of this one. -/
theorem State.LineStopped.kept {v : State} (h : s.LineStopped v a b) (shm : (v.stopLineArm a.other).shm = v.shm) :
    s.LineStopped (v.stopLineArm a.other) a b := by
  obtain ⟨d, arm⟩ := exists_due_stopLineArm v a.other
  have lane := lane_stopLineArm_other v a.other
  rw [Arm.other_other] at arm lane
  constructor
  · rw [arm]
    exact h.state
  · rw [arm]
    exact h.code
  · rw [arm]
    exact h.exec
  · rw [arm]
    exact h.cmd
  · rw [lane]
    exact h.paused
  · rw [arm]
    exact h.empty
  · have told := h.told
    unfold State.slotSays at told ⊢
    rwa [shm, lane]

/-- An outcome of the release test gives the grant to no arm that did not hold it. -/
theorem unheld_of_tested {t : State} {v : Vec} {n : Bool} {x : Arm} (h : s.tested t a v (some n))
    (unheld : s.zone.holder ≠ some x) : t.zone.holder ≠ some x := by
  obtain ⟨-, freed, left⟩ := h
  by_cases gives : s.zone.holder = some a ∧ s.clears a v ∧ n = false
  · rw [freed gives.1 gives.2.1 (congrArg some gives.2.2)]
    nofun
  · rwa [left (by cases n <;> simp at gives ⊢; tauto)]

/-- The stop line at an arm that executes a block at rest: it stands as in `s`, but for what is due (R63). -/
theorem lineStopped_stopLineArm {d : Option Due} (arm : w.arm a = { s.arm a with due := d }) (lanes : w.lanes.get a = s.lanes.get a)
    (shm : w.shm = s.shm) (tick : w.tickNo = s.tickNo) (rest : s.runsOn a = false)
    (state : (s.arm a).state = .active ∨ (s.arm a).state = .held) (exec : (s.arm a).exec = some b)
    (single : (s.arm a).committed = none) (wf : s.shm.wf = true) (fits : (s.lanes.get a).slotBase b.slot.index + 32 ≤ 65536) :
    s.LineStopped (w.stopLineArm a) a b ∧
      (w.zone = s.zone → s.unasked a = true → s.tested (w.stopLineArm a) a (s.arm a).cmd (some false)) := by
  have out : (w.arm a).state ≠ .fault ∧ (w.arm a).state ≠ .stopping := by
    rw [arm]
    rcases state with e | e <;> rw [show ({ s.arm a with due := d } : ArmRec).state = _ from e] <;> exact ⟨nofun, nofun⟩
  have step : w.stopLineArm a = (w.halted a .stopLine).endStopping a := by
    rw [stopLineArm_block out.1 out.2 (by rw [arm]; simp [exec])]
    refine enterStopping_rest ?_
    rw [State.runsOn, arm]
    exact rest
  let h := w.halted a .stopLine
  have cause : (h.arm a).cause = some .stopLine := cause_halted w a _
  have own : h.arm a = { (w.arm a).stopping .stopLine with queue := w.pausedQueue a } := arm_halted_same w a _
  have after := arm_endStopping_fault cause (f := .stopLine) rfl
  rw [← step] at after
  have ticks : h.tickNo = s.tickNo := (congrArg Core.tickNo (core_halted w a .stopLine)).trans tick
  have told : (w.stopLineArm a).slotSays a b.slot slotFaulted (FaultCode.stopLine.code * 256 + b.flags.bits) h.tickNo := by
    rw [step]
    refine slotSays_endStopping_fault cause rfl (by rw [own, arm]; exact exec) (wf_halted (by rw [shm]; exact wf) a _) ?_
      fun c committed => ?_
    · rw [lanes_halted, Duo.get_set_same, lanes]
      exact fits
    · rw [own, arm] at committed
      cases single.symm.trans committed
  rw [ticks] at told
  refine ⟨⟨by rw [after], by rw [after], by rw [after]; rfl, ?_, paused_stopLineArm out, fun opened => ?_, told⟩,
    fun zone unasked => tested_of_releaseTest
      (pre := ((h.stopEnded a slotFaulted .none (some .stopLine)).ended a).faulting a .stopLine) ?_ unasked ?_ ?_⟩
  · rw [after, own, arm]
    rfl
  · rw [after, own]
    show w.pausedQueue a = []
    rw [State.pausedQueue, lanes, opened]
    rfl
  · exact sameZone_of_withdraw ((zone_stopEnded h a _ _ _).trans ((zone_halted w a _).trans (by
      rw [State.zoneWithdraw, State.zoneWithdraw, zone])))
  · rw [step, endStopping_fault cause rfl, enterFault_eq, zone_applyProbeLost]
  · rw [State.faulting, arm_setNotice, State.arm_modArm_same, State.ended, State.arm_modArm_same, arm_stopEnded_same, own, arm]
    rfl

/-- A ready swap that one arm waits for takes effect, and that arm passes its swap check (R20). -/
theorem swapBetween_one (ready : s.swapReady = true) (goes : s.doSwap.swapReleased a = true)
    (stays : s.doSwap.swapReleased a.other = false) : s.swapBetween = s.doSwap.passSwap a := by
  rcases s.swapBetween_cases with ⟨-, none⟩ | ⟨-, ⟨-, none⟩ | ⟨x, goesX, -, e⟩ | ⟨x, both, -⟩⟩
  · cases ready.symm.trans none
  · cases goes.symm.trans (none a)
  · rcases a.eq_or_other x with rfl | rfl
    · exact e
    · cases goesX.symm.trans stays
  · cases (both a.other).symm.trans stays

/-- An arm that a swap lets go on passes its swap check as from the start check (R20). -/
theorem passSwap_released (exec : (s.arm a).exec = some b) :
    s.passSwap a = (s.setArm a { s.arm a with phase := .startCheck }).passSwap a := by
  have stands : (s.setArm a { s.arm a with phase := .startCheck }).setPhase a .startCheck = s.setPhase a .startCheck := by
    rw [setPhase_setArm]
    rfl
  unfold State.passSwap
  rw [State.arm_setArm_same, stands]
  simp only [exec]

/-- A SET_FRAME that passes its swap check in the middle of a command: between blocks, its offset replaced (R6, R20). -/
theorem passSwap_setFrame_released (exec : (s.arm a).exec = some b) (kind : b.slot.kind = some .setFrame) :
    s.passSwap a = ((((s.setArm a { s.arm a with phase := .startCheck, frameOffset := b.slot.vec 4 }).writeBlock a b slotDone .ok
      none (vecWords (s.arm a).frameOffset))).afterDone a) := by
  rw [passSwap_released exec, passSwap_setFrame (r := { s.arm a with phase := .startCheck }) exec rfl kind,
    completeWith_some (by rw [State.arm_setArm_same]; exact exec)]

end

section
variable {s w : State} {a : Arm} {b : Block}

theorem between_apart (r : ArmRec) : r.between ≠ .fault ∧ r.between ≠ .stopping := by
  unfold ArmRec.between ArmRec.free
  repeat' split
  all_goals decide

theorem arm_afterDone_other_cases (s : State) (a : Arm) : (s.afterDone a).arm a.other = s.arm a.other ∨
    (s.afterDone a).arm a.other = { s.arm a.other with due := some .stepSix } := by
  rw [arm_afterDone_other]
  rcases arm_releaseTest_other_cases (s.ended a) a ((s.ended a).nextNeedsZone a) with e | ⟨-, e⟩
  · exact .inl (e.trans (State.arm_modArm_other _ _ _))
  · rw [State.ended, State.arm_modArm_other] at e
    exact .inr e

theorem noted_passSwap_setFrame {n : Notice} (exec : (w.arm a).exec = some b) (kind : b.slot.kind = some .setFrame)
    (h : w.noted n) : (w.passSwap a).noted n := by
  have stands (r : ArmRec) : (w.setArm a r).noted n := h
  rw [passSwap_setFrame_released exec kind]
  exact noted_afterDone (noted_writeBlock (stands _) a b slotDone .ok none (vecWords (w.arm a).frameOffset)) a

/-- A SET_FRAME that passes its swap check and then meets the stop line: its offset is replaced, its arm in FAULT, and the
other arm as before but for what is due (R6, R20, R63). -/
theorem setFrame_stopLine (exec : (w.arm a).exec = some b) (kind : b.slot.kind = some .setFrame) :
    let t := (w.passSwap a).stopLineArm a
    (t.arm a).frameOffset = b.slot.vec 4 ∧ (t.arm a).state = .fault ∧ (t.arm a).lastFault = some .stopLine ∧
      (t.arm a).exec = none ∧ (t.arm a).due ≠ some .segEnd ∧
      (t.arm a.other = w.arm a.other ∨ t.arm a.other = { w.arm a.other with due := some .stepSix }) ∧
      ∀ n, w.noted n → t.noted n := by
  have own := arm_afterDone_same ((w.setArm a { w.arm a with phase := .startCheck, frameOffset := b.slot.vec 4 }).writeBlock a b
    slotDone .ok none (vecWords (w.arm a).frameOffset)) a
  have other := arm_afterDone_other_cases ((w.setArm a { w.arm a with phase := .startCheck, frameOffset := b.slot.vec 4 }).writeBlock
    a b slotDone .ok none (vecWords (w.arm a).frameOffset)) a
  rw [← passSwap_setFrame_released exec kind, arm_writeBlock] at own other
  rw [State.arm_setArm_same] at own
  rw [State.arm_setArm_other] at other
  intro t
  have apart := between_apart ({ w.arm a with phase := .startCheck, frameOffset := b.slot.vec 4 } : ArmRec)
  have stopped := arm_stopLineArm_idle (s := w.passSwap a) (a := a) (by rw [own]; rfl) (by rw [own]; exact apart.1)
    (by rw [own]; exact apart.2)
  have noted (n : Notice) (h : w.noted n) : t.noted n := noted_stopLineArm (noted_passSwap_setFrame exec kind h) a
  have remains : t.arm a.other = w.arm a.other ∨ t.arm a.other = { w.arm a.other with due := some .stepSix } := by
    rcases arm_stopLineArm_other_cases (w.passSwap a) a with e | ⟨-, e⟩ <;> rw [show t.arm a.other = _ from e]
    · exact other
    · refine .inr ?_
      rcases other with o | o <;> rw [o]
  rw [show t.arm a = _ from stopped, own]
  exact ⟨rfl, rfl, rfl, rfl, nofun, remains, noted⟩

end

/-- Settles O19: the fall acts on the arms in the operand's order; between them the swap barrier is tested, which acts only
where no arm executes. -/
theorem stopLineFaultsStandingArms : Obligations.StopLineFaultsStandingArms := by
  refine ⟨fun s first calm run released high idle => ?_, fun s first a settled run released high exec active moves fast phase opened => ?_,
    fun s first a b calm run released high resting exec single wf fits none noneC empty moving due => ?_, fun s first b run released high pending resting active waits exec kind => ?_⟩
  · let u := s.stopFallen
    let v := u.stopLineArm first
    have core : (v.stopLineArm first.other).core = u.core := by rw [core_stopLineArm, core_stopLineArm]
    have queue (x : Arm) : s.pausedQueue x = [] := by
      unfold State.pausedQueue
      split
      · exact (idle x).2.2.2 ‹_›
      · rfl
    have state (x : Arm) : (s.arm x).state ≠ .fault ∧ (s.arm x).state ≠ .stopping := by
      rcases (idle x).2.2.1 with e | e | e <;> rw [e] <;> exact ⟨nofun, nofun⟩
    have one : (s.arm first).stoppedBetween (v.arm first) :=
      stoppedBetween_stopLineArm (s := u) (d := (s.arm first).due) rfl (idle first).1 (idle first).2.1 (state first) (queue first)
    obtain ⟨d, arm⟩ := exists_due_stopLineArm u first
    have lane : v.lanes.get first.other = s.lanes.get first.other := lane_stopLineArm_other u first
    have two : (s.arm first.other).stoppedBetween ((v.stopLineArm first.other).arm first.other) := by
      refine stoppedBetween_stopLineArm (s := v) arm (idle _).1 (idle _).2.1 (state _) ?_
      rw [← queue first.other, State.pausedQueue, State.pausedQueue, lane, show v.arm first.other = _ from arm]
      rfl
    refine ⟨_, exec_stopInFall_calm calm run released high, congrArg Core.stop core, congrArg Core.releaseTimer core,
      congrArg (fun c => c.pins.stopLow) core, noted_stopLineArm (noted_stopLineArm (noted_setNotice_same _ _) _) _,
      fun x => ?_⟩
    have gather {t : State} (stopped : (s.arm x).stoppedBetween (t.arm x)) (paused : (t.lanes.get x).paused = true) :
        (t.arm x).state = .fault ∧ (t.arm x).lastFault = some .stopLine ∧ (t.arm x).queue = [] ∧
          (t.lanes.get x).paused = true ∧ (t.arm x).cmd = (s.arm x).cmd ∧ (t.arm x).referenced = (s.arm x).referenced ∧
          (t.arm x).frameOffset = (s.arm x).frameOffset ∧ (t.arm x).mounted = (s.arm x).mounted := by
      obtain ⟨fault, code, empty, rest⟩ := stopped
      exact ⟨fault, code, empty, paused, rest⟩
    rcases first.eq_or_other x with rfl | rfl
    · refine gather ?_ ?_
      · have kept := stoppedBetween_other (w := v) (a := x.other) (r := s.arm x)
        rw [Arm.other_other] at kept
        exact kept one
      · have kept := lane_stopLineArm_other v x.other
        rw [Arm.other_other] at kept
        rw [kept]
        exact paused_stopLineArm (s := u) (state x)
    · exact gather two (paused_stopLineArm (by rw [show v.arm first.other = _ from arm]; exact state _))
  · let u := s.stopFallen
    have still (x : Arm) : (s.arm x).due ≠ some .segEnd := (still_of_settled settled x).1
    have stops {w : State} {d : Option Due} (arm : w.arm a = { s.arm a with due := d })
        (lane : w.lanes.get a = s.lanes.get a) :
        w.stopLineArm a = w.halted a .stopLine ∧ (w.stopLineArm a).arm a = (s.arm a).stopping .stopLine := by
      have step : w.stopLineArm a = w.halted a .stopLine := by
        rw [stopLineArm_block (by rw [arm]; simp [active]) (by rw [arm]; simp [active]) (by rw [arm]; exact exec)]
        exact enterStopping_runs (runsOn_of_active (by rw [arm]; exact active) (by rw [arm]; exact moves) (by rw [arm]; exact fast))
      refine ⟨step, ?_⟩
      rw [step, arm_halted_open (by rw [lane]; exact opened), arm]
      rfl
    have executing {w : State} (exec' : (w.arm a).exec = (s.arm a).exec) (phase' : (w.arm a).phase = (s.arm a).phase) :
        w.executing a = true := by
      simp [State.executing, exec', phase', Option.isSome_iff_ne_none.2 exec, phase]
    rcases first.eq_or_other a with rfl | rfl
    · let v := u.stopLineArm a
      obtain ⟨step, own⟩ := stops (w := u) (d := (s.arm a).due) rfl rfl
      have busy : v.executing a = true := executing (by rw [show v.arm a = _ from own]; rfl) (by rw [show v.arm a = _ from own]; rfl)
      have keep : (v.stopLineArm a.other).arm a = v.arm a := by
        have kept := arm_stopLineArm_of_idle (s := v) (a := a.other)
        rw [Arm.other_other] at kept
        exact kept (by rw [show v = _ from step, zone_halted]; simp [State.zoneWithdraw])
      have lane := lane_stopLineArm_other v a.other
      rw [Arm.other_other] at lane
      have done : (v.stopLineArm a.other).settled = true := by
        refine settled_of_stopped (swapReady_of_executing (a := a) ?_) (stopped_both (due_stopLineArm_other (still _)) ?_)
        · exact (congrArg₂ (fun e p => Option.isSome e && p != Phase.waitSwap) (congrArg ArmRec.exec keep) (congrArg ArmRec.phase keep)).trans busy
        · rw [Arm.other_other]
          exact stopLineArm_own (still _)
      refine ⟨v.stopLineArm a.other, ?_, ?_, noted_stopLineArm (noted_stopLineArm (noted_setNotice_same _ _) _) _, ?_, keep.trans own⟩
      · rw [exec_stopInFall run released high, State.swapBetween_executing busy, settle_of_settled done]
      · exact congrArg Core.stop ((core_stopLineArm v _).trans (core_stopLineArm u _))
      · rw [lane]
        exact paused_stopLineArm (s := u) ⟨by simp [u, State.stopFallen, active], by simp [u, State.stopFallen, active]⟩
    · let v := u.stopLineArm first
      obtain ⟨d, arm⟩ := exists_due_stopLineArm u first
      have arm : v.arm first.other = { s.arm first.other with due := d } := arm
      obtain ⟨step, own⟩ := stops arm (lane_stopLineArm_other u first)
      have busy : v.executing first.other = true := executing (by rw [arm]) (by rw [arm])
      have done : (v.stopLineArm first.other).settled = true := by
        refine settled_of_stopped (swapReady_of_executing (a := first.other) ?_) (stopped_both (due_stopLineArm_other (still _)) ?_)
        · exact executing (by rw [own]; rfl) (by rw [own]; rfl)
        · rw [Arm.other_other]
          exact stopLineArm_own (still _)
      refine ⟨v.stopLineArm first.other, ?_, ?_, noted_stopLineArm (noted_stopLineArm (noted_setNotice_same _ _) _) _, ?_, own⟩
      · rw [exec_stopInFall run released high, State.swapBetween_executing busy, settle_of_settled done]
      · exact congrArg Core.stop ((core_stopLineArm v _).trans (core_stopLineArm u _))
      · exact paused_stopLineArm (by rw [arm]; simp [active])
  · obtain ⟨rest, standing, unasked⟩ := resting_of resting
    let u := s.stopFallen
    suffices two : ∃ t, Machine.exec (.stopInFall first) s = .next t ∧
        (s.LineStopped t a b ∧ (t.lanes.get a).base = (s.lanes.get a).base) ∧
        (s.zone.holder ≠ some a.other → s.tested t a (s.arm a).cmd (some false)) by
      obtain ⟨t, step, stopped, tested⟩ := two
      obtain ⟨⟨fault, code, gone, cmd, paused, queue, ⟨header, info, tick⟩⟩, base⟩ := stopped
      have place : (t.lanes.get a).slotBase b.slot.index = (s.lanes.get a).slotBase b.slot.index := by
        rw [LaneRec.slotBase, LaneRec.slotBase, base]
      rw [place] at header info tick
      exact ⟨t, step, fault, code, gone, cmd, paused, tested, queue, header, info, tick⟩
    have acts {w : State} {d : Option Due} (arm : w.arm a = { s.arm a with due := d }) (lanes : w.lanes.get a = s.lanes.get a)
        (shm : w.shm = s.shm) (tick : w.tickNo = s.tickNo) :=
      lineStopped_stopLineArm arm lanes shm tick rest standing exec single wf fits
    have stays {w : State} (exec' : (w.arm a.other).exec = (s.arm a.other).exec)
        (queue : (w.arm a.other).queue = (s.arm a.other).queue) (state : (w.arm a.other).state = (s.arm a.other).state) :=
      stopLineArm_empty (w := w) (a := a.other) (exec'.trans none) (queue.trans empty) (state ▸ moving)
    rcases a.eq_or_other first with rfl | rfl
    · let v := u.stopLineArm first
      obtain ⟨stopped, tested⟩ := acts (w := u) (d := (s.arm first).due) rfl rfl rfl rfl
      obtain ⟨d, arm⟩ := exists_due_stopLineArm u first
      have arm : v.arm first.other = { s.arm first.other with due := d } := arm
      obtain ⟨shm, zone⟩ := stays (w := v) (by rw [arm]) (by rw [arm]) (by rw [arm])
      refine ⟨_, exec_stopInFall_calm calm run released high, ⟨stopped.kept shm, ?_⟩, fun unheld => ?_⟩
      · exact base_of_core (s := u) ((core_stopLineArm v _).trans (core_stopLineArm u _)) first
      · obtain ⟨last, freed, left⟩ := tested rfl unasked
        have after := zone (unheld_of_tested (tested rfl unasked) unheld)
        unfold State.tested
        rw [after]
        exact ⟨last, freed, left⟩
    · let v := u.stopLineArm a.other
      obtain ⟨shm, zone⟩ := stays (w := u) rfl rfl rfl
      obtain ⟨d, arm⟩ := exists_due_stopLineArm u a.other
      have lane := lane_stopLineArm_other u a.other
      rw [Arm.other_other] at arm lane
      obtain ⟨stopped, tested⟩ := acts (w := v) (d := d) arm lane shm (congrArg Core.tickNo (core_stopLineArm u _))
      have step := exec_stopInFall_calm (first := a.other) calm run released high
      rw [Arm.other_other] at step
      refine ⟨_, step, ⟨stopped, ?_⟩, fun unheld => tested (zone unheld) unasked⟩
      exact base_of_core (s := u) ((core_stopLineArm v _).trans (core_stopLineArm u _)) a
  · obtain ⟨rest, standing, unasked⟩ := resting_of resting
    let u := s.stopFallen
    let v := u.stopLineArm first
    have apart : (s.arm first).state ≠ .fault ∧ (s.arm first).state ≠ .stopping := by
      rcases standing with e | e <;> rw [e] <;> exact ⟨nofun, nofun⟩
    have executes : (s.arm first).exec ≠ none := by
      simp only [State.restingBlock, Bool.and_eq_true] at resting
      exact Option.isSome_iff_ne_none.1 resting.1.1.1
    have stop : v = (u.halted first .stopLine).endStopping first :=
      (stopLineArm_block (s := u) apart.1 apart.2 executes).trans (enterStopping_rest rest)
    have one := arm_endStopping_fault (cause_halted u first .stopLine) (f := .stopLine) rfl
    rw [← stop] at one
    have two : v.arm first.other = s.arm first.other := by
      rcases arm_stopLineArm_other_cases u first with e | ⟨asked, -⟩
      · exact e
      · cases unasked.symm.trans asked
    have core : v.core = u.core := core_stopLineArm u first
    have pending : v.corr.swapPending = true := (congrArg (fun c => c.corr.swapPending) core).trans pending
    have ready : v.swapReady = true := by
      have idle (x : Arm) : v.executing x = false := by
        rcases first.eq_or_other x with rfl | rfl
        · rw [State.executing, one]
          rfl
        · rw [State.executing, two, waits]
          simp
      simp [State.swapReady, pending, idle]
    have goes : v.doSwap.swapReleased first.other = true :=
      (State.swapReleased_iff _ _).2 ⟨by rw [arm_doSwap, two, active], by rw [arm_doSwap, two, waits], rfl⟩
    have stays : v.doSwap.swapReleased first.other.other = false := by
      rw [Bool.eq_false_iff, ne_eq, State.swapReleased_iff, Arm.other_other, arm_doSwap, one]
      exact fun waits => nomatch waits.1
    have owns : (v.doSwap.arm first.other).exec = some b := (congrArg ArmRec.exec two).trans exec
    let t := (v.doSwap.passSwap first.other).stopLineArm first.other
    obtain ⟨frame, fault, code, gone, due, kept, noted⟩ := setFrame_stopLine (w := v.doSwap) owns kind
    rw [Arm.other_other, arm_doSwap, one] at kept
    have coreT : t.core = v.core.exchanged := by rw [core_stopLineArm, core_passSwap, core_doSwap]
    have settled : t.settled = true := by
      refine settled_of_stopped (swapReady_of_unpending (congrArg (fun c => c.corr.swapPending) coreT)) fun y => ?_
      rcases first.eq_or_other y with rfl | rfl
      · rcases kept with e | e <;> rw [show t.arm y = _ from e] <;> exact ⟨nofun, nofun⟩
      · rw [show (t.arm first.other).state = _ from fault]
        exact ⟨nofun, due⟩
    refine ⟨t, ?_, ?_, ?_, frame, fun y => ?_⟩
    · rw [exec_stopInFall run released high, show (s.stopFallen.stopLineArm first).swapBetween = _ from swapBetween_one ready goes stays,
        settle_of_settled settled]
    · exact (congrArg Core.corr coreT).trans (congrArg (fun c => c.exchanged.corr) core)
    · exact noted _ (noted_setNotice_same _ _)
    · rcases first.eq_or_other y with rfl | rfl
      · rcases kept with e | e <;> rw [show t.arm y = _ from e] <;> exact ⟨rfl, rfl, rfl⟩
      · exact ⟨fault, code, gone⟩

end Sys2Proof.Machine
end


section
/-! PROOF. SWAP_SET and the swap (O29). -/

namespace Sys2Proof.Machine

/-! ## A notice that is set stays set through the immediate work (R166) -/

section
variable {s : State} {n : Notice}

@[simp] theorem noted_setArm (a : Arm) (r : ArmRec) : (s.setArm a r).noted n ↔ s.noted n := Iff.rfl

@[simp] theorem noted_modLink (a : Arm) (f : Link → Link) : (s.modLink a f).noted n ↔ s.noted n := Iff.rfl

@[simp] theorem noted_zoneRequest (a : Arm) : (s.zoneRequest a).noted n ↔ s.noted n := Iff.rfl

@[simp] theorem noted_zoneWait (a : Arm) : (s.zoneWait a).noted n ↔ s.noted n := Iff.rfl

@[simp] theorem noted_zoneGrant (a : Arm) : (s.zoneGrant a).noted n ↔ s.noted n := Iff.rfl

@[simp] theorem noted_disarmCaptures (a : Arm) : (s.disarmCaptures a).noted n ↔ s.noted n := Iff.rfl

@[simp] theorem noted_disarmUnit (u : Fin 16) : (s.disarmUnit u).noted n ↔ s.noted n := Iff.rfl

@[simp] theorem noted_tables (x : Tables) : State.noted { s with tables := x } n ↔ s.noted n := Iff.rfl

@[simp] theorem noted_zone (z : Zone) : State.noted { s with zone := z } n ↔ s.noted n := Iff.rfl

@[simp] theorem noted_disarmUnit? (h : s.noted n) (u : Option (Fin 16)) :
    (s.disarmUnit? u).noted n := by cases u <;> exact h

@[simp] theorem noted_zoneRelease (h : s.noted n) (a : Arm) :
    (s.zoneRelease a).noted n := by
  unfold State.zoneRelease
  repeat' split
  all_goals simp (maxDischargeDepth := 40) [h]

@[simp] theorem noted_stow (h : s.noted n) (a : Arm) (m : Fin 24) (p : Fin 12) :
    (s.stow a m p).noted n := by
  simp (maxDischargeDepth := 40) [h, State.stow]

@[simp] theorem noted_driftCheck (h : s.noted n) (a : Arm) :
    (s.driftCheck a).noted n := by
  unfold State.driftCheck
  dsimp only
  repeat' split
  all_goals simp (maxDischargeDepth := 40) [h]

@[simp] theorem noted_blockDriftCheck (h : s.noted n) (a : Arm) :
    (s.blockDriftCheck a).noted n := by
  simp (maxDischargeDepth := 40) [h, State.blockDriftCheck]

@[simp] theorem noted_completeWith (h : s.noted n) (a : Arm) (ws : List Word) :
    (s.completeWith a ws).noted n := by
  unfold State.completeWith
  repeat' split
  all_goals simp (maxDischargeDepth := 40) [h]

@[simp] theorem noted_beginSegTwo (h : s.noted n) (a : Arm) (v : Vec) (f g th : Nat) :
    (s.beginSegTwo a v f g th).noted n := by
  simp (maxDischargeDepth := 40) [h, State.beginSegTwo]

@[simp] theorem noted_beginSeg (h : s.noted n) (a : Arm) (v : Vec) (f : Nat) :
    (s.beginSeg a v f).noted n := by
  simp (maxDischargeDepth := 40) [h, State.beginSeg]

@[simp] theorem noted_armCapture (h : s.noted n) (b : Block) (u : Fin 16) (i : CaptureInput) :
    (s.armCapture b u i).noted n := by
  simp (maxDischargeDepth := 40) [h, State.armCapture]

@[simp] theorem noted_armCover (h : s.noted n) (a : Arm) (b : Block) (p : Port) :
    (s.armCover a b p).noted n := by
  simp (maxDischargeDepth := 40) [h, State.armCover]

@[simp] theorem noted_beginTouchSearch (h : s.noted n) (a : Arm) (b : Block) (p : Phase) (e : Vec) (f : Nat) :
    (s.beginTouchSearch a b p e f).noted n := by
  unfold State.beginTouchSearch
  repeat' split
  all_goals simp (maxDischargeDepth := 40) [h]

@[simp] theorem noted_beginSearch (h : s.noted n) (a : Arm) :
    (s.beginSearch a).noted n := by
  unfold State.beginSearch
  repeat' split
  all_goals simp (maxDischargeDepth := 40) [h]

@[simp] theorem noted_beginRetract (h : s.noted n) (a : Arm) :
    (s.beginRetract a).noted n := by
  unfold State.beginRetract
  repeat' split
  all_goals simp (maxDischargeDepth := 40) [h]

@[simp] theorem noted_writeQualified (h : s.noted n) (a : Arm) (v : QualValues) :
    (s.writeQualified a v).noted n := by
  unfold State.writeQualified
  repeat' split
  all_goals simp (maxDischargeDepth := 40) [h]

@[simp] theorem noted_qualFinish (h : s.noted n) (a : Arm) (b : Block) :
    (s.qualFinish a b).noted n := by
  unfold State.qualFinish
  dsimp only
  repeat' split
  all_goals simp (maxDischargeDepth := 40) [h]

@[simp] theorem noted_endStopping (h : s.noted n) (a : Arm) : (s.endStopping a).noted n := by
  unfold State.endStopping
  dsimp only
  repeat' split
  all_goals simp (maxDischargeDepth := 40) [h]

@[simp] theorem noted_enterStopping (h : s.noted n) (a : Arm) (c : Cause) : (s.enterStopping a c).noted n := by
  cases runs : s.runsOn a
  · rw [enterStopping_rest runs]
    exact noted_endStopping (noted_halted h a c) a
  · rw [enterStopping_runs runs]
    exact noted_halted h a c

@[simp] theorem noted_armFault (h : s.noted n) (a : Arm) (c : FaultCode) : (s.armFault a c).noted n := by
  unfold State.armFault
  repeat' split
  all_goals simp (maxDischargeDepth := 40) [h]

@[simp] theorem noted_retractEnd (h : s.noted n) (a : Arm) (b : Block) :
    (s.retractEnd a b).noted n := by
  unfold State.retractEnd
  repeat' split
  all_goals simp (maxDischargeDepth := 40) [h]

@[simp] theorem noted_beginHomeSearch (h : s.noted n) (a : Arm) (x : Axis) :
    (s.beginHomeSearch a x).noted n := by
  unfold State.beginHomeSearch
  repeat' split
  all_goals simp (maxDischargeDepth := 40) [h]

@[simp] theorem noted_shiftAxis (h : s.noted n) (a : Arm) (x : Axis) (d : Int) :
    (s.shiftAxis a x d).noted n := h

@[simp] theorem noted_homeFinish (h : s.noted n) (a : Arm) :
    (s.homeFinish a).noted n := by
  simp (maxDischargeDepth := 40) [h, State.homeFinish]

@[simp] theorem noted_beginLimitReturn (h : s.noted n) (a : Arm) :
    (s.beginLimitReturn a).noted n := by
  unfold State.beginLimitReturn
  dsimp only
  repeat' split
  all_goals simp (maxDischargeDepth := 40) [h]

@[simp] theorem noted_beginHome (h : s.noted n) (a : Arm) :
    (s.beginHome a).noted n := by
  simp (maxDischargeDepth := 40) [h, State.beginHome]

@[simp] theorem noted_beginLink (h : s.noted n) (a : Arm) (c : LinkCmd) :
    (s.beginLink a c).noted n := by
  simp (maxDischargeDepth := 40) [h, State.beginLink]

@[simp] theorem noted_armCoverOf (h : s.noted n) (a : Arm) (b : Block) (k : Half) :
    (s.armCoverOf a b k).noted n := by
  unfold State.armCoverOf
  repeat' split
  all_goals simp (maxDischargeDepth := 40) [h]

@[simp] theorem noted_beginChange (h : s.noted n) (a : Arm) (c : ChangePhase) (k : Half) :
    (s.beginChange a c k).noted n := by
  unfold State.beginChange
  dsimp only
  repeat' split
  all_goals simp (maxDischargeDepth := 40) [h]

@[simp] theorem noted_coverOpened (h : s.noted n) (a : Arm) (k : Half) :
    (s.coverOpened a k).noted n := by
  simp (maxDischargeDepth := 40) [h, State.coverOpened]

@[simp] theorem noted_approachEnd (h : s.noted n) (a : Arm) (k : Half) :
    (s.approachEnd a k).noted n := by
  unfold State.approachEnd
  repeat' split
  all_goals simp (maxDischargeDepth := 40) [h]

@[simp] theorem noted_engageSeated (h : s.noted n) (a : Arm) :
    (s.engageSeated a).noted n := by
  simp (maxDischargeDepth := 40) [h, State.engageSeated]

@[simp] theorem noted_engageBegin (h : s.noted n) (a : Arm) :
    (s.engageBegin a).noted n := by
  unfold State.engageBegin
  dsimp only
  repeat' split
  all_goals simp (maxDischargeDepth := 40) [h]

@[simp] theorem noted_stowMade (h : s.noted n) (a : Arm) :
    (s.stowMade a).noted n := by
  unfold State.stowMade
  dsimp only
  rw [noted_setDue, noted_setPhase]
  repeat' split
  all_goals simp (maxDischargeDepth := 40) [h]

@[simp] theorem noted_stowDone (h : s.noted n) (a : Arm) (b : Block) :
    (s.stowDone a b).noted n := by
  simp (maxDischargeDepth := 40) [h, State.stowDone]

@[simp] theorem noted_portRetractEnd (h : s.noted n) (a : Arm) (b : Block) (k : Half) :
    (s.portRetractEnd a b k).noted n := by
  unfold State.portRetractEnd
  dsimp only
  repeat' split
  all_goals simp (maxDischargeDepth := 40) [h]

@[simp] theorem noted_changeSegEnd (h : s.noted n) (a : Arm) (b : Block) (c : ChangePhase) (k : Half) :
    (s.changeSegEnd a b c k).noted n := by
  unfold State.changeSegEnd
  repeat' split
  all_goals simp (maxDischargeDepth := 40) [h]

@[simp] theorem noted_moveSegEnd (h : s.noted n) (a : Arm) (b : Block) :
    (s.moveSegEnd a b).noted n := by
  unfold State.moveSegEnd
  repeat' split
  all_goals simp (maxDischargeDepth := 40) [h]

@[simp] theorem noted_searchStartEnd (h : s.noted n) (a : Arm) :
    (s.searchStartEnd a).noted n := by
  unfold State.searchStartEnd
  repeat' split
  all_goals simp (maxDischargeDepth := 40) [h]

@[simp] theorem noted_transitSegEnd (h : s.noted n) (a : Arm) (b : Block) :
    (s.transitSegEnd a b).noted n := by
  unfold State.transitSegEnd
  repeat' split
  all_goals simp (maxDischargeDepth := 40) [h]

@[simp] theorem noted_searchMissed (h : s.noted n) (a : Arm) (b : Block) : (s.searchMissed a b).noted n := by
  simp (maxDischargeDepth := 40) [h, State.searchMissed]

@[simp] theorem noted_homeMissed (h : s.noted n) (a : Arm) (b : Block) (x : Axis) : (s.homeMissed a b x).noted n := by
  simp (maxDischargeDepth := 40) [h, State.homeMissed]

@[simp] theorem noted_segEnd (h : s.noted n) (a : Arm) :
    (s.segEnd a).noted n := by
  unfold State.segEnd
  dsimp only
  repeat' split
  all_goals simp (maxDischargeDepth := 40) [h]

@[simp] theorem noted_beginDwell (h : s.noted n) (a : Arm) (c : SlotCopy) :
    (s.beginDwell a c).noted n := by
  unfold State.beginDwell
  dsimp only
  repeat' split
  all_goals simp (maxDischargeDepth := 40) [h]

@[simp] theorem noted_beginWaitStable (h : s.noted n) (a : Arm) (c : SlotCopy) :
    (s.beginWaitStable a c).noted n := by
  unfold State.beginWaitStable
  dsimp only
  repeat' split
  all_goals simp (maxDischargeDepth := 40) [h]

@[simp] theorem noted_beginLeg (h : s.noted n) (a : Arm) :
    (s.beginLeg a).noted n := by
  unfold State.beginLeg
  repeat' split
  all_goals simp (maxDischargeDepth := 40) [h]

@[simp] theorem noted_stepSix (h : s.noted n) (a : Arm) :
    (s.stepSix a).noted n := by
  unfold State.stepSix
  repeat' split
  all_goals simp (maxDischargeDepth := 40) [h]

@[simp] theorem noted_beginDue (h : s.noted n) (a : Arm) (d : Due) :
    (s.beginDue a d).noted n := by
  unfold State.beginDue
  cases d <;> simp (maxDischargeDepth := 40) [h]

@[simp] theorem noted_applyFrame (h : s.noted n) (a : Arm) (c : SlotCopy) :
    (s.applyFrame a c).noted n := by
  simp (maxDischargeDepth := 40) [h, State.applyFrame]

@[simp] theorem noted_applyLatch (h : s.noted n) (a : Arm) (b : Block) :
    (s.applyLatch a b).noted n := by
  unfold State.applyLatch
  repeat' split
  all_goals simp (maxDischargeDepth := 40) [h]

@[simp] theorem noted_requestZone (h : s.noted n) (a : Arm) (b : Block) :
    (s.requestZone a b).noted n := by
  unfold State.requestZone
  repeat' split
  all_goals simp (maxDischargeDepth := 40) [h]

@[simp] theorem noted_bindAndRequest (h : s.noted n) (a : Arm) (b : Block) :
    (s.bindAndRequest a b).noted n := by
  unfold State.bindAndRequest
  dsimp only
  split
  · simp (maxDischargeDepth := 40) [h]
  · split <;> simp (maxDischargeDepth := 40) [h]

@[simp] theorem noted_passSwap (h : s.noted n) (a : Arm) :
    (s.passSwap a).noted n := by
  unfold State.passSwap
  dsimp only
  repeat' split
  all_goals simp (maxDischargeDepth := 40) [h]

@[simp] theorem noted_becomeHeld (h : s.noted n) (a : Arm) :
    (s.becomeHeld a).noted n := by
  simp (maxDischargeDepth := 40) [h, State.becomeHeld]

theorem noted_armWork {a : Arm} {t : State} (h : s.noted n) (work : s.armWork a = some t) : t.noted n := by
  unfold State.armWork at work
  dsimp only at work
  split at work
  · injection work with work
    exact work ▸ noted_beginDue h a _
  · split at work
    · split at work
      · injection work with work
        exact work ▸ noted_becomeHeld h a
      · split at work
        · cases work
        · obtain ⟨d, -, work⟩ := Option.map_eq_some_iff.1 work
          exact work ▸ noted_beginDue h a d
    · cases work

theorem noted_immediate {t : State} (h : s.noted n) (work : s.immediate = some t) : t.noted n := by
  unfold State.immediate at work
  split at work
  · injection work with work
    exact work ▸ noted_setNotice h _
  · split at work
    · rename_i u released
      injection work with work
      subst work
      rcases s.swapRelease_cases with ⟨e, -⟩ | ⟨a, -, -, e⟩ | ⟨a, -, e⟩ <;> rw [e] at released
      · cases released
      · injection released with released
        exact released ▸ noted_passSwap h a
      · injection released with released
        exact released ▸ noted_passSwap (s := { s with free := s.free + 1 }) h a
    · split at work
      · rename_i u first
        injection work with work
        exact noted_armWork h (work ▸ first)
      · exact noted_armWork h work

theorem noted_settleN (h : s.noted n) (m : Nat) : (State.settleN m s).noted n := by
  induction m generalizing s with
  | zero => exact h
  | succ m ih =>
    simp only [State.settleN]
    split
    · exact h
    · exact ih (noted_immediate h ‹_›)

end

/-! ## SWAP_SET (R18, R19) -/

/-- The arm record of a block that has left its wait for the grant to wait for the swap (R18). -/
def ArmRec.swapWaiting (r : ArmRec) (b : Block) : ArmRec :=
  { r with
    phase := .waitSwap
    exec := some { b with targets := [], used := none, limitHit := none, flags := { drifted := b.flags.drifted } } }

section
variable {s : State} {a : Arm} {b : Block}

theorem leaveZoneWait_not (h : ¬ ((s.arm a).state = .active ∧ (s.arm a).phase = .waitZone ∧ (s.arm a).due = none)) :
    s.leaveZoneWait a = s := if_neg h

/-- The arm that leaves its wait for the grant: its conversion is discarded and it waits for the swap (R18, R74). -/
theorem leaveZoneWait_goes (active : (s.arm a).state = .active) (waits : (s.arm a).phase = .waitZone)
    (due : (s.arm a).due = none) (exec : (s.arm a).exec = some b) : s.leaveZoneWait a =
      (s.zoneWithdraw a).setArm a ((s.arm a).swapWaiting b) := by
  unfold State.leaveZoneWait
  refine (if_pos ⟨active, waits, due⟩).trans ?_
  have own : (s.zoneWithdraw a).arm a = s.arm a := rfl
  rw [State.modExec, modArm_eq_setArm, setPhase_setArm, own, exec]
  rfl

theorem arm_leaveZoneWait_other (s : State) (a : Arm) : (s.leaveZoneWait a).arm a.other = s.arm a.other := by
  unfold State.leaveZoneWait
  dsimp only
  split
  · simp [State.zoneWithdraw]
  · rfl

theorem exec_leaveZoneWait_none (none : (s.arm a).exec = none) : ((s.leaveZoneWait a).arm a).exec = .none := by
  unfold State.leaveZoneWait
  dsimp only
  split
  · simp [State.zoneWithdraw, State.modExec, State.setPhase, none]
  · exact none

theorem corr_leaveZoneWait (s : State) (a : Arm) : (s.leaveZoneWait a).corr = s.corr := by
  unfold State.leaveZoneWait
  dsimp only
  split <;> rfl

theorem arm_leaveZoneWait_congr {u : State} (h : u.arm a = s.arm a) :
    (u.leaveZoneWait a).arm a = (s.leaveZoneWait a).arm a := by
  by_cases goes : (s.arm a).state = .active ∧ (s.arm a).phase = .waitZone ∧ (s.arm a).due = none
  · unfold State.leaveZoneWait
    dsimp only
    rw [h, if_pos goes, if_pos goes]
    simp [State.setPhase, State.modExec, State.zoneWithdraw, h]
  · rw [leaveZoneWait_not goes, leaveZoneWait_not (by rwa [h]), h]

/-- The two arms leave their waits apart from one another. -/
theorem arm_leaveZoneWaits (s : State) (x : Arm) :
    ((s.leaveZoneWait .A).leaveZoneWait .B).arm x = (s.leaveZoneWait x).arm x := by
  cases x
  · exact arm_leaveZoneWait_other (s.leaveZoneWait .A) .B
  · exact arm_leaveZoneWait_congr (arm_leaveZoneWait_other s .A)

/-- SWAP_SET where no swap is pending and no arm waits for the grant (R18). -/
theorem swapSet_plain (pending : s.corr.swapPending = false)
    (zone : ∀ x, ¬ ((s.arm x).state = .active ∧ (s.arm x).phase = .waitZone)) : s.swapSet =
      ({ s with corr := { s.corr with swapPending := true } }.svcAnswer (.done [])).settle := by
  let pended : State := { s with corr := { s.corr with swapPending := true } }
  have stays (x : Arm) : pended.leaveZoneWait x = pended := leaveZoneWait_not fun h => zone x ⟨h.1, h.2.1⟩
  unfold State.swapSet
  rw [pending]
  refine congrArg (fun t => State.settle (State.svcAnswer t (.done []))) ?_
  rw [stays .A, stays .B]

/-- SWAP_SET where one arm alone waits for the grant (R18, R74). -/
theorem swapSet_leaves (pending : s.corr.swapPending = false)
    (zone : ¬ ((s.arm a.other).state = .active ∧ (s.arm a.other).phase = .waitZone)) : s.swapSet =
      (({ s with corr := { s.corr with swapPending := true } }.leaveZoneWait a).svcAnswer (.done [])).settle := by
  let pended : State := { s with corr := { s.corr with swapPending := true } }
  have first : pended.leaveZoneWait a.other = pended := leaveZoneWait_not fun h => zone ⟨h.1, h.2.1⟩
  have second : (pended.leaveZoneWait a).leaveZoneWait a.other = pended.leaveZoneWait a :=
    leaveZoneWait_not fun h => by
      rw [arm_leaveZoneWait_other] at h
      exact zone ⟨h.1, h.2.1⟩
  unfold State.swapSet
  rw [pending]
  refine congrArg (fun t => State.settle (State.svcAnswer t (.done []))) ?_
  cases a
  · exact second
  · exact congrArg (State.leaveZoneWait · .B) first

theorem exec_swapSet {c : SlotCopy} (h : s.serving .swapSet c = true) : exec .swapSet s = .next s.swapSet :=
  congrArg Host.Outcome.next (serveKind_of_serving h fun s _ => s.swapSet)

theorem svcLook_pended (s : State) (c : Correction) : { s with corr := c }.svcLook = { s.svcLook with corr := c } := by
  unfold State.svcLook
  dsimp only
  by_cases looks : s.svc = none ∧ s.svcLane.paused = false ∧ s.svcLane.posted s.shm = true
  · simp only [if_pos looks]
  · simp only [if_neg looks]

/-- The answer of a request depends on the coefficient sets in nothing but that it keeps them. -/
theorem svcAnswer_pended (s : State) (c : Correction) (ans : Answer) :
    { s with corr := c }.svcAnswer ans = { s.svcAnswer ans with corr := c } := by
  unfold State.svcAnswer
  dsimp only
  split
  · rfl
  · rename_i q _
    exact svcLook_pended ({ s with
      shm := writeSlot s.shm (s.svcLane.slotBase q.slot.index) q.slot ans.completion (some ans.words) s.tickNo
      svc := none }.setNotice .service) c

/-- Nothing is immediate while a swap is pending that an arm still holds up (R19, R20). -/
theorem settled_pended (pending : s.corr.swapPending = true) (executing : s.executing a = true)
    (still : ∀ x, (s.arm x).still) : s.settled = true := by
  refine (settled_iff s).2 ⟨swapReady_of_executing executing, fun x => ?_, still⟩
  rw [Bool.eq_false_iff, ne_eq, State.swapReleased_iff, pending]
  exact fun h => nomatch h.2.2

/-- A swap that is ready takes effect as the first piece of the immediate work (R20). -/
theorem settle_swapReady (ready : s.swapReady = true) : s.settle = State.settleN 255 s.doSwap :=
  settleN_succ (if_pos ready) 255

/-- A ready swap has taken effect once the immediate work is done, and the notice of it is set (R20). -/
theorem swapped_settle (ready : s.swapReady = true) :
    s.settle.corr = ⟨s.corr.staged, s.corr.active, false⟩ ∧ s.settle.noted .swap := by
  rw [settle_swapReady ready]
  refine ⟨?_, noted_settleN (noted_setNotice_same _ _) _⟩
  rcases leadsTo_settleN s.doSwap 255 with e | ⟨pending, -⟩
  · exact congrArg Core.corr e
  · cases pending

end

section
variable {s : State} {c : SlotCopy} {a : Arm} {b : Block}

/-- SWAP_SET between blocks: the swap takes effect as the request completes (R18, R20). -/
theorem exec_swapSet_between (serving : s.serving .swapSet c = true) (calm : s.calm = true)
    (between : ∀ a, (s.arm a).exec = none ∧ (s.arm a).state ≠ .active) :
    exec .swapSet s = .next ({ s with corr := { s.corr with swapPending := true } }.svcAnswer (.done [])).doSwap := by
  let x : State := { s with corr := { s.corr with swapPending := true } }.svcAnswer (.done [])
  have arm (y : Arm) : x.arm y = s.arm y := congrArg (fun d => d.get y) (arms_svcAnswer _ _)
  have ready : x.swapReady = true := by
    have pending : x.corr.swapPending = true := congrArg Correction.swapPending (corr_svcAnswer _ _)
    simp [State.swapReady, State.executing, pending, arm, between]
  have still (y : Arm) : (x.arm y).still := by
    rw [arm]
    exact (armCalm_of_calm calm y).1
  have done : x.doSwap.settled = true := by
    refine (settled_iff _).2 ⟨swapReady_of_unpending rfl, fun y => ?_, still⟩
    rw [Bool.eq_false_iff, ne_eq, State.swapReleased_iff, arm_doSwap, arm]
    exact fun h => (between y).2 h.1
  rw [exec_swapSet serving, swapSet_plain (swapPending_of_calm calm) fun y h => (between y).2 h.1, settle_swapReady ready,
    settleN_of_settled done]

/-- SWAP_SET while an arm executes a block and none waits: the swap stays pending (R18, R19). -/
theorem exec_swapSet_pends (serving : s.serving .swapSet c = true) (calm : s.calm = true) (exec : (s.arm a).exec ≠ none)
    (waits : ∀ x, (s.arm x).phase ≠ .waitSwap ∧ (s.arm x).phase ≠ .waitZone) : Machine.exec .swapSet s =
      .next ({ s with corr := { s.corr with swapPending := true } }.svcAnswer (.done [])) := by
  let x : State := { s with corr := { s.corr with swapPending := true } }.svcAnswer (.done [])
  have arm (y : Arm) : x.arm y = s.arm y := congrArg (fun d => d.get y) (arms_svcAnswer _ _)
  have done : x.settled = true := by
    refine settled_pended (a := a) (congrArg Correction.swapPending (corr_svcAnswer _ _)) ?_ fun y => ?_
    · simp [State.executing, arm, waits, Option.isSome_iff_ne_none, exec]
    · rw [arm]
      exact (armCalm_of_calm calm y).1
  rw [exec_swapSet serving, swapSet_plain (swapPending_of_calm calm) fun y h => (waits y).2 h.2, settle_of_settled done]

end

section
variable {s : State} {c : SlotCopy} {a : Arm} {b b2 : Block}

/-- SWAP_SET while one arm waits for the grant and the other executes: that arm waits for the swap instead (R18, R74). -/
theorem exec_swapSet_leaves (serving : s.serving .swapSet c = true) (calm : s.calm = true) (exec : (s.arm a).exec = some b)
    (active : (s.arm a).state = .active) (waits : (s.arm a).phase = .waitZone) (due : (s.arm a).due = none)
    (executing : s.executing a.other = true) (apart : (s.arm a.other).phase ≠ .waitZone) : Machine.exec .swapSet s =
      .next ((({ s with corr := { s.corr with swapPending := true } }.zoneWithdraw a).setArm a
        ((s.arm a).swapWaiting b)).svcAnswer (.done [])) := by
  let y : State := ({ s with corr := { s.corr with swapPending := true } }.zoneWithdraw a).setArm a ((s.arm a).swapWaiting b)
  have arm (z : Arm) : (y.svcAnswer (.done [])).arm z = y.arm z := congrArg (fun d => d.get z) (arms_svcAnswer _ _)
  have leaves : { s with corr := { s.corr with swapPending := true } }.leaveZoneWait a = y :=
    leaveZoneWait_goes (s := { s with corr := { s.corr with swapPending := true } }) active waits due exec
  have other : y.arm a.other = s.arm a.other := State.arm_setArm_other _ _ _
  have own : y.arm a = (s.arm a).swapWaiting b := State.arm_setArm_same _ _ _
  have done : (y.svcAnswer (.done [])).settled = true := by
    refine settled_pended (a := a.other) (congrArg Correction.swapPending (corr_svcAnswer _ _)) ?_ fun z => ?_
    · rw [State.executing, arm, other]
      exact executing
    · rw [arm]
      rcases a.eq_or_other z with rfl | rfl
      · rw [own]
        exact ⟨by rw [ArmRec.swapWaiting, due]; nofun, fun _ _ => ⟨by simp [ArmRec.swapWaiting, due, Phase.begun], .inl due⟩⟩
      · rw [other]
        exact (armCalm_of_calm calm _).1
  rw [exec_swapSet serving, swapSet_leaves (a := a) (swapPending_of_calm calm) fun h => apart h.2, leaves, settle_of_settled done]

/-- SWAP_SET while one arm waits for the grant and the other has no block: the swap takes effect at once (R18, R20). -/
theorem exec_swapSet_frees (serving : s.serving .swapSet c = true) (calm : s.calm = true) (exec : (s.arm a).exec = some b)
    (active : (s.arm a).state = .active) (waits : (s.arm a).phase = .waitZone) (due : (s.arm a).due = none)
    (none : (s.arm a.other).exec = none) : ∃ t, Machine.exec .swapSet s = .next t ∧
      t.corr = ⟨s.corr.staged, s.corr.active, false⟩ ∧ t.noted .swap := by
  let pended : State := { s with corr := { s.corr with swapPending := true } }
  let y : State := (pended.leaveZoneWait .A).leaveZoneWait .B
  let x : State := y.svcAnswer (.done [])
  have arm (z : Arm) : x.arm z = (pended.leaveZoneWait z).arm z :=
    (congrArg (fun d => d.get z) (arms_svcAnswer _ _)).trans (arm_leaveZoneWaits pended z)
  have corr : x.corr = pended.corr := (corr_svcAnswer _ _).trans ((corr_leaveZoneWait _ _).trans (corr_leaveZoneWait _ _))
  have idle (z : Arm) : x.executing z = false := by
    rw [State.executing, arm]
    rcases a.eq_or_other z with rfl | rfl
    · rw [leaveZoneWait_goes (s := pended) active waits due exec, State.arm_setArm_same]
      rfl
    · rw [exec_leaveZoneWait_none (s := pended) none]
      rfl
  have ready : x.swapReady = true := by
    rw [State.swapReady, corr, idle, idle]
    rfl
  obtain ⟨swapped, noted⟩ := swapped_settle ready
  refine ⟨x.settle, ?_, by rw [swapped, corr], noted⟩
  rw [exec_swapSet serving, State.swapSet, swapPending_of_calm calm]
  rfl

theorem exec_dwellExpiry {n : Nat} (timer : (s.arm a).dwellTimer = some n) :
    exec (.dwellExpiry a) s = .next (s.completeDone a .ok).settle := by
  show execDwellExpiry a s = _
  rw [execDwellExpiry, timer]

/-- A head that steps 1 and 2 pass while a swap is pending and the other arm executes waits for it (R19, R47). -/
theorem exec_start_waitSwap (settled : s.settled = true) (pending : s.corr.swapPending = true)
    (head : s.startable a = some c) (due : (s.arm a).due = none) (executing : s.executing a.other = true)
    (one : s.stepOne a c = .ok b) (two : s.stepTwo a b = .go b2) : exec (startCommand a c.kind) s =
      .next ((s.takeHead a c).modArm a fun r => { r with exec := some b2, phase := .waitSwap }) := by
  have same := sameChecks_takeHead s a c
  have corr : ((s.takeHead a c).modExec a fun _ => b2).corr.swapPending = true := by
    rw [State.modExec_corr, same.corr, pending]
  have arm := arm_takeHead s a c
  have start : (s.takeHead a c).startSequence a c =
      (s.takeHead a c).modArm a fun r => { r with exec := some b2, phase := .waitSwap } := by
    unfold State.startSequence
    rw [stepOne_congr same, one]
    dsimp only
    rw [stepTwo_congr same, two]
    dsimp only
    rw [State.swapCheck, corr, if_pos rfl, State.modExec, modArm_eq_setArm, setPhase_setArm, modArm_eq_setArm, arm]
    rfl
  have done : ((s.takeHead a c).modArm a fun r => { r with exec := some b2, phase := .waitSwap }).settled = true := by
    refine settled_pended (a := a.other) (by rw [State.modArm_corr, same.corr, pending]) ?_ fun z => ?_
    · rw [State.executing, State.arm_modArm_other, arm_takeHead_other]
      exact executing
    · rcases a.eq_or_other z with rfl | rfl
      · rw [State.arm_modArm_same, arm]
        exact ⟨by simp [due], fun _ _ => ⟨by simp [due, Phase.begun], .inl due⟩⟩
      · rw [State.arm_modArm_other, arm_takeHead_other]
        exact still_of_settled settled _
  rw [exec_startCommand, State.startKind, head]
  dsimp only
  rw [if_pos rfl, State.startHead, start, settle_of_settled done]

/-- A completion whose arm's grant the other arm does not wait for leaves the other arm as it is (R44). -/
theorem arm_completeDone_other (unasked : s.unasked a = true) (x : Status) :
    (s.completeDone a x).arm a.other = s.arm a.other := by
  have zone : s.sameZone ((s.writeExec a slotDone x none).ended a) a := sameZone_of_eq (zone_writeExec ..)
  rw [State.completeDone, arm_afterDone_other, arm_releaseTest_other ((unasked_of_sameZone zone).trans unasked), State.ended,
    State.arm_modArm_other, arm_writeExec]

theorem swapRelease_one (goes : s.swapReleased a = true) (stays : s.swapReleased a.other = false) :
    s.swapRelease = some (s.passSwap a) := by
  rcases s.swapRelease_cases with ⟨-, none⟩ | ⟨x, goesX, -, e⟩ | ⟨x, both, -⟩
  · cases goes.symm.trans (none a)
  · rcases a.eq_or_other x with rfl | rfl
    · exact e
    · cases goesX.symm.trans stays
  · cases (both a.other).symm.trans stays

theorem immediate_swapRelease {t : State} (ready : s.swapReady = false) (release : s.swapRelease = some t) :
    s.immediate = some t := by
  unfold State.immediate
  rw [ready, release]
  rfl

/-- The swap that the end of a block brings, and the DWELL that it lets begin: one piece of immediate work each (R20, R49). -/
theorem settle_swapDwell {w : State} {r : ArmRec} (pending : w.corr.swapPending = true) (gone : (w.arm a.other).exec = none)
    (free : (w.arm a.other).state ≠ .active ∧ (w.arm a.other).due ≠ some .segEnd) (own : w.arm a = r)
    (active : r.state = .active) (waits : r.phase = .waitSwap) (exec : r.exec = some b) (kind : b.slot.kind = some .dwell)
    (lasts : b.slot.nat 4 ≠ 0) (due : r.due = none) (rest : r.moving = false) (level : r.holdLevel = false) :
    w.settle = w.doSwap.setArm a { r with phase := .dwelling, dwellTimer := some (b.slot.nat 4) } := by
  have ready : w.swapReady = true := by
    have idle (x : Arm) : w.executing x = false := by
      rcases a.eq_or_other x with rfl | rfl
      · rw [State.executing, own, waits]
        simp
      · rw [State.executing, gone]
        rfl
    simp [State.swapReady, pending, idle]
  have stays {t : State} (same : t.arm a.other = w.arm a.other) : t.swapReleased a.other = false := by
    rw [Bool.eq_false_iff, ne_eq, State.swapReleased_iff, same]
    exact fun waits => free.1 waits.1
  have goes : w.doSwap.swapReleased a = true :=
    (State.swapReleased_iff _ _).2 ⟨by rw [arm_doSwap, own, active], by rw [arm_doSwap, own, waits], rfl⟩
  let u : State := w.doSwap.setArm a { r with phase := .startCheck, due := some .stepSix }
  have passes : w.doSwap.passSwap a = u := by
    rw [passSwap_released (by rw [arm_doSwap, own]; exact exec), arm_doSwap, own]
    exact passSwap_toStepSix (r := { r with phase := .startCheck }) exec rfl (.inl kind)
  have ownU : u.arm a = { r with phase := .startCheck, due := some .stepSix } := State.arm_setArm_same _ _ _
  have otherU : u.arm a.other = w.arm a.other := State.arm_setArm_other _ _ _
  have quiet {t : State} (pending : t.corr.swapPending = false) (other : t.arm a.other = w.arm a.other)
      (phase : (t.arm a).phase ≠ .waitSwap) : t.quietBut a :=
    quietBut_of_calm pending (by rw [other]; exact calm_of_not_active free.1 free.2) fun waits => phase waits.2
  have work : u.immediate = some (w.doSwap.setArm a { r with phase := .dwelling, dwellTimer := some (b.slot.nat 4) }) := by
    obtain ⟨ready, released, still⟩ := quiet (t := u) rfl otherU (by rw [ownU]; nofun)
    refine immediate_of_armWork ready released still ((armWork_due (d := .stepSix) (by rw [ownU]; exact active)
      (by rw [ownU]; exact rest) (by rw [ownU]; exact level) (by rw [ownU]) nofun).trans (congrArg some ?_))
    show (State.modArm (w.doSwap.setArm a { r with phase := .startCheck, due := some .stepSix }) a fun r =>
      { r with due := none }).stepSix a = _
    rw [modArm_setArm, stepSix_dwell (r := { r with phase := .startCheck, due := none }) exec kind, if_neg lasts]
    simp only [← due]
  refine settle_three (if_pos ready) ((immediate_swapRelease (swapReady_of_unpending rfl)
    (swapRelease_one goes (stays (arm_doSwap w _)))).trans (congrArg some passes)) work ?_
  refine settled_of_calm (calm_of_arms (a := a) rfl ?_ ?_)
  · rw [State.arm_setArm_same]
    exact calm_of_resting (.inl due) level nofun
  · rw [State.arm_setArm_other]
    exact calm_of_not_active free.1 free.2

end

/-- Settles O29: each standing's next state; where the work that the swap releases is left open, the swap is the first piece
of it, and nothing after that touches the sets or clears the notice. -/
theorem swapSetPendsOrSwaps : Obligations.SwapSetPendsOrSwaps := by
  refine ⟨fun s c serving => ⟨fun pending => ?_, fun calm between => ?_, fun a calm exec waits =>
      exec_swapSet_pends serving calm exec waits, fun a b calm exec active waits due => ⟨fun executing apart => ?_, fun none => ?_⟩⟩,
    fun s a c b b2 settled pending head due executing one two => ?_,
    fun s a b n settled pending timer unasked active waits exec kind lasts due rest level => ?_⟩
  · rw [exec_swapSet serving, State.swapSet, pending]
    rfl
  · refine ⟨_, exec_swapSet_between serving calm between, ?_, arms_svcAnswer _ _, ?_, noted_setNotice_same _ _⟩
    · show Correction.mk (State.corr _).staged (State.corr _).active false = _
      rw [corr_svcAnswer]
    · rw [svcAnswer_pended]
      rfl
  · exact exec_swapSet_leaves serving calm exec active waits due executing apart
  · exact exec_swapSet_frees serving calm exec active waits due none
  · exact exec_start_waitSwap settled pending head due executing one two
  · let w := s.completeDone a .ok
    have own : (w.arm a).state ≠ .active ∧ (w.arm a).due ≠ some .segEnd := by
      rw [arm_completeDone_same]
      exact ⟨between_ne_active _, nofun⟩
    have gone : (w.arm a).exec = none := by rw [arm_completeDone_same]; rfl
    have corr : w.corr = s.corr := congrArg Core.corr (core_completeDone s a _)
    have after := settle_swapDwell (a := a.other) (w := w) (by rw [corr, pending]) (by rw [Arm.other_other]; exact gone)
      (by rw [Arm.other_other]; exact own) (arm_completeDone_other unasked _) active waits exec kind lasts due rest level
    rw [exec_dwellExpiry timer, show (s.completeDone a .ok).settle = _ from after]
    refine congrArg Host.Outcome.next ?_
    have swap : w.doSwap = { w with corr := ⟨s.corr.staged, s.corr.active, false⟩ }.setNotice .swap := by
      rw [State.doSwap, corr]
    have other : ({ w with corr := ⟨s.corr.staged, s.corr.active, false⟩ }.setNotice .swap).arm a.other = s.arm a.other :=
      arm_completeDone_other unasked _
    rw [modArm_eq_setArm, swap, other]

end Sys2Proof.Machine
end


section
/-! PROOF. A line change and the units and arms that it reaches (O49). -/

namespace Sys2Proof.Machine

section
variable {s t : State} {a : Arm}

/-- Whether a change of a line to `x` is one that an edge matches, as the obligations write it (R83). -/
theorem edge_matches_iff (e : Edge) (x : Bool) :
    e.matches x = true ↔ e = .any ∨ (e = .rise ∧ x = true) ∨ (e = .fall ∧ x = false) := by
  cases e <;> simp [Edge.matches]

theorem watches_iff (u : LatchUnit) (a : Arm) (input : CaptureInput) (x : Bool) : u.watches a input x = true ↔
    u.mode = .capture ∧ u.alloc = some a ∧ u.input = input ∧
      (u.edge = .any ∨ (u.edge = .rise ∧ x = true) ∨ (u.edge = .fall ∧ x = false)) := by
  simp only [LatchUnit.watches, Bool.and_eq_true, beq_iff_eq, edge_matches_iff, and_assoc]

theorem onEdge_watching {u : LatchUnit} {input : CaptureInput} {x : Bool} (cap : Capture) (watches : u.watches a input x = true) :
    u.onEdge a input x cap = u.seeEdge cap := if_pos watches

theorem onEdge_not {u : LatchUnit} {input : CaptureInput} {x : Bool} (cap : Capture) (watches : ¬ u.watches a input x = true) :
    u.onEdge a input x cap = u := if_neg watches

/-- A change of a line does not move a unit to another arm (R83). -/
theorem alloc_onEdge (u : LatchUnit) (input : CaptureInput) (x : Bool) (cap : Capture) :
    (u.onEdge a input x cap).alloc = u.alloc := by
  unfold LatchUnit.onEdge LatchUnit.seeEdge
  repeat' split
  all_goals rfl

/-- What a line change hands to an arm depends on that arm's own units alone (R83). -/
theorem firing_after_other {b : Arm} (apart : b ≠ a) (input : CaptureInput) (x y : Bool) (cap : Capture) :
    { s with latches := mapTable (LatchUnit.onEdge a input x cap) s.latches }.firing b input y = s.firing b input y := by
  have unseen {u : LatchUnit} (alloc : u.alloc ≠ some b) : u.watches b input y = false :=
    Bool.eq_false_iff.2 fun watches => alloc ((watches_iff u b input y).1 watches).2.1
  unfold State.firing
  rw [show (mapTable (LatchUnit.onEdge a input x cap) s.latches).toList = s.latches.toList.map _ from rfl, List.any_map]
  refine congrArg (List.any s.latches.toList) (funext fun u => ?_)
  by_cases own : u.watches a input x = true
  · have alloc : u.alloc ≠ some b := by
      rw [((watches_iff u a input x).1 own).2.1]
      exact fun h => apart (Option.some.inj h).symm
    have after : (u.onEdge a input x cap).alloc ≠ some b := by rwa [alloc_onEdge]
    simp only [Function.comp_apply, unseen alloc, unseen after, Bool.false_and]
  · rw [Function.comp_apply, onEdge_not cap own]

/-- Nothing comes up at an arm that goes on moving or brakes, where the rest stands as before. -/
theorem settled_of_moves (h : s.settled = true) (pending : t.corr.swapPending = s.corr.swapPending)
    (other : t.arm a.other = s.arm a.other) (exec : t.executing a = s.executing a) (moves : (t.arm a).moving = true)
    (due : (t.arm a).due ≠ some .segEnd) (own : ¬ ((t.arm a).state = .active ∧ (t.arm a).phase = .waitSwap)) :
    t.settled = true :=
  settled_iff_quietBut.2 ⟨quietBut_of_same (settled_iff_quietBut.1 h).1 pending other exec own, still_of_moving moves due⟩

theorem exec_trigChange {x : Bool} (change : s.pins.trig.get a ≠ x) :
    exec (.trigChange a x) s = .next (s.trigChanged a x).settle := congrArg Host.Outcome.next (if_neg change)

theorem exec_refmChange {y : Axis} {x : Bool} (change : (s.pins.refm.get a).get y ≠ x) :
    exec (.refmChange a y x) s = .next ((s.setRefm a y x).lineChange a (.refm y) x).settle :=
  congrArg Host.Outcome.next (if_neg change)

theorem exec_extInChange {k : Fin 4} {x : Bool} (change : s.pins.ext[k] ≠ x) : exec (.extInChange k x) s =
    .next (((s.setExt k x).lineChange .A (.ext k) x).lineChange .B (.ext k) x) :=
  congrArg Host.Outcome.next (if_neg change)

/-- A line change that fires a unit of a block hands its capture to the arm (R83). -/
theorem lineChange_fired {input : CaptureInput} {x : Bool} (fired : s.firing a input x = true) : s.lineChange a input x =
    { s with latches := mapTable (LatchUnit.onEdge a input x (s.captureNow a x)) s.latches }.takeCapture a
      (s.captureNow a x) := by
  unfold State.lineChange
  rw [fired]
  rfl

@[simp] theorem arm_driftCheck (s : State) (a b : Arm) : (s.driftCheck a).arm b = s.arm b := by
  unfold State.driftCheck
  dsimp only
  repeat' split
  all_goals rfl

theorem arm_blockDriftCheck (s : State) (a : Arm) : ∃ d, (s.blockDriftCheck a).arm a = { s.arm a with
    exec := (s.arm a).exec.map fun b => { b with flags := { b.flags with drifted := b.flags.drifted || d } } } := by
  refine ⟨(s.driftCheck a).standsDrifted a, ?_⟩
  unfold State.blockDriftCheck
  rw [State.modExec, State.arm_modArm_same, arm_driftCheck]

theorem arm_blockDriftCheck_other (s : State) (a : Arm) : (s.blockDriftCheck a).arm a.other = s.arm a.other := by
  unfold State.blockDriftCheck
  rw [State.modExec, State.arm_modArm_other, arm_driftCheck]

/-- A capture of PROBE_POINT is converted where the chain has a PART position (R15, R109). -/
theorem withCapture_some {cap : Capture} {b : Block} {p : Vec} (part : (s.chain a).toPart cap.counts = some p) :
    s.withCapture a cap b = { b with
      touch := { b.touch with
        cap := some ⟨(s.chain a).toMachine cap.counts, if b.frame = .part then p else (s.chain a).toMachine cap.counts,
          (s.chain a).used .part, cap.tick⟩ }
      flags := b.flags.withThermal ((s.chain a).used .part) (b.frame == .machine) } := by
  unfold State.withCapture
  dsimp only
  rw [part]

/-- A brake of an arm with a velocity (R93, R106). -/
theorem brakeFor_fast {p : Phase} (fast : (s.arm a).seg.v ≠ 0) :
    s.brakeFor a p = s.modArm a fun r => { r with phase := p, holding := false } := if_neg fast

end

/-- Settles O49: what a line change makes of the units is read off `LatchUnit.onEdge`; a capture that a block's unit hands over
leaves the arm moving, so that no other work comes up. -/
theorem lineChangeReachesUnits : Obligations.LineChangeReachesUnits := by
  refine ⟨fun s a x settled => ?_, fun s k x change quietA quietB => ?_⟩
  · intro seen
    have seen_eq (input : CaptureInput) (u : LatchUnit) : seen input u = u.onEdge a input x (s.captureNow a x) := by
      by_cases watches : u.watches a input x = true
      · rw [onEdge_watching _ watches]
        refine (if_pos ((watches_iff u a input x).1 watches)).trans ?_
        unfold LatchUnit.seeEdge
        cases u.state <;> rfl
      · rw [onEdge_not _ watches]
        exact if_neg (mt (watches_iff u a input x).2 watches)
    have tables (input : CaptureInput) : mapTable (LatchUnit.onEdge a input x (s.captureNow a x)) s.latches =
        mapTable (seen input) s.latches := congrArg (mapTable · s.latches) (funext fun u => (seen_eq input u).symm)
    refine ⟨fun change unfired unwatched => ?_, fun y change unfired => ?_, fun on low fired moves => ?_,
      fun y on low fired phase active moves fast => ?_⟩
    · have watch : (x && s.watchOn a) = false := by rcases unwatched with e | e <;> simp [e]
      let u : State := { s.setTrig a x with latches := mapTable (seen .trig) s.latches }
      have step : s.trigChanged a x = u := by
        unfold State.trigChanged
        rw [lineChange_unfired (by exact unfired), watch]
        exact congrArg (fun l => ({ s.setTrig a x with latches := l } : State)) (tables _)
      have done : u.settled = true := (settled_congr (s := s) (t := u) rfl rfl).trans settled
      refine ⟨u, ?_, Duo.get_set_same _ _ _,
        fun i => getElem_mapTable _ _ _, rfl, Duo.get_set_other _ _ _⟩
      rw [exec_trigChange change, step, settle_of_settled done]
    · let u : State := { s.setRefm a y x with latches := mapTable (seen (.refm y)) s.latches }
      have step : (s.setRefm a y x).lineChange a (.refm y) x = u := by
        rw [lineChange_unfired (by exact unfired)]
        exact congrArg (fun l => ({ s.setRefm a y x with latches := l } : State)) (tables _)
      have done : u.settled = true := (settled_congr (s := s) (t := u) rfl rfl).trans settled
      refine ⟨u, ?_, rfl,
        fun i => getElem_mapTable _ _ _, rfl⟩
      rw [exec_refmChange change, step, settle_of_settled done]
    · subst on
      intro met m b exec
      have handed (watch : s.watchOn a = false) : s.trigChanged a true = met.takeCapture a (s.captureNow a true) := by
        unfold State.trigChanged
        rw [lineChange_fired (by exact fired), watch]
        exact congrArg (fun l => State.takeCapture { s.setTrig a true with latches := l } a (s.captureNow a true)) (tables _)
      have exempt (phase : (s.arm a).phase.exempt = true) : s.watchOn a = false := by simp [State.watchOn, phase]
      have still : (s.arm a).due ≠ some .segEnd := (still_of_settled settled a).1
      refine ⟨fun p phase part => ?_, fun k phase active fast => ?_⟩
      · intro hit
        let touched : ArmRec := { s.arm a with exec := some { b with
          touch := { b.touch with cap := some ⟨m, if b.frame = .part then p else m, (s.chain a).used .part, s.tickNo⟩ }
          flags := b.flags.withThermal ((s.chain a).used .part) (b.frame == .machine) } }
        have converted : met.modExec a (met.withCapture a (s.captureNow a true)) = met.setArm a touched := by
          rw [State.modExec, modArm_eq_setArm, show met.arm a = s.arm a from rfl, exec, Option.map_some,
            withCapture_some (s := met) (p := p) (by exact part)]
          rfl
        obtain ⟨d, own⟩ := arm_blockDriftCheck (met.setArm a touched) a
        have own : hit.arm a = { touched with exec := touched.exec.map fun b =>
            { b with flags := { b.flags with drifted := b.flags.drifted || d } } } := by
          rw [State.arm_setArm_same] at own
          exact own
        have other : hit.arm a.other = s.arm a.other :=
          (arm_blockDriftCheck_other _ a).trans (State.arm_setArm_other met a touched)
        have pending : hit.corr.swapPending = s.corr.swapPending :=
          congrArg (fun c => c.corr.swapPending) (core_blockDriftCheck _ _)
        refine ⟨fun active fast => ?_, fun stopping => ?_⟩
        · have step : met.takeCapture a (s.captureNow a true) =
              hit.modArm a fun r => { r with phase := .touchStop, holding := false } := by
            unfold State.takeCapture
            simp only [show met.arm a = s.arm a from rfl, active, phase]
            rw [converted]
            exact brakeFor_fast (s := hit) (by rw [own]; exact Nat.pos_iff_ne_zero.1 fast)
          have after : (hit.modArm a fun r => { r with phase := .touchStop, holding := false }).arm a =
            { hit.arm a with phase := .touchStop, holding := false } := State.arm_modArm_same _ _ _
          rw [exec_trigChange (by rw [low]; nofun), handed (exempt (by rw [phase]; rfl)), step, settle_of_settled]
          refine settled_of_moves (a := a) settled pending ((State.arm_modArm_other hit a _).trans other) ?_ ?_ ?_ ?_
          · rw [State.executing, after, own, State.executing, phase, exec]
            rfl
          · rw [after, own]
            exact moves
          · rw [after, own]
            exact still
          · rw [after]
            exact fun waits => nomatch waits.2
        · have step : met.takeCapture a (s.captureNow a true) = hit := by
            unfold State.takeCapture
            simp only [show met.arm a = s.arm a from rfl, stopping, phase]
            rw [converted]
            rfl
          rw [exec_trigChange (by rw [low]; nofun), handed (exempt (by rw [phase]; rfl)), step, settle_of_settled]
          refine settled_of_moves (a := a) settled pending other ?_ ?_ ?_ ?_
          · rw [State.executing, own, State.executing, phase, exec]
            rfl
          · rw [own]
            exact moves
          · rw [own]
            exact still
          · rw [own]
            exact fun waits => nomatch stopping.symm.trans waits.1
      · have step : met.takeCapture a (s.captureNow a true) = met.modArm a fun r => { r with
            phase := .touch k .stop
            holding := false
            exec := some { b with
              qual := { b.qual with
                caps := b.qual.caps ++ [m]
                head := if k = 4 then (s.group (headGroup a)).temp else b.qual.head }
              flags := b.flags.alsoThermal ((s.chain a).used .machine) } } := by
          unfold State.takeCapture
          simp only [show met.arm a = s.arm a from rfl, active, phase]
          have converted : met.qualCapture a (s.captureNow a true) k = met.setArm a { s.arm a with exec := some { b with
              qual := { b.qual with
                caps := b.qual.caps ++ [m]
                head := if k = 4 then (s.group (headGroup a)).temp else b.qual.head }
              flags := b.flags.alsoThermal ((s.chain a).used .machine) } } := by
            rw [State.qualCapture, State.modExec, modArm_eq_setArm, show met.arm a = s.arm a from rfl, exec]
            rfl
          rw [converted]
          refine (brakeFor_fast (by rw [State.arm_setArm_same]; exact Nat.pos_iff_ne_zero.1 fast)).trans ?_
          rw [modArm_setArm, modArm_eq_setArm]
          rfl
        rw [exec_trigChange (by rw [low]; nofun), handed (exempt (by rw [phase]; rfl)), step, settle_of_settled]
        refine settled_of_moves (a := a) settled rfl (State.arm_modArm_other met a _) ?_ ?_ ?_ ?_
        · rw [State.executing, State.arm_modArm_same, State.executing, phase, exec]
          rfl
        · rw [State.arm_modArm_same]
          exact moves
        · rw [State.arm_modArm_same]
          exact still
        · rw [State.arm_modArm_same]
          exact fun waits => nomatch waits.2
    · subst on
      let met : State := { s.setRefm a y true with latches := mapTable (seen (.refm y)) s.latches }
      have step : (s.setRefm a y true).lineChange a (.refm y) true =
          met.modArm a fun r => { r with phase := .homeStop y, holding := false } := by
        rw [lineChange_fired (by exact fired)]
        have standing : met.takeCapture a (s.captureNow a true) =
            met.modArm a fun r => { r with phase := .homeStop y, holding := false } := by
          unfold State.takeCapture
          simp only [show met.arm a = s.arm a from rfl, active, phase]
          exact brakeFor_fast (s := met) (Nat.pos_iff_ne_zero.1 fast)
        rw [← standing]
        exact congrArg (fun l => State.takeCapture { s.setRefm a y true with latches := l } a (s.captureNow a true)) (tables _)
      have own : (met.modArm a fun r => { r with phase := .homeStop y, holding := false }).arm a =
        { s.arm a with phase := .homeStop y, holding := false } := State.arm_modArm_same _ _ _
      have done : (met.modArm a fun r => { r with phase := .homeStop y, holding := false }).settled = true :=
        settled_of_moves (a := a) settled rfl (State.arm_modArm_other met a _) (by rw [State.executing, own, State.executing, phase]; rfl)
          (by rw [own]; exact moves) (by rw [own]; exact (still_of_settled settled a).1) (by simp [own])
      rw [exec_refmChange (by rw [low]; nofun), step, settle_of_settled done]
      rfl
  · have next (u : LatchUnit) : (u.onEdge .A (.ext k) x (s.captureNow .A x)).alloc = u.alloc := alloc_onEdge ..
    let one : State := { s.setExt k x with latches := mapTable (LatchUnit.onEdge .A (.ext k) x (s.captureNow .A x)) s.latches }
    have quiet : one.firing .B (.ext k) x = false := (firing_after_other (s := s.setExt k x) (by decide) ..).trans quietB
    refine ⟨{ one with latches := mapTable (LatchUnit.onEdge .B (.ext k) x (s.captureNow .B x)) one.latches }, ?_, rfl,
      fun i => ?_, rfl⟩
    · rw [exec_extInChange change, lineChange_unfired (a := .A) (by exact quietA)]
      exact congrArg Host.Outcome.next (lineChange_unfired (s := one) quiet)
    · rw [getElem_mapTable, getElem_mapTable]

end Sys2Proof.Machine
end


section
/-! PROOF. The settlement of a change, and the SEAT waits that expire (O52). -/

namespace Sys2Proof.Machine

/-! ## The tables that a settlement leaves (R150) -/

theorem getElem_modProbe (t : Tables) (i q : Fin 24) (f : Probe → Probe) :
    (t.modProbe i f).probes[q] = if q = i then f t.probes[q] else t.probes[q] := by
  rcases eq_or_ne q i with rfl | ne
  · simp [Tables.modProbe]
  · have apart : i.val ≠ q.val := fun e => ne (Fin.ext e.symm)
    simp [Tables.modProbe, apart, ne]

theorem getElem_setLoc (t : Tables) (i q : Fin 24) (l : Location) :
    (t.setLoc i l).probes[q] = { t.probes[q] with loc := if q = i then l else t.probes[q].loc } := by
  rw [Tables.setLoc, getElem_modProbe]
  split <;> rfl

theorem ports_doubtPort (t : Tables) (p r : Fin 12) : (State.Tables.doubtPort t p).ports[r] =
    { t.ports[r] with state := if r = p then .unknown else t.ports[r].state } := by
  unfold State.Tables.doubtPort
  dsimp only
  rw [getElem_setPortState]
  split <;> rfl

theorem probes_doubtPort (t : Tables) (p : Fin 12) (q : Fin 24) : (State.Tables.doubtPort t p).probes[q] =
    { t.probes[q] with loc := if t.ports[p].state = .occupied q then .unknown else t.probes[q].loc } := by
  have ports (t : Tables) : (t.setPortState p .unknown).probes = t.probes := rfl
  unfold State.Tables.doubtPort
  simp only [ports]
  cases e : t.ports[p].state with
  | occupied i =>
    refine (getElem_setLoc t i q _).trans ?_
    rcases eq_or_ne q i with rfl | ne
    · simp
    · simp [ne, ne.symm]
  | _ => simp

/-- The tables with the record that an arm has mounted given up (R130, R150). -/
def Tables.detached (t : Tables) (m : Mounted) : Tables :=
  match m with
  | .probe x => t.setLoc x .unknown
  | _ => t

theorem ports_detached (t : Tables) (m : Mounted) : (t.detached m).ports = t.ports := by
  cases m <;> rfl

theorem probes_detached (t : Tables) (m : Mounted) (q : Fin 24) : (t.detached m).probes[q] =
    { t.probes[q] with loc := if m = .probe q then .unknown else t.probes[q].loc } := by
  cases m with
  | probe x =>
    refine (getElem_setLoc t x q _).trans ?_
    rcases eq_or_ne q x with rfl | ne
    · simp
    · simp [ne, ne.symm]
  | _ => simp [Tables.detached]

/-- The port at which the head works in a change phase (R150 step 1). -/
def Block.portWorked (b : Block) (c : ChangePhase) (h : Half) : Option (Fin 12) :=
  if c = .stowApproach ∨ c = .fetchApproach then none
  else match h with
    | .stow => b.change.stowPort
    | .fetch => b.change.fetchPort

/-- The tables that the settlement of a change leaves (R150). -/
def Tables.settledAt (t : Tables) (port : Option (Fin 12)) (seatLow : Bool) (m : Mounted) : Tables :=
  let t1 := match port with
    | some p => State.Tables.doubtPort t p
    | none => t
  if seatLow then t1 else t1.detached m

section
variable {s : State} {a : Arm} {b : Block} {c : ChangePhase} {h : Half}

theorem tables_detach (s : State) (a : Arm) : (s.detach a).tables = s.tables.detached (s.arm a).mounted := by
  unfold State.detach Tables.detached
  cases (s.arm a).mounted <;> rfl

theorem tables_settleChange (phase : (s.arm a).phase = .changing c h) (exec : (s.arm a).exec = some b) :
    (s.settleChange a).tables =
      s.tables.settledAt (b.portWorked c h) (s.arm a).seatLow (s.arm a).mounted := by
  have worked : s.portWorkedAt a = b.portWorked c h := by
    unfold State.portWorkedAt
    rw [phase, exec]
    rfl
  have changing : (s.arm a).changing = true := by
    unfold ArmRec.changing
    rw [phase]
  have given (w : State) (own : w.arm a = s.arm a) (m : Mounted) :
      (State.setMounted (if (w.arm a).seatLow = true then w else w.detach a) a m).tables =
        if (s.arm a).seatLow = true then w.tables else w.tables.detached (s.arm a).mounted := by
    rw [own]
    split
    · rfl
    · rw [← own]
      exact tables_detach w a
  unfold State.settleChange State.settlement Tables.settledAt
  rw [changing, if_pos rfl, tables_noteProbeChange, worked]
  cases b.portWorked c h with
  | none => exact given s rfl _
  | some p => exact given { s with tables := State.Tables.doubtPort s.tables p } rfl _

theorem ports_settledAt (t : Tables) (port : Option (Fin 12)) (seatLow : Bool) (m : Mounted) (p : Fin 12) :
    (t.settledAt port seatLow m).ports[p] =
      { t.ports[p] with state := if port = some p then .unknown else t.ports[p].state } := by
  have kept (u : Tables) : (if seatLow then u else u.detached m).ports = u.ports := by
    split
    · rfl
    · exact ports_detached u m
  unfold Tables.settledAt
  rw [kept]
  cases port with
  | none => rfl
  | some r =>
    refine (ports_doubtPort t r p).trans ?_
    simp only [Option.some.injEq, eq_comm]

theorem probes_settledAt (t : Tables) (port : Option (Fin 12)) (seatLow : Bool) (m : Mounted) (q : Fin 24) :
    (t.settledAt port seatLow m).probes[q] = { t.probes[q] with
      loc := if (∃ p : Fin 12, port = some p ∧ t.ports[p].state = .occupied q) ∨ (seatLow = false ∧ m = .probe q)
        then .unknown else t.probes[q].loc } := by
  have gone (u : Tables) : (if seatLow then u else u.detached m).probes[q] =
      { u.probes[q] with loc := if seatLow = false ∧ m = .probe q then .unknown else u.probes[q].loc } := by
    cases seatLow
    · simpa using probes_detached u m q
    · simp
  unfold Tables.settledAt
  rw [gone]
  cases port with
  | none => simp
  | some r =>
    have only : (∃ p : Fin 12, some r = some p ∧ t.ports[p].state = .occupied q) ↔ t.ports[r].state = .occupied q := by
      simp only [Option.some.injEq, exists_eq_left']
    have doubted := probes_doubtPort t r q
    dsimp only
    rw [doubted, if_congr (or_congr_left only) rfl rfl]
    by_cases occupied : t.ports[r].state = .occupied q
    · simp only [if_pos occupied, if_pos (Or.inl occupied), ite_self]
    · rw [if_neg occupied, if_congr (or_iff_right occupied) rfl rfl]

end

/-! ## An arm-level fault at rest (R64) -/

section
variable {s w : State} {a : Arm} {r : ArmRec} {f : FaultCode}

theorem sameZone_halted (zone : s.sameZone w a) (cause : Cause) : s.sameZone (w.halted a cause) a := by
  obtain ⟨holder, last, boxes, waits⟩ := zone
  have withdrawn : w.sameZone (w.halted a cause) a := sameZone_of_withdraw (zone_halted w a cause)
  obtain ⟨holder', last', boxes', waits'⟩ := withdrawn
  exact ⟨holder'.trans holder, last'.trans last, boxes'.trans boxes, waits'.trans waits⟩

/-- The state at an arm-level fault of an arm at rest, its blocks completed and its release test made (R64). -/
def State.faultEnd (w : State) (a : Arm) (f : FaultCode) : State := (w.halted a (.fault f)).endStopping a

theorem armFault_rest (rest : w.runsOn a = false) (state : (w.arm a).state ≠ .stopping) (fault : (w.arm a).state ≠ .fault)
    (f : FaultCode) : w.armFault a f = w.faultEnd a f := by
  rw [armFault_stops state fault, enterStopping_rest rest]
  rfl

theorem arm_faultEnd (w : State) (a : Arm) (f : FaultCode) : (w.faultEnd a f).arm a =
    { { (w.arm a).stopping (.fault f) with queue := w.pausedQueue a }.emptied with
      state := .fault
      lastFault := some f
      mounted := if (w.arm a).probeLost then .none else (w.arm a).settledMounted
      probeLost := false } := by
  rw [State.faultEnd, arm_endStopping_fault (cause_halted w a _) rfl, arm_halted_same]
  rfl

theorem paused_faultEnd (w : State) (a : Arm) (f : FaultCode) : ((w.faultEnd a f).lanes.get a).paused = true := by
  rw [State.faultEnd, endStopping_fault (cause_halted w a _) rfl, lanes_enterFault, State.ended, State.modArm_lanes,
    lanes_stopEnded, lanes_halted, Duo.get_set_same]

theorem noted_faultEnd (w : State) (a : Arm) (f : FaultCode) : (w.faultEnd a f).noted (faultNotice a) := by
  rw [State.faultEnd, endStopping_fault (cause_halted w a _) rfl]
  exact noted_enterFault_fault _ a f

theorem tables_faultEnd (kept : (w.arm a).probeLost = false) (f : FaultCode) :
    (w.faultEnd a f).tables = ((w.halted a (.fault f)).settleChange a).tables := by
  rw [State.faultEnd, endStopping_fault (cause_halted w a _) rfl, enterFault_eq, applyProbeLost_of_not, tables_releaseTest]
  · simp [State.faulting, State.setNotice, State.ended, State.stopEnded]
  · rw [arm_releaseTest_same, State.faulting, arm_setNotice, State.arm_modArm_same, State.ended, State.arm_modArm_same,
      arm_stopEnded_same, arm_halted_same]
    exact kept

/-- An arm-level fault at rest makes the release test with no next block (R64, R78). -/
theorem releases_faultEnd (f : FaultCode) (zone : s.sameZone w a) (other : w.arm a.other = r) (calm : r.calm)
    (pending : w.corr.swapPending = false) (settings : w.settings = s.settings) :
    s.Releases ((((w.halted a (.fault f)).stopEnded a slotFaulted .none (some f)).ended a).faulting a f) (w.faultEnd a f) a
      false r :=
  releases_endStopping_fault (cause_halted w a _) rfl (sameZone_halted zone _) ((arm_halted_other w a _).trans other) calm
    ((congrArg (fun c => c.corr.swapPending) (core_halted w a (.fault f))).trans pending)
    ((congrArg Core.settings (core_halted w a (.fault f))).trans settings)

theorem cmd_faultEnd (w : State) (a : Arm) (f : FaultCode) :
    (((((w.halted a (.fault f)).stopEnded a slotFaulted .none (some f)).ended a).faulting a f).arm a).cmd = (w.arm a).cmd := by
  rw [State.faulting, arm_setNotice, State.arm_modArm_same, State.ended, State.arm_modArm_same, arm_stopEnded_same,
    arm_halted_same]
  rfl

/-- After an arm-level fault at rest only the arm that is handed the grant has work left (R64, R73, R78). -/
theorem settle_faultEnd (f : FaultCode) (zone : s.sameZone w a) (other : w.arm a.other = r) (calm : r.calm)
    (pending : w.corr.swapPending = false) (settings : w.settings = s.settings)
    (may : s.unasked a = true ∨ ∃ b, s.waitsToMove a.other b) (standing : ∃ ax, r = { s.arm a.other with axes := ax }) :
    ∃ r', (w.faultEnd a f).settle = (w.faultEnd a f).setArm a.other r' ∧
      s.handsOver (w.faultEnd a f).settle a (w.arm a).cmd (some false) r :=
  settle_release (releases_faultEnd f zone other calm pending settings) (cmd_faultEnd w a f)
    (fun _ e => Option.some.inj e) may standing

/-- Where no grant is handed on, nothing is left to do after an event that makes the release test (R77). -/
theorem State.Releases.settle_kept {pre post : State} {n : Bool} (h : s.Releases pre post a n r)
    (same : pre.releaseTest a n = pre) : post.settle = post ∧ post.arm a.other = r := by
  have other : post.arm a.other = r := by rw [h.otherAfter, same, h.other]
  exact ⟨settle_of_calm (calm_of_arms h.pending h.own (other ▸ h.otherCalm)), other⟩

end

/-! ## The expiry of a SEAT wait (R142 to R144) -/

section
variable {s : State} {a : Arm}

/-- An expiry that a change of SEAT may arrive with leaves the debounced level of the arm open, and nothing else but the
count of free values (log 41). -/
theorem seatTogether_eq (s : State) (a : Arm) : ∃ n low bouncing, s.seatTogether a =
    { s with free := n }.setArm a { s.arm a with seatLow := low, debouncing := bouncing } := by
  unfold State.seatTogether
  dsimp only
  split
  · split
    · exact ⟨_, _, _, rfl⟩
    · exact ⟨_, _, _, (State.setArm_arm { s with free := s.free + 1 } a).symm⟩
  · exact ⟨_, _, _, (State.setArm_arm s a).symm⟩

theorem seatTogether_still (still : (s.arm a).debouncing = false) : s.seatTogether a = s := if_neg (by simp [still])

/-- The arm-level fault of a SEAT wait that expires at rest, whatever SEAT does with it (R142 to R144). -/
theorem exec_seatTimeout_rest (waits : (s.arm a).seatWait ≠ .none) (rest : (s.arm a).moving = false)
    (state : (s.arm a).state = .active ∨ (s.arm a).state = .held) : exec (.seatTimeout a) s =
      .next ((s.seatTogether a).faultEnd a .seatTimeout).settle := by
  refine (congrArg Host.Outcome.next (if_neg waits)).trans ?_
  obtain ⟨n, low, bouncing, e⟩ := seatTogether_eq s a
  rw [armFault_rest (w := s.seatTogether a)]
  · rw [e, State.runsOn, State.arm_setArm_same]
    simp [rest]
  all_goals
    rw [e, State.arm_setArm_same]
    rcases state with e | e <;> simp [e]

/-- What the expiry of a SEAT wait leaves of the grant (R73, R78). -/
theorem settle_seatTimeout (calm : s.calm = true) (may : s.unasked a = true ∨ ∃ b, s.waitsToMove a.other b) :
    let post := (s.seatTogether a).faultEnd a .seatTimeout
    (∃ r', post.settle = post.setArm a.other r' ∧ s.handsOver post.settle a (s.arm a).cmd (some false) (s.arm a.other)) ∧
      (¬ s.clears a (s.arm a).cmd → post.settle = post ∧ post.arm a.other = s.arm a.other) := by
  intro post
  obtain ⟨n, low, bouncing, e⟩ := seatTogether_eq s a
  have zone : s.sameZone (s.seatTogether a) a := sameZone_of_eq (by rw [e]; rfl)
  have other : (s.seatTogether a).arm a.other = s.arm a.other := by rw [e, State.arm_setArm_other]; rfl
  have cmd : ((s.seatTogether a).arm a).cmd = (s.arm a).cmd := by rw [e, State.arm_setArm_same]
  have pending : (s.seatTogether a).corr.swapPending = false := by rw [e]; exact swapPending_of_calm (s := s) calm
  have settings : (s.seatTogether a).settings = s.settings := by rw [e]; rfl
  have releases := releases_faultEnd .seatTimeout zone other (armCalm_of_calm calm _) pending settings
  have after := settle_faultEnd .seatTimeout zone other (armCalm_of_calm calm _) pending settings may ⟨_, rfl⟩
  rw [cmd] at after
  refine ⟨after, fun inside => releases.settle_kept (releaseTest_inside ?_ false)⟩
  rw [clears_of_sameZone releases.zone, cmd_faultEnd, cmd]
  exact inside

theorem rest_of_resting (h : s.restingBlock a = true) : (s.arm a).moving = false := by
  simp only [State.restingBlock, Bool.and_eq_true, Bool.not_eq_true'] at h
  exact h.1.1.2

end

/-! ## The settlement at each way that a change can end at rest (R150) -/

section
variable {s t : State} {a : Arm} {b : Block} {c : ChangePhase} {h : Half}

/-- A change of an arm has been settled: the tables and the mounted value (R150). -/
structure State.ChangeSettled (s t : State) (a : Arm) (b : Block) (c : ChangePhase) (h : Half) : Prop where
  tables : t.tables = s.tables.settledAt (b.portWorked c h) (s.arm a).seatLow (s.arm a).mounted
  mounted : (t.arm a).mounted = State.settledMount (s.arm a).seatLow (s.arm a).mounted

theorem settledMounted_changing {r : ArmRec} (phase : r.phase = .changing c h) :
    r.settledMounted = State.settledMount r.seatLow r.mounted := if_pos (by rw [ArmRec.changing, phase])

theorem changeSettled_faultEnd (phase : (s.arm a).phase = .changing c h) (exec : (s.arm a).exec = some b)
    (kept : (s.arm a).probeLost = false) (f : FaultCode) : s.ChangeSettled (s.faultEnd a f) a b c h where
  tables := by
    have own := arm_halted_same s a (.fault f)
    rw [tables_faultEnd kept, tables_settleChange (b := b) (c := c) (h := h) (by rw [own]; exact phase) (by rw [own]; exact exec),
      own, tables_halted]
    rfl
  mounted := by
    rw [arm_faultEnd, kept, settledMounted_changing phase]
    rfl

theorem changeSettled_blockFault (phase : (s.arm a).phase = .changing c h) (exec : (s.arm a).exec = some b)
    {f : FaultCode} (settles : f ≠ .idMismatch) : s.ChangeSettled (s.blockFault a f) a b c h where
  tables := by
    have own : ((s.zoneWithdraw a).modArm a ArmRec.quiet).arm a = (s.arm a).quiet := State.arm_modArm_same _ _ _
    have settled := tables_settleChange (s := (s.zoneWithdraw a).modArm a ArmRec.quiet) (b := b) (c := c) (h := h)
      (by rw [own]; exact phase) (by rw [own]; exact exec)
    rw [own] at settled
    rw [blockFault_eq, State.modArm_tables, tables_releaseTest, State.faulted, tables_pauseLane, State.modArm_tables,
      tables_writeExec, if_neg settles, settled]
    rfl
  mounted := by
    rw [arm_blockFault_same, if_neg settles, settledMounted_changing phase]

theorem changeSettled_abort (phase : (s.arm a).phase = .changing c h) (exec : (s.arm a).exec = some b)
    (kept : (s.arm a).probeLost = false) : s.ChangeSettled ((s.halted a .abort).endStopping a) a b c h where
  tables := by
    have own := arm_halted_same s a .abort
    have after : (((s.halted a .abort).stopEnded a slotDone .aborted none).afterDone a).tables =
        ((s.halted a .abort).settleChange a).tables := by
      rw [afterDone_eq, tables_fill, State.modArm_tables, tables_releaseTest]
      simp [State.ended, State.stopEnded]
    rw [endStopping_abort (cause_halted s a _), applyProbeLost_of_not, after,
      tables_settleChange (b := b) (c := c) (h := h) (by rw [own]; exact phase) (by rw [own]; exact exec), own, tables_halted]
    · rfl
    · rw [arm_afterDone_same, arm_stopEnded_same, own]
      exact kept
  mounted := by
    rw [arm_endStopping_abort (cause_halted s a _), arm_halted_same]
    show (if (s.arm a).probeLost = true then Mounted.none else _) = _
    rw [kept]
    exact settledMounted_changing (r := { (s.arm a).stopping .abort with queue := s.pausedQueue a }) phase

/-- What the work of the other arm leaves of a settlement. -/
theorem State.ChangeSettled.setArm_other (settled : s.ChangeSettled t a b c h) (r : ArmRec) :
    s.ChangeSettled (t.setArm a.other r) a b c h :=
  ⟨settled.tables, by rw [State.arm_other_setArm, settled.mounted]⟩

/-- After an abort at rest nothing is left to do but the other arm's work (R62, R73). -/
theorem settle_abort (calm : s.calm = true) (unasked : s.unasked a = true) :
    ∃ r', ((s.halted a .abort).endStopping a).settle = ((s.halted a .abort).endStopping a).setArm a.other r' := by
  have core := core_halted s a .abort
  have releases := releases_endStopping_abort (s := s) (r := s.arm a.other) (cause_halted s a _)
    (sameZone_of_withdraw (zone_halted s a _)) (arm_halted_other s a _) (armCalm_of_calm calm _)
    ((congrArg (fun c => c.corr.swapPending) core).trans (swapPending_of_calm calm)) (congrArg Core.settings core)
  obtain ⟨r, settle, -⟩ := settle_release (needs := some _) releases rfl (fun m e => Option.some.inj e) (.inl unasked) ⟨_, rfl⟩
  exact ⟨r, settle⟩

theorem exec_abort_rest (run : s.device = .run) (rest : s.runsOn a = false) (exec : (s.arm a).exec ≠ none)
    (state : (s.arm a).state = .active ∨ (s.arm a).state = .held) : Machine.exec (.abort a) s =
      .next ((s.halted a .abort).endStopping a).settle := by
  rw [exec_abort run, abortArm_block (by rcases state with e | e <;> simp [e]) (by rcases state with e | e <;> simp [e]) exec,
    enterStopping_rest rest]

theorem exec_coverFault {n : Nat} (timer : (s.arm a).coverTimer = some n) :
    exec (.coverFault a) s = .next (s.blockFault a .coverFault).settle := by
  show execCoverFault a s = _
  rw [execCoverFault, timer]

end

/-- Settles O52: whatever SEAT does with the expiry, the arm is in FAULT at rest, and its release test decides the grant; each
way in which a change ends at rest makes the same settlement. -/
theorem seatTimeoutFaultsAndSettles : Obligations.SeatTimeoutFaultsAndSettles := by
  refine ⟨fun s a calm resting waits => ?_, fun s a b calm exec rest state waits holds asks => ?_,
    fun s a c h b calm resting exec phase kept => ?_⟩
  · obtain ⟨-, state, unasked⟩ := resting_of resting
    let post := (s.seatTogether a).faultEnd a .seatTimeout
    obtain ⟨⟨r, settle, handed, -⟩, -⟩ := settle_seatTimeout calm (.inl unasked)
    obtain ⟨other, tested⟩ := handed unasked
    have own : post.settle.arm a = post.arm a := by rw [settle, State.arm_other_setArm]
    have fault := arm_faultEnd (s.seatTogether a) a .seatTimeout
    obtain ⟨n, low, bouncing, e⟩ := seatTogether_eq s a
    refine ⟨post.settle, exec_seatTimeout_rest waits (rest_of_resting resting) state, ?_, ?_, ?_, ?_, ?_, ?_, ?_, other, ?_, tested⟩
    · rw [own, fault]
    · rw [own, fault]
    · rw [own, fault]
      rfl
    · rw [own, fault]
      rfl
    · rw [own, fault]
      rfl
    · rw [settle]
      exact paused_faultEnd ..
    · rw [own, fault, e, State.arm_setArm_same]
      rfl
    · rw [settle]
      exact noted_faultEnd (s.seatTogether a) a .seatTimeout
  · let post := (s.seatTogether a).faultEnd a .seatTimeout
    obtain ⟨⟨r, settle, -, handed⟩, inside⟩ := settle_seatTimeout calm (.inr ⟨b, asks⟩)
    have own : post.settle.arm a = post.arm a := by rw [settle, State.arm_other_setArm]
    have fault := arm_faultEnd (s.seatTogether a) a .seatTimeout
    obtain ⟨out, stays⟩ := handed b asks holds
    refine ⟨post.settle, exec_seatTimeout_rest waits rest state, ?_, ?_, fun clears => out clears rfl, fun inn => ⟨stays (.inl inn), ?_⟩⟩
    · rw [own, fault]
    · rw [own, fault]
      rfl
    · rw [(inside inn).1]
      exact (inside inn).2
  · intro seat used settled
    obtain ⟨-, state, unasked⟩ := resting_of resting
    have gather {t : State} (done : s.ChangeSettled t a b c h) : settled t := by
      have used_eq : b.portWorked c h = used := by
        unfold Block.portWorked
        cases c <;> cases h <;> rfl
      refine ⟨?_, fun p => ?_, fun q => ?_⟩
      · rw [done.mounted]
        show State.settledMount seat _ = _
        cases seat <;> cases (s.arm a).mounted <;> rfl
      · rw [done.tables, used_eq]
        exact ports_settledAt ..
      · rw [done.tables, used_eq]
        exact probes_settledAt ..
    refine ⟨fun waits still => ?_, fun n timer => ?_, fun run => ?_⟩
    · obtain ⟨⟨r, settle, -⟩, -⟩ := settle_seatTimeout calm (.inl unasked)
      refine ⟨_, exec_seatTimeout_rest waits (rest_of_resting resting) state, ?_⟩
      rw [settle, seatTogether_still still]
      exact gather ((changeSettled_faultEnd phase exec kept _).setArm_other r)
    · refine ⟨_, exec_coverFault timer, ?_⟩
      rw [settle_blockFault calm unasked]
      exact gather (changeSettled_blockFault phase exec nofun)
    · obtain ⟨r, settle⟩ := settle_abort calm unasked
      refine ⟨_, exec_abort_rest run (by simp [State.runsOn, rest_of_resting resting]) (by simp [exec]) state, ?_⟩
      rw [settle]
      exact gather ((changeSettled_abort phase exec kept).setArm_other r)

end Sys2Proof.Machine
end


section
/-! PROOF. SEAT: its debounce, and what each standing of a change makes of a change of it (O53). -/

namespace Sys2Proof.Machine

/-! ## What is due at an arm whose record is written out -/

section
variable {s t w : State} {a : Arm} {r : ArmRec} {b : Block}

theorem calm_congr (arms : t.arms = s.arms) (pending : t.corr.swapPending = s.corr.swapPending) : t.calm = s.calm := by
  rw [State.calm, State.calm, settled_congr arms pending, pending]

theorem calm_setArm (calm : s.calm = true) (own : r.calm) : (s.setArm a r).calm = true := by
  refine calm_of_arms (a := a) (swapPending_of_calm (s := s) calm) ?_ ?_
  · rwa [State.arm_setArm_same]
  · rw [State.arm_setArm_other]
    exact armCalm_of_calm calm _

/-- The work that is due begins with nothing due any more (R53). -/
theorem beginDue_setArm (s : State) (a : Arm) (r : ArmRec) (d : Due) :
    (s.setArm a r).beginDue a d = (s.setArm a { r with due := none }).beginDue a d := by
  cases d <;> simp only [State.beginDue, modArm_setArm]

/-- What is due at an ACTIVE arm at rest is its only work, where the state was calm (R53). -/
theorem settle_dueWork {d : Due} (calm : s.calm = true) (active : r.state = .active) (rest : r.moving = false)
    (level : r.holdLevel = false) (now : d ≠ .nextLeg) (phase : r.phase ≠ .waitSwap)
    (work : (s.setArm a { r with due := none }).beginDue a d = t) (done : t.settled = true) :
    (s.setArm a { r with due := some d }).settle = t := by
  refine settle_due (a := a) (d := d) (quietBut_of_calm (swapPending_of_calm (s := s) calm) ?_ ?_) ?_ ?_ ?_ ?_ now ?_ done
  · rw [State.arm_setArm_other]
    exact armCalm_of_calm calm _
  · rw [State.arm_setArm_same]
    exact fun waits => phase waits.2
  · rw [State.arm_setArm_same]
    exact active
  · rw [State.arm_setArm_same]
    exact rest
  · rw [State.arm_setArm_same]
    exact level
  · rw [State.arm_setArm_same]
  · rw [beginDue_setArm]
    exact work

theorem beginSeg_long {stop : Vec} {feed : Nat} (long : (s.segTo a (s.arm a).cmd stop feed).len ≠ 0) :
    s.beginSeg a stop feed =
      s.modArm a fun r => { r with seg := s.segTo a (s.arm a).cmd stop feed, moving := true } := by
  have begins := beginSeg_setArm (s := s) (a := a) (r := s.arm a) long
  rwa [State.setArm_arm] at begins

theorem beginDue_change (due : r.due = none) (c : ChangePhase) (h : Half) :
    (s.setArm a r).beginDue a (.change c h) = (s.setArm a r).beginChange a c h := by
  show ((s.setArm a r).modArm a fun r => { r with due := none }).beginChange a c h = _
  rw [modArm_setArm]
  simp only [← due]

theorem beginChange_portRetract (exec : r.exec = some b) (h : Half)
    (long : (s.segTo a r.cmd (b.target (b.approachIndex h)) (b.slot.nat 6)).len ≠ 0) :
    (s.setArm a r).beginChange a .portRetract h = s.setArm a { r with
      phase := .changing .portRetract h
      seg := s.segTo a r.cmd (b.target (b.approachIndex h)) (b.slot.nat 6)
      moving := true } := by
  unfold State.beginChange
  simp only [State.arm_setArm_same, exec]
  rw [setPhase_setArm, beginSeg_setArm (by exact long), exec]

theorem beginChange_approach {c : ChangePhase} (exec : r.exec = some b) (h : Half)
    (approach : c = .stowApproach ∨ c = .fetchApproach) : (s.setArm a r).beginChange a c h =
      ((s.setArm a { r with phase := .changing c h }).armCoverOf a b h).beginSeg a (b.target (b.approachIndex h))
        (b.slot.nat 5) := by
  unfold State.beginChange
  rcases approach with rfl | rfl <;>
    simp only [State.arm_setArm_same, exec, setPhase_setArm]

theorem beginDue_lock (due : r.due = none) (cmd : LinkCmd) : (s.setArm a r).beginDue a (.transaction cmd) =
    s.setArm a { r with
      link := { r.link with engine := .wake, cmd := cmd, attempt := 1, firstKind := none, buf := [] } } := by
  show ((s.setArm a r).modArm a fun r => { r with due := none }).beginLink a cmd = _
  rw [State.beginLink, modArm_setArm, modArm_setArm]
  simp only [← due]

@[simp] theorem arm_armCoverOf (s : State) (a c : Arm) (b : Block) (h : Half) : (s.armCoverOf a b h).arm c = s.arm c := by
  unfold State.armCoverOf
  split <;> rfl

end

/-! ## The loss of a probe that is acted on at rest (R130) -/

section
variable {s w : State} {a : Arm} {i : Fin 24} {h : Half} {b : Block}

theorem tables_applyProbeLost (s : State) (a : Arm) : (s.applyProbeLost a).tables =
    if (s.arm a).probeLost then s.tables.detached (s.arm a).mounted else s.tables := by
  unfold State.applyProbeLost
  dsimp only
  by_cases lost : (s.arm a).probeLost = true
  · rw [if_pos lost, if_pos lost]
    split
    · rename_i empty
      rw [empty]
      rfl
    · refine (tables_detach (s.modArm a fun r => { r with probeLost := false }) a).trans ?_
      rw [State.arm_modArm_same]
      rfl
  · rw [if_neg lost, if_neg lost]

theorem noted_applyProbeLost_probe (lost : (s.arm a).probeLost = true) (mounted : (s.arm a).mounted ≠ .none) :
    (s.applyProbeLost a).noted .probe := by
  unfold State.applyProbeLost
  dsimp only
  rw [if_pos lost, if_neg mounted]
  exact noted_setNotice_same _ _

theorem noted_noteProbeChange_moved {t : State} (moved : (s.arm a).mounted ≠ (t.arm a).mounted) :
    (State.noteProbeChange s t a).noted .probe := by
  unfold State.noteProbeChange
  rw [if_pos (.inr moved)]
  exact noted_setNotice_same _ _

theorem noted_settleChange_probe (changing : (s.arm a).changing = true)
    (moved : State.settledMount (s.arm a).seatLow (s.arm a).mounted ≠ (s.arm a).mounted) : (s.settleChange a).noted .probe := by
  have after := arm_settlement_same s a
  unfold State.settlement at after
  rw [arm_noteProbeChange] at after
  unfold State.settleChange State.settlement
  rw [if_pos changing]
  refine noted_noteProbeChange_moved ?_
  rw [after]
  exact moved.symm

theorem tables_faultEnd_lost (lost : (w.arm a).probeLost = true) (f : FaultCode) : (w.faultEnd a f).tables =
    ((w.halted a (.fault f)).settleChange a).tables.detached (w.arm a).settledMounted := by
  let pre := (((w.halted a (.fault f)).stopEnded a slotFaulted .none (some f)).ended a).faulting a f
  have own : (pre.arm a).probeLost = true ∧ (pre.arm a).mounted = (w.arm a).settledMounted := by
    simp only [pre]
    rw [State.faulting, arm_setNotice, State.arm_modArm_same, State.ended, State.arm_modArm_same, arm_stopEnded_same,
      arm_halted_same]
    exact ⟨lost, rfl⟩
  have tables : pre.tables = ((w.halted a (.fault f)).settleChange a).tables := by
    simp [pre, State.faulting, State.setNotice, State.ended, State.stopEnded]
  rw [State.faultEnd, endStopping_fault (cause_halted w a _) rfl, enterFault_eq, tables_applyProbeLost, arm_releaseTest_same,
    tables_releaseTest, own.1, own.2, tables]
  rfl

/-- What the loss of a verified probe leaves, acted on at rest (R64, R130). -/
structure State.ProbeGone (s t : State) (a : Arm) (i : Fin 24) : Prop where
  state : (t.arm a).state = .fault
  code : (t.arm a).lastFault = some .probeLost
  exec : (t.arm a).exec = none
  link : (t.arm a).link.engine = .idle
  paused : (t.lanes.get a).paused = true
  noted : t.noted .probe
  mounted : (t.arm a).mounted = .none
  tables : t.tables = { s.tables with probes := s.tables.probes.set i { s.tables.probes[i] with loc := .unknown } }

/-- A loss of the probe outside a change, or in STOW_APPROACH with SEAT high, as its arm enters FAULT (R130, R148). -/
theorem probeGone_faultEnd (mounted : (w.arm a).mounted = .probe i) (lost : (w.arm a).probeLost = true)
    (stands : (w.arm a).changing = false ∨
      ∃ h b, (w.arm a).phase = .changing .stowApproach h ∧ (w.arm a).exec = some b ∧ (w.arm a).seatLow = false) :
    w.ProbeGone (w.faultEnd a .probeLost) a i := by
  have arm := arm_faultEnd w a .probeLost
  have own := arm_halted_same w a (.fault .probeLost)
  have outcome : (w.faultEnd a .probeLost).noted .probe ∧ (w.faultEnd a .probeLost).tables = w.tables.detached (.probe i) := by
    rw [tables_faultEnd_lost lost]
    rcases stands with outside | ⟨h, b, phase, exec, high⟩
    · have still : (w.halted a (.fault .probeLost)).settleChange a = w.halted a (.fault .probeLost) :=
        settleChange_of_not (by rw [own]; exact outside)
      have value : (w.arm a).settledMounted = .probe i := by rw [ArmRec.settledMounted, outside, mounted]; rfl
      rw [still, tables_halted, value]
      refine ⟨?_, rfl⟩
      rw [State.faultEnd, endStopping_fault (cause_halted w a _) rfl, enterFault_eq]
      refine noted_applyProbeLost_probe ?_ ?_ <;>
        rw [arm_releaseTest_same, State.faulting, arm_setNotice, State.arm_modArm_same, State.ended, State.arm_modArm_same,
          arm_stopEnded_same, own]
      · exact lost
      · show (w.arm a).settledMounted ≠ .none
        rw [value]
        nofun
    · have value : (w.arm a).settledMounted = .none := by
        rw [settledMounted_changing phase, high]
        rfl
      have settled := tables_settleChange (s := w.halted a (.fault .probeLost)) (b := b) (c := .stowApproach) (h := h)
        (by rw [own]; exact phase) (by rw [own]; exact exec)
      rw [own, tables_halted] at settled
      rw [settled, value]
      refine ⟨?_, ?_⟩
      · rw [State.faultEnd, endStopping_fault (cause_halted w a _) rfl]
        refine noted_enterFault ((noted_modArm a _).2 (noted_writeCommitted (noted_writeExec (noted_settleChange_probe ?_ ?_)
          a _ _ _) a _ _ _)) a _
        · rw [own]
          simp [ArmRec.changing, ArmRec.stopping, phase]
        · rw [own]
          show State.settledMount (w.arm a).seatLow (w.arm a).mounted ≠ (w.arm a).mounted
          rw [high, mounted]
          nofun
      · show (w.tables.settledAt (b.portWorked .stowApproach h) (w.arm a).seatLow (w.arm a).mounted).detached .none = _
        rw [high, mounted]
        rfl
  refine ⟨by rw [arm], by rw [arm], by rw [arm]; rfl, by rw [arm]; rfl, paused_faultEnd .., outcome.1, ?_, outcome.2⟩
  rw [arm, lost]
  rfl

end

/-! ## The debounced level changes (R129, R130) -/

/-- The arm record once the debounced level has taken the line's value (R129). -/
def ArmRec.seatRead (r : ArmRec) (low : Bool) : ArmRec := { r with seatLow := low, debouncing := false }

section
variable {s w : State} {a : Arm} {i : Fin 24} {b : Block} {c : ChangePhase} {h : Half} {low : Bool} {r : ArmRec}

theorem exec_seatDebounce (bouncing : (s.arm a).debouncing = true) (line : s.pins.hseatLow.get a = low) :
    exec (.seatDebounceExpiry a) s =
      .next (((s.setArm a ((s.arm a).seatRead low)).seatChanged a low).settle) := by
  subst line
  exact congrArg Host.Outcome.next (if_pos bouncing)

theorem seatChanged_rise (phase : (w.arm a).phase = .none ∨ (w.arm a).phase = .identifying) :
    w.seatChanged a false = w.seatRise a := by
  unfold State.seatChanged
  rcases phase with e | e <;> rw [e]

theorem seatChanged_fall (phase : (w.arm a).phase = .none ∨ (w.arm a).phase = .identifying) :
    w.seatChanged a true = w.seatFall a := by
  unfold State.seatChanged
  rcases phase with e | e <;> rw [e]

theorem seatChanged_changing_rise (phase : (w.arm a).phase = .changing c h) :
    w.seatChanged a false = w.seatRiseChanging a c h := by
  unfold State.seatChanged
  rw [phase]

theorem seatChanged_changing_fall (phase : (w.arm a).phase = .changing c h) :
    w.seatChanged a true = w.seatFallChanging a c := by
  unfold State.seatChanged
  rw [phase]

theorem seatRise_probe (mounted : (w.arm a).mounted = .probe i) : w.seatRise a = w.probeLostAt a := by
  unfold State.seatRise
  rw [mounted]

theorem seatRise_unknown (mounted : (w.arm a).mounted = .unverified ∨ (w.arm a).mounted = .foreign) : w.seatRise a =
    if w.isIdentifying a then (w.setMounted a .none).blockFault a .noProbe else w.setMounted a .none := by
  unfold State.seatRise
  rcases mounted with e | e <;> rw [e]

theorem seatFall_empty (mounted : (w.arm a).mounted = .none) (exec : (w.arm a).exec = none) :
    w.seatFall a = w.setMounted a .unverified := by
  have idle : w.runsBlock a .changeProbe = false := by
    unfold State.runsBlock
    rw [exec]
    cases (w.arm a).state <;> rfl
  unfold State.seatFall
  rw [mounted]
  dsimp only
  rw [idle]
  rfl

theorem seatFall_known (mounted : (w.arm a).mounted ≠ .none) : w.seatFall a = w := by
  unfold State.seatFall
  split
  · exact absurd ‹_› mounted
  · rfl

/-- The loss of a probe whose arm is neither STOPPING nor in FAULT (R130). -/
theorem probeLostAt_running (state : (w.arm a).state ≠ .fault) : w.probeLostAt a =
    (w.setArm a { w.arm a with probeLost := true }).armFault a .probeLost := by
  unfold State.probeLostAt
  cases e : (w.arm a).state
  case fault => exact absurd e state
  all_goals rfl

/-- A level that is read and nothing else leaves nothing to do. -/
theorem settle_seatRead (calm : s.calm = true) (low : Bool) :
    (s.setArm a ((s.arm a).seatRead low)).settle = s.setArm a ((s.arm a).seatRead low) :=
  settle_of_calm (calm_setArm calm (armCalm_of_calm calm a))

/-- The loss of a verified probe at rest: FAULT, and the record is given up (R130, R148). -/
theorem probeGone_settle (calm : s.calm = true) (unasked : s.unasked a = true) (rest : (s.arm a).moving = false)
    (state : (s.arm a).state ≠ .stopping) (fault : (s.arm a).state ≠ .fault) (mounted : (s.arm a).mounted = .probe i)
    (stands : (s.arm a).changing = false ∨ ∃ h, (s.arm a).phase = .changing .stowApproach h ∧ (s.arm a).exec ≠ none) :
    s.ProbeGone ((s.setArm a ((s.arm a).seatRead false)).probeLostAt a).settle a i := by
  let w : State := s.setArm a { (s.arm a).seatRead false with probeLost := true }
  have own : w.arm a = { (s.arm a).seatRead false with probeLost := true } := State.arm_setArm_same _ _ _
  have step : (s.setArm a ((s.arm a).seatRead false)).probeLostAt a = w.faultEnd a .probeLost := by
    have marked : (s.setArm a ((s.arm a).seatRead false)).setArm a
        { (s.setArm a ((s.arm a).seatRead false)).arm a with probeLost := true } = w := by
      rw [State.arm_setArm_same, State.setArm_setArm]
    rw [probeLostAt_running (by rw [State.arm_setArm_same]; exact fault), marked,
      armFault_rest (by rw [State.runsOn, own]; simp [ArmRec.seatRead, rest]) (by rw [own]; exact state)
        (by rw [own]; exact fault)]
  have gone : w.ProbeGone (w.faultEnd a .probeLost) a i := by
    rcases stands with outside | ⟨h, phase, exec⟩
    · exact probeGone_faultEnd (by rw [own]; exact mounted) (by rw [own]) (.inl (by rw [own]; exact outside))
    · obtain ⟨b, exec⟩ := Option.ne_none_iff_exists'.1 exec
      exact probeGone_faultEnd (by rw [own]; exact mounted) (by rw [own]) (.inr ⟨h, b, by rw [own]; exact ⟨phase, exec, rfl⟩⟩)
  obtain ⟨r, settle, -⟩ := settle_faultEnd (s := s) (w := w) (r := s.arm a.other) .probeLost (sameZone_of_eq rfl)
    (State.arm_setArm_other _ _ _) (armCalm_of_calm calm _) (swapPending_of_calm (s := s) calm) rfl (.inl unasked) ⟨_, rfl⟩
  rw [step, settle]
  obtain ⟨state, code, exec, link, paused, noted, mounted, tables⟩ := gone
  rw [← State.arm_other_setArm _ a r] at state code exec link mounted
  exact ⟨state, code, exec, link, paused, noted, mounted, tables⟩

/-! ## The waits of a change that a level ends (R143, R144, R148) -/

theorem changeOf_of (exec : (s.arm a).exec = some b) (passed : b.passed = true) (kind : b.slot.kind = some .changeProbe) :
    s.changeOf a = some b.change := by
  simp [State.changeOf, exec, passed, kind]

/-- The stow: the record stands in its port, the head is free, and the way out of the port is due (R143). -/
theorem stowMade_setArm {m : Fin 24} {p : Fin 12} (exec : r.exec = some b) (passed : b.passed = true)
    (kind : b.slot.kind = some .changeProbe) (stowed : b.change.stowed = some m) (port : b.change.stowPort = some p) :
    (s.setArm a r).stowMade a = State.setArm { s with tables := {
        probes := s.tables.probes.set m { s.tables.probes[m] with loc := .inPort p, lastPort := some p }
        ports := s.tables.ports.set p { s.tables.ports[p] with state := .occupied m } } } a { r with
      mounted := .none
      seatWait := .none
      phase := .changing .portRetract .stow
      due := some (.change .portRetract .stow) } := by
  unfold State.stowMade
  rw [changeOf_of (by rw [State.arm_setArm_same]; exact exec) passed kind]
  simp only [stowed, port]
  rw [modArm_setArm]
  show (((State.setArm { s with tables := {
    probes := s.tables.probes.set m { s.tables.probes[m] with loc := .inPort p, lastPort := some p }
    ports := s.tables.ports.set p { s.tables.ports[p] with state := .occupied m } } } a { r with seatWait := .none }).setMounted a
      .none).setPhase a _).setDue a _ = _
  rw [State.setMounted, modArm_setArm, setPhase_setArm, setDue_setArm]

/-- The wait of RELEASE ends with the stow, and the arm leaves the port (R143). -/
theorem settle_stowMade {m : Fin 24} {p : Fin 12} (calm : s.calm = true) (exec : r.exec = some b) (passed : b.passed = true)
    (kind : b.slot.kind = some .changeProbe) (stowed : b.change.stowed = some m) (port : b.change.stowPort = some p)
    (active : r.state = .active) (rest : r.moving = false) (due : r.due = none) (level : r.holdLevel = false)
    (long : (s.segTo a r.cmd (b.target 0) (b.slot.nat 6)).len ≠ 0) : ((s.setArm a r).stowMade a).settle =
      State.setArm { s with tables := {
          probes := s.tables.probes.set m { s.tables.probes[m] with loc := .inPort p, lastPort := some p }
          ports := s.tables.ports.set p { s.tables.ports[p] with state := .occupied m } } } a { r with
        mounted := .none
        seatWait := .none
        phase := .changing .portRetract .stow
        seg := s.segTo a r.cmd (b.target 0) (b.slot.nat 6)
        moving := true } := by
  let u : State := { s with tables := {
    probes := s.tables.probes.set m { s.tables.probes[m] with loc := .inPort p, lastPort := some p }
    ports := s.tables.ports.set p { s.tables.ports[p] with state := .occupied m } } }
  let r2 : ArmRec := { r with mounted := .none, seatWait := .none, phase := .changing .portRetract .stow }
  have calm : u.calm = true := (calm_congr (s := s) (t := u) rfl rfl).trans calm
  rw [stowMade_setArm exec passed kind stowed port]
  refine settle_dueWork (s := u) (r := r2) calm active rest level nofun nofun (d := .change .portRetract .stow) ?_
    (settled_of_calm (calm_setArm calm (calm_of_moving rfl (by simp [due]) nofun)))
  rw [show ({ r2 with due := none } : ArmRec) = r2 by simp only [r2, ← due], beginDue_change (r := r2) due,
    beginChange_portRetract (r := r2) exec _ (by exact long)]
  rfl

/-- The wait at the end of the stow half ends, and the fetch half begins (R142, R148). -/
theorem settle_stowDone {p : Fin 12} (calm : s.calm = true) (exec : r.exec = some b) (port : b.change.stowPort = some p)
    (active : r.state = .active) (rest : r.moving = false) (due : r.due = none) (level : r.holdLevel = false)
    (phase : r.phase ≠ .waitSwap) (long : (s.segTo a r.cmd (b.target 2) (b.slot.nat 5)).len ≠ 0) :
    ((s.setArm a r).stowDone a b).settle =
      (((s.setUnit s.tables.ports[p].coverUnit s.latches[s.tables.ports[p].coverUnit].unarmed).setArm a
        { r with seatWait := .none, phase := .changing .fetchApproach .fetch }).armCoverOf a b .fetch).modArm a fun x =>
          { x with seg := s.segTo a r.cmd (b.target 2) (b.slot.nat 5), moving := true } := by
  let u : State := s.setUnit s.tables.ports[p].coverUnit s.latches[s.tables.ports[p].coverUnit].unarmed
  let r2 : ArmRec := { r with seatWait := .none }
  let w : State := (u.setArm a { r2 with phase := .changing .fetchApproach .fetch }).armCoverOf a b .fetch
  have calm : u.calm = true := (calm_congr (s := s) (t := u) rfl rfl).trans calm
  have own : w.arm a = { r2 with phase := .changing .fetchApproach .fetch } := by
    rw [arm_armCoverOf, State.arm_setArm_same]
  have core : w.core = s.core := core_armCoverOf ..
  have goal : b.approachIndex .fetch = 2 := by simp [Block.approachIndex, port]
  have seg : w.segTo a (w.arm a).cmd (b.target 2) (b.slot.nat 5) = s.segTo a r.cmd (b.target 2) (b.slot.nat 5) := by
    have settings : w.settings = s.settings := congrArg Core.settings core
    simp only [State.segTo, State.feedOf, State.armSet, settings, own, r2]
  have unit : (s.setArm a r).stowDone a b = u.setArm a { r2 with due := some (.change .fetchApproach .fetch) } := by
    unfold State.stowDone State.coverUnitOf
    rw [port, modArm_setArm]
    show (u.setArm a r2).setDue a _ = _
    rw [setDue_setArm]
  rw [unit]
  refine settle_dueWork (s := u) (r := r2) calm active rest level nofun phase ?_ (settled_of_calm (calm_of_arms (a := a) ?_ ?_ ?_))
  · rw [show ({ r2 with due := none } : ArmRec) = r2 by simp only [r2, ← due], beginDue_change (r := r2) due,
      beginChange_approach (r := r2) exec _ (.inr rfl), goal, beginSeg_long (s := w) (by rw [seg]; exact long), seg]
  · exact (congrArg (fun c => c.corr.swapPending) core).trans (swapPending_of_calm (s := u) calm)
  · rw [State.arm_modArm_same]
    show ArmRec.calm { w.arm a with seg := _, moving := true }
    rw [own]
    exact calm_of_moving rfl (by simp [r2, due]) nofun
  · rw [State.arm_modArm_other, arm_armCoverOf, State.arm_setArm_other]
    exact armCalm_of_calm calm _

/-- The wait of ENGAGE ends with the LOCK transaction (R144). -/
theorem settle_engageSeated (calm : s.calm = true) (active : r.state = .active) (rest : r.moving = false) (due : r.due = none)
    (level : r.holdLevel = false) (phase : r.phase ≠ .waitSwap) : ((s.setArm a r).engageSeated a).settle =
      s.setArm a { r with
        seatWait := .none
        link := { r.link with engine := .wake, cmd := .lock, attempt := 1, firstKind := none, buf := [] } } := by
  rw [State.engageSeated, modArm_setArm, setDue_setArm]
  refine settle_dueWork (r := { r with seatWait := .none }) calm active rest level nofun phase
    (d := .transaction .lock) ?_ (settled_of_calm (calm_setArm calm (calm_of_resting (.inl due) level phase)))
  rw [show ({ r with seatWait := .none, due := none } : ArmRec) = { r with seatWait := .none } by simp only [← due],
    beginDue_lock (r := { r with seatWait := .none }) due]

/-- The phases of a change whose rise of SEAT does nothing but change the level (R148). -/
theorem seatRiseChanging_quiet (stands : c = .dock ∨ c = .fetchApproach ∨ (c = .release ∧ (w.arm a).seatWait = .none) ∨
    (c = .portRetract ∧ h = .stow ∧ (w.arm a).seatWait = .none) ∨ (c = .engage ∧ (w.arm a).seatWait ≠ .none)) :
    w.seatRiseChanging a c h = w := by
  unfold State.seatRiseChanging
  rcases stands with rfl | rfl | ⟨rfl, waits⟩ | ⟨rfl, rfl, waits⟩ | ⟨rfl, waits⟩
  · rfl
  · rfl
  · simp [waits]
  · simp [waits]
  · simp [waits]

theorem seatRiseChanging_gone (running : (w.arm a).state ≠ .stopping)
    (stands : (c = .engage ∧ (w.arm a).seatWait = .none) ∨ c = .identify) :
    w.seatRiseChanging a c h = w.blockFault a .noProbe := by
  unfold State.seatRiseChanging
  rcases stands with ⟨rfl, waits⟩ | rfl
  · simp [running, waits]
  · simp [running]

theorem seatRiseChanging_lost (mounted : (w.arm a).mounted = .probe i)
    (stands : c = .stowApproach ∨ (c = .portRetract ∧ h = .fetch)) : w.seatRiseChanging a c h = w.probeLostAt a := by
  unfold State.seatRiseChanging
  rcases stands with rfl | ⟨rfl, rfl⟩
  · simp [mounted]
  · simp [mounted]

theorem seatRiseChanging_unverified (mounted : ∀ i, (w.arm a).mounted ≠ .probe i) (running : (w.arm a).state ≠ .stopping) :
    w.seatRiseChanging a .portRetract .fetch =
      w.modExec a fun b => { b with change := { b.change with fault := some .noProbe } } := by
  unfold State.seatRiseChanging
  cases e : (w.arm a).mounted
  case probe i => exact absurd e (mounted i)
  all_goals simp [running]

theorem seatRiseChanging_stow (waits : (w.arm a).seatWait ≠ .none) : w.seatRiseChanging a .release h = w.stowMade a := by
  unfold State.seatRiseChanging
  simp [waits]

theorem seatRiseChanging_stowed (waits : (w.arm a).seatWait ≠ .none) (exec : (w.arm a).exec = some b) :
    w.seatRiseChanging a .portRetract .stow = w.stowDone a b := by
  unfold State.seatRiseChanging
  cases e : (w.arm a).seatWait
  case none => exact absurd e waits
  all_goals simp only [exec]

/-! ## The commands, standing by standing -/

theorem exec_seat_changing (bouncing : (s.arm a).debouncing = true) (high : s.pins.hseatLow.get a = false)
    (phase : (s.arm a).phase = .changing c h) : exec (.seatDebounceExpiry a) s =
      .next ((s.setArm a ((s.arm a).seatRead false)).seatRiseChanging a c h).settle := by
  rw [exec_seatDebounce bouncing high, seatChanged_changing_rise (by rw [State.arm_setArm_same]; exact phase)]

/-- A rise that changes nothing but the level (R148). -/
theorem exec_seat_quiet (calm : s.calm = true) (bouncing : (s.arm a).debouncing = true)
    (high : s.pins.hseatLow.get a = false) (phase : (s.arm a).phase = .changing c h)
    (stands : c = .dock ∨ c = .fetchApproach ∨ (c = .release ∧ (s.arm a).seatWait = .none) ∨
      (c = .portRetract ∧ h = .stow ∧ (s.arm a).seatWait = .none) ∨ (c = .engage ∧ (s.arm a).seatWait ≠ .none)) :
    exec (.seatDebounceExpiry a) s = .next (s.setArm a ((s.arm a).seatRead false)) := by
  rw [exec_seat_changing bouncing high phase, seatRiseChanging_quiet (by rw [State.arm_setArm_same]; exact stands),
    settle_seatRead calm]

/-- A rise that takes the module of an IDENTIFY that is not verified (R130, R137). -/
theorem exec_seat_identify (calm : s.calm = true) (bouncing : (s.arm a).debouncing = true)
    (high : s.pins.hseatLow.get a = false) (phase : (s.arm a).phase = .identifying)
    (state : (s.arm a).state = .active ∨ (s.arm a).state = .held) (unasked : s.unasked a = true)
    (mounted : (s.arm a).mounted = .unverified ∨ (s.arm a).mounted = .foreign) : exec (.seatDebounceExpiry a) s =
      .next ((s.setArm a { (s.arm a).seatRead false with mounted := .none }).blockFault a .noProbe) := by
  have running : (s.setArm a ((s.arm a).seatRead false)).isIdentifying a = true := by
    rw [State.isIdentifying, State.arm_setArm_same]
    simpa [ArmRec.seatRead, phase] using state
  rw [exec_seatDebounce bouncing high, seatChanged_rise (by rw [State.arm_setArm_same]; exact .inr phase),
    seatRise_unknown (by rw [State.arm_setArm_same]; exact mounted), if_pos running, State.setMounted, modArm_setArm]
  exact congrArg Host.Outcome.next (settle_blockFault (calm_setArm (r := { (s.arm a).seatRead false with mounted := .none }) calm
    (armCalm_of_calm calm a)) ((unasked_of_sameZone (sameZone_of_eq rfl)).trans unasked) _)

/-- A rise in a phase where the module should stay, none verified (R148). -/
theorem exec_seat_gone (calm : s.calm = true) (bouncing : (s.arm a).debouncing = true)
    (high : s.pins.hseatLow.get a = false) (phase : (s.arm a).phase = .changing c h)
    (state : (s.arm a).state = .active ∨ (s.arm a).state = .held) (unasked : s.unasked a = true)
    (stands : (c = .engage ∧ (s.arm a).seatWait = .none) ∨ c = .identify) : exec (.seatDebounceExpiry a) s =
      .next ((s.setArm a ((s.arm a).seatRead false)).blockFault a .noProbe) := by
  have running : ((s.arm a).seatRead false).state ≠ .stopping := by
    rcases state with e | e <;> simp [ArmRec.seatRead, e]
  rw [exec_seat_changing bouncing high phase,
    seatRiseChanging_gone (by rw [State.arm_setArm_same]; exact running) (by rw [State.arm_setArm_same]; exact stands)]
  exact congrArg Host.Outcome.next (settle_blockFault (calm_setArm (r := (s.arm a).seatRead false) calm
    (armCalm_of_calm calm a)) ((unasked_of_sameZone (sameZone_of_eq rfl)).trans unasked) _)

/-- The loss of a verified probe at rest, as the command makes it (R130, R148). -/
theorem exec_seat_lost (calm : s.calm = true) (bouncing : (s.arm a).debouncing = true)
    (high : s.pins.hseatLow.get a = false) (unasked : s.unasked a = true) (rest : (s.arm a).moving = false)
    (state : (s.arm a).state ≠ .stopping) (fault : (s.arm a).state ≠ .fault) (mounted : (s.arm a).mounted = .probe i)
    (stands : (s.arm a).phase = .none ∨ (s.arm a).phase = .identifying ∨
      ∃ h, (s.arm a).phase = .changing .stowApproach h ∧ (s.arm a).exec ≠ none) :
    ∃ t, exec (.seatDebounceExpiry a) s = .next t ∧ s.ProbeGone t a i := by
  have carried : ((s.setArm a ((s.arm a).seatRead false)).arm a).mounted = .probe i := by
    rw [State.arm_setArm_same]
    exact mounted
  have step : exec (.seatDebounceExpiry a) s =
      .next ((s.setArm a ((s.arm a).seatRead false)).probeLostAt a).settle := by
    rcases stands with phase | phase | ⟨h, phase, -⟩
    · rw [exec_seatDebounce bouncing high, seatChanged_rise (by rw [State.arm_setArm_same]; exact .inl phase),
        seatRise_probe carried]
    · rw [exec_seatDebounce bouncing high, seatChanged_rise (by rw [State.arm_setArm_same]; exact .inr phase),
        seatRise_probe carried]
    · rw [exec_seat_changing bouncing high phase, seatRiseChanging_lost carried (.inl rfl)]
  refine ⟨_, step, probeGone_settle calm unasked rest state fault mounted ?_⟩
  rcases stands with phase | phase | changing
  · exact .inl (by simp [ArmRec.changing, phase])
  · exact .inl (by simp [ArmRec.changing, phase])
  · exact .inr changing

/-- The loss of a verified probe on the move: STOPPING, the loss noted (R130, R148). -/
theorem exec_seat_lost_moving (calm : s.calm = true) (bouncing : (s.arm a).debouncing = true)
    (high : s.pins.hseatLow.get a = false) (mounted : (s.arm a).mounted = .probe i)
    (phase : (s.arm a).phase = .changing c h) (stands : c = .stowApproach ∨ (c = .portRetract ∧ h = .fetch))
    (active : (s.arm a).state = .active) (moves : (s.arm a).moving = true) (fast : 0 < (s.arm a).seg.v) :
    exec (.seatDebounceExpiry a) s =
      .next ((s.setArm a { (s.arm a).seatRead false with probeLost := true }).halted a (.fault .probeLost)) := by
  let w : State := s.setArm a { (s.arm a).seatRead false with probeLost := true }
  have own : w.arm a = { (s.arm a).seatRead false with probeLost := true } := State.arm_setArm_same _ _ _
  have marked : (s.setArm a ((s.arm a).seatRead false)).setArm a
      { (s.setArm a ((s.arm a).seatRead false)).arm a with probeLost := true } = w := by
    rw [State.arm_setArm_same, State.setArm_setArm]
  have settled : w.settled = true := settled_of_calm (calm_setArm calm (armCalm_of_calm calm a))
  rw [exec_seat_changing bouncing high phase,
    seatRiseChanging_lost (by rw [State.arm_setArm_same]; exact mounted) stands,
    probeLostAt_running (by rw [State.arm_setArm_same]; simp [ArmRec.seatRead, active]), marked,
    armFault_stops (by rw [own]; simp [ArmRec.seatRead, active]) (by rw [own]; simp [ArmRec.seatRead, active]),
    enterStopping_runs (runsOn_of_active (by rw [own]; exact active) (by rw [own]; exact moves) (by rw [own]; exact fast)),
    settle_of_settled (settled_halted settled (by rw [own]; exact moves) _)]

/-- The module of the fetch half is gone on the way out of the port, none verified (R148). -/
theorem exec_seat_unverified (calm : s.calm = true) (bouncing : (s.arm a).debouncing = true)
    (high : s.pins.hseatLow.get a = false) (phase : (s.arm a).phase = .changing .portRetract .fetch)
    (mounted : ∀ i, (s.arm a).mounted ≠ .probe i) (state : (s.arm a).state ≠ .stopping) (exec : (s.arm a).exec = some b) :
    Machine.exec (.seatDebounceExpiry a) s = .next (s.setArm a { (s.arm a).seatRead false with
      exec := some { b with change := { b.change with fault := some .noProbe } } }) := by
  have own : ((s.arm a).seatRead false).exec = some b := exec
  rw [exec_seat_changing bouncing high phase, seatRiseChanging_unverified (by rw [State.arm_setArm_same]; exact mounted)
    (by rw [State.arm_setArm_same]; exact state), modExec_setArm, own]
  have still : ArmRec.calm { (s.arm a).seatRead false with
      exec := some { b with change := { b.change with fault := some .noProbe } } } := armCalm_of_calm calm a
  exact congrArg Host.Outcome.next (settle_of_calm (calm_setArm calm still))

/-- The wait of RELEASE ends (R143). -/
theorem exec_seat_stow {m : Fin 24} {p : Fin 12} (calm : s.calm = true) (bouncing : (s.arm a).debouncing = true)
    (high : s.pins.hseatLow.get a = false) (phase : (s.arm a).phase = .changing .release .stow)
    (exec : (s.arm a).exec = some b) (passed : b.passed = true) (kind : b.slot.kind = some .changeProbe)
    (stowed : b.change.stowed = some m) (port : b.change.stowPort = some p) (active : (s.arm a).state = .active)
    (rest : (s.arm a).moving = false) (due : (s.arm a).due = none) (level : (s.arm a).holdLevel = false)
    (waits : (s.arm a).seatWait ≠ .none) (long : (s.segTo a (s.arm a).cmd (b.target 0) (b.slot.nat 6)).len ≠ 0) :
    Machine.exec (.seatDebounceExpiry a) s = .next (State.setArm { s with tables := {
        probes := s.tables.probes.set m { s.tables.probes[m] with loc := .inPort p, lastPort := some p }
        ports := s.tables.ports.set p { s.tables.ports[p] with state := .occupied m } } } a { (s.arm a).seatRead false with
      mounted := .none
      seatWait := .none
      phase := .changing .portRetract .stow
      seg := s.segTo a (s.arm a).cmd (b.target 0) (b.slot.nat 6)
      moving := true }) := by
  rw [exec_seat_changing bouncing high phase, seatRiseChanging_stow (by rw [State.arm_setArm_same]; exact waits)]
  exact congrArg Host.Outcome.next (settle_stowMade (r := (s.arm a).seatRead false) calm exec passed kind stowed port active
    rest due level long)

/-- The wait at the end of the stow half ends (R142, R148). -/
theorem exec_seat_stowed {p : Fin 12} (calm : s.calm = true) (bouncing : (s.arm a).debouncing = true)
    (high : s.pins.hseatLow.get a = false) (phase : (s.arm a).phase = .changing .portRetract .stow)
    (exec : (s.arm a).exec = some b) (port : b.change.stowPort = some p) (active : (s.arm a).state = .active)
    (rest : (s.arm a).moving = false) (due : (s.arm a).due = none) (level : (s.arm a).holdLevel = false)
    (waits : (s.arm a).seatWait ≠ .none) (long : (s.segTo a (s.arm a).cmd (b.target 2) (b.slot.nat 5)).len ≠ 0) :
    Machine.exec (.seatDebounceExpiry a) s = .next ((((s.setUnit s.tables.ports[p].coverUnit
      s.latches[s.tables.ports[p].coverUnit].unarmed).setArm a { (s.arm a).seatRead false with
        seatWait := .none, phase := .changing .fetchApproach .fetch }).armCoverOf a b .fetch).modArm a fun x =>
          { x with seg := s.segTo a (s.arm a).cmd (b.target 2) (b.slot.nat 5), moving := true }) := by
  rw [exec_seat_changing bouncing high phase,
    seatRiseChanging_stowed (b := b) (by rw [State.arm_setArm_same]; exact waits) (by rw [State.arm_setArm_same]; exact exec)]
  exact congrArg Host.Outcome.next (settle_stowDone (r := (s.arm a).seatRead false) calm exec port active rest due level
    (by simp [ArmRec.seatRead, phase]) long)

/-- The wait of ENGAGE ends (R144). -/
theorem exec_seat_engage (calm : s.calm = true) (bouncing : (s.arm a).debouncing = true)
    (low : s.pins.hseatLow.get a = true) (phase : (s.arm a).phase = .changing .engage h)
    (waits : (s.arm a).seatWait ≠ .none) (active : (s.arm a).state = .active) (rest : (s.arm a).moving = false)
    (due : (s.arm a).due = none) (level : (s.arm a).holdLevel = false) : exec (.seatDebounceExpiry a) s =
      .next (s.setArm a { (s.arm a).seatRead true with
        seatWait := .none
        link := { (s.arm a).link with engine := .wake, cmd := .lock, attempt := 1, firstKind := none, buf := [] } }) := by
  have falls : (s.setArm a ((s.arm a).seatRead true)).seatFallChanging a .engage =
      (s.setArm a ((s.arm a).seatRead true)).engageSeated a := by
    have waits : ((s.arm a).seatRead true).seatWait ≠ .none := waits
    unfold State.seatFallChanging
    simp [waits]
  rw [exec_seatDebounce bouncing low, seatChanged_changing_fall (by rw [State.arm_setArm_same]; exact phase), falls]
  exact congrArg Host.Outcome.next (settle_engageSeated (r := (s.arm a).seatRead true) calm active rest due level
    (by simp [ArmRec.seatRead, phase]))

/-- A fall in a change that changes nothing but the level (R148). -/
theorem exec_seat_fall_quiet (calm : s.calm = true) (bouncing : (s.arm a).debouncing = true)
    (low : s.pins.hseatLow.get a = true)
    (stands : (∃ c h, (s.arm a).phase = .changing c h ∧ (c ≠ .engage ∨ (s.arm a).seatWait = .none)) ∨
      ((s.arm a).phase = .identifying ∧ (s.arm a).mounted ≠ .none)) :
    exec (.seatDebounceExpiry a) s = .next (s.setArm a ((s.arm a).seatRead true)) := by
  let w : State := s.setArm a ((s.arm a).seatRead true)
  have own : w.arm a = (s.arm a).seatRead true := State.arm_setArm_same _ _ _
  have same : w.seatChanged a true = w := by
    rcases stands with ⟨c, h, phase, stands⟩ | ⟨phase, mounted⟩
    · rw [seatChanged_changing_fall (c := c) (h := h) (by rw [own]; exact phase)]
      have waits : (w.arm a).seatWait = (s.arm a).seatWait := by rw [own]; rfl
      unfold State.seatFallChanging
      cases c <;> simp_all
    · rw [seatChanged_fall (by rw [own]; exact .inr phase), seatFall_known (by rw [own]; exact mounted)]
  rw [exec_seatDebounce bouncing low, show State.seatChanged _ a true = w from same]
  exact congrArg Host.Outcome.next (settle_seatRead calm true)

end

/-- Settles O53: outside a change the level is met by the SEAT watch, in a change by its phase; each wait that ends makes one
further piece of work due, and each loss is acted on where the arm stands. -/
theorem seatIsDebouncedAndRead : Obligations.SeatIsDebouncedAndRead := by
  refine ⟨fun s a x change => congrArg Host.Outcome.next (if_neg change), fun s a calm bouncing exec phase =>
    ⟨fun low none => ?_, fun high mounted => ?_, fun i high mounted unasked rest state => ?_⟩,
    fun s a b calm bouncing exec => ?_⟩
  · rw [exec_seatDebounce bouncing low, seatChanged_fall (by rw [State.arm_setArm_same]; exact .inl phase),
      seatFall_empty (by rw [State.arm_setArm_same]; exact none) (by rw [State.arm_setArm_same]; exact exec),
      State.setMounted, modArm_setArm]
    exact congrArg Host.Outcome.next (settle_of_calm (calm_setArm calm (armCalm_of_calm calm a)))
  · rw [exec_seatDebounce bouncing high, seatChanged_rise (by rw [State.arm_setArm_same]; exact .inl phase),
      seatRise_unknown (by rw [State.arm_setArm_same]; exact mounted), if_neg, State.setMounted, modArm_setArm]
    · exact congrArg Host.Outcome.next (settle_of_calm (calm_setArm calm (armCalm_of_calm calm a)))
    · rw [State.isIdentifying, State.arm_setArm_same]
      simp [ArmRec.seatRead, phase]
  · obtain ⟨t, step, gone⟩ := exec_seat_lost calm bouncing high unasked rest (by rcases state with e | e | e <;> simp [e])
      (by rcases state with e | e | e <;> simp [e]) mounted (.inl phase)
    refine ⟨t, step, gone.state, gone.code, gone.mounted, ?_, ?_⟩
    · rw [gone.tables]
      exact Vector.getElem_set_self _
    · rw [gone.tables]
  · intro read quiet lost
    have apart (state : (s.arm a).state = .active ∨ (s.arm a).state = .held) :
        (s.arm a).state ≠ .stopping ∧ (s.arm a).state ≠ .fault := by
      rcases state with e | e <;> rw [e] <;> exact ⟨nofun, nofun⟩
    have gather {i : Fin 24} (gone : ∃ t, Machine.exec (.seatDebounceExpiry a) s = .next t ∧ s.ProbeGone t a i) :
        ∃ t, Machine.exec (.seatDebounceExpiry a) s = .next t ∧ lost t i := by
      obtain ⟨t, step, gone⟩ := gone
      exact ⟨t, step, gone.state, gone.code, gone.exec, gone.link, gone.paused, gone.noted, gone.mounted, gone.tables⟩
    have read_eq (low : Bool) (line : s.pins.hseatLow.get a = low) (f : ArmRec → ArmRec) :
        s.setArm a (f ((s.arm a).seatRead low)) = read f := by
      subst line
      rfl
    refine ⟨fun high => ⟨fun phase state unasked => ⟨fun mounted => ?_, fun i mounted rest => ?_⟩, fun h => ⟨fun stands => ?_,
      fun state unasked stands => ?_, fun i mounted => ⟨fun phase resting => ?_, fun stands active moves fast opened => ?_⟩,
      fun phase unverified state => ?_, fun passed kind active rest due level waits => ?_⟩⟩,
      fun low => ⟨fun c h phase stands => ?_, fun h phase waits active rest due level => ?_, fun phase mounted => ?_⟩⟩
    · exact (exec_seat_identify calm bouncing high phase state unasked mounted).trans
        (congrArg (fun x => Host.Outcome.next (State.blockFault x a .noProbe))
          (read_eq false high fun r => { r with mounted := .none }))
    · exact gather (exec_seat_lost calm bouncing high unasked rest (apart state).1 (apart state).2 mounted (.inr (.inl phase)))
    · refine Eq.trans ?_ (congrArg Host.Outcome.next (read_eq false high id))
      rcases stands with e | e | ⟨e, waits⟩ | ⟨e, waits⟩ | ⟨e, waits⟩
      · exact exec_seat_quiet calm bouncing high e (.inl rfl)
      · exact exec_seat_quiet calm bouncing high e (.inr (.inl rfl))
      · exact exec_seat_quiet calm bouncing high e (.inr (.inr (.inl ⟨rfl, waits⟩)))
      · exact exec_seat_quiet calm bouncing high e (.inr (.inr (.inr (.inl ⟨rfl, rfl, waits⟩))))
      · exact exec_seat_quiet calm bouncing high e (.inr (.inr (.inr (.inr ⟨rfl, waits⟩))))
    · refine Eq.trans ?_ (congrArg (fun x => Host.Outcome.next (State.blockFault x a .noProbe)) (read_eq false high id))
      rcases stands with ⟨e, waits⟩ | e
      · exact exec_seat_gone calm bouncing high e state unasked (.inl ⟨rfl, waits⟩)
      · exact exec_seat_gone calm bouncing high e state unasked (.inr rfl)
    · obtain ⟨-, state, unasked⟩ := resting_of resting
      exact gather (exec_seat_lost calm bouncing high unasked (rest_of_resting resting) (apart state).1 (apart state).2 mounted
        (.inr (.inr ⟨h, phase, by simp [exec]⟩)))
    · let w : State := s.setArm a { (s.arm a).seatRead false with probeLost := true }
      have own : w.arm a = (read fun r => { r with probeLost := true }).arm a :=
        congrArg (State.arm · a) (read_eq false high fun r => { r with probeLost := true })
      refine ⟨w.halted a (.fault .probeLost), ?_, by rw [lanes_halted, Duo.get_set_same], tables_halted .., ?_⟩
      · rcases stands with e | e
        · exact exec_seat_lost_moving calm bouncing high mounted e (.inl rfl) active moves fast
        · exact exec_seat_lost_moving calm bouncing high mounted e (.inr ⟨rfl, rfl⟩) active moves fast
      · rw [arm_halted_open (by exact opened), own]
    · exact (exec_seat_unverified calm bouncing high phase unverified state exec).trans (congrArg Host.Outcome.next
        (read_eq false high fun r => { r with exec := some { b with change := { b.change with fault := some .noProbe } } }))
    · intro feed seg m p stowed port
      let u : State := { s with tables := {
        probes := s.tables.probes.set m { s.tables.probes[m] with loc := .inPort p, lastPort := some p }
        ports := s.tables.ports.set p { s.tables.ports[p] with state := .occupied m } } }
      refine ⟨fun phase long => ?_, fun phase long => ?_⟩
      · exact (exec_seat_stow calm bouncing high phase exec passed kind stowed port active rest due level waits long).trans
          (congrArg (fun x => Host.Outcome.next { x with tables := u.tables }) (read_eq false high fun r => { r with
            mounted := .none
            seatWait := .none
            phase := .changing .portRetract .stow
            seg := seg 0 (b.slot.nat 6)
            moving := true }))
      · exact (exec_seat_stowed calm bouncing high phase exec port active rest due level waits long).trans
          (congrArg (fun x => Host.Outcome.next (((x.setUnit s.tables.ports[p].coverUnit
            s.latches[s.tables.ports[p].coverUnit].unarmed).armCoverOf a b .fetch).modArm a fun r =>
              { r with seg := seg 2 (b.slot.nat 5), moving := true })) (read_eq false high fun r => { r with
                seatWait := .none
                phase := .changing .fetchApproach .fetch }))
    · exact (exec_seat_fall_quiet calm bouncing low (.inl ⟨c, h, phase, stands⟩)).trans
        (congrArg Host.Outcome.next (read_eq true low id))
    · exact (exec_seat_engage calm bouncing low phase waits active rest due level).trans (congrArg Host.Outcome.next
        (read_eq true low fun r => { r with
          seatWait := .none
          link := { r.link with engine := .wake, cmd := .lock, attempt := 1, firstKind := none, buf := [] } }))
    · exact (exec_seat_fall_quiet calm bouncing low (.inr ⟨phase, mounted⟩)).trans
        (congrArg Host.Outcome.next (read_eq true low id))

end Sys2Proof.Machine
end


section
/-! PROOF. The attempts of the head link that fail (O55). -/

namespace Sys2Proof.Machine

/-! ## Failed attempts (R134, R135) -/

section
variable {s w : State} {a : Arm} {k : LinkKind} {b : Block}

theorem replyGap_bad (full : (s.arm a).link.cmd.expected ≤ (s.arm a).link.buf.length)
    (bad : judge (s.arm a).link.cmd (s.arm a).link.buf = some k) : s.replyGap a = s.attemptFailed a k := by
  unfold State.replyGap
  dsimp only
  rw [if_neg (Nat.not_lt.2 full), bad]

theorem replyGap_good (full : (s.arm a).link.cmd.expected ≤ (s.arm a).link.buf.length)
    (good : judge (s.arm a).link.cmd (s.arm a).link.buf = none) : s.replyGap a = s.transactionDone a := by
  unfold State.replyGap
  dsimp only
  rw [if_neg (Nat.not_lt.2 full), good]

/-- The judgement of the one byte that answers LOCK or UNLOCK (R134). -/
theorem judge_single {cmd : LinkCmd} (plain : cmd ≠ .readId) (x : Byte) : cmd.expected = 1 ∧
    judge cmd [x] = if x = ackByte then none else if x = nakByte then some .refused else some .framing := by
  cases cmd
  case readId => exact absurd rfl plain
  all_goals exact ⟨rfl, rfl⟩

/-- Every command at which an attempt fails makes the failure of that kind, B measured first (R132, R134). -/
theorem exec_linkFails {c : Instr} (fails : s.linkFails a c k) :
    exec c s = .next ((s.measured a c).attemptFailed a k).settle := by
  rcases fails with ⟨rfl, engine, rfl⟩ | ⟨rfl, engine, rfl⟩ | ⟨n, rfl, engine, short, rfl⟩ | ⟨rfl, engine, rfl⟩ |
    ⟨f, rfl, engine, bad⟩ | ⟨rfl, engine, bad⟩
  · exact congrArg Host.Outcome.next (if_pos engine)
  · exact congrArg Host.Outcome.next (if_pos engine)
  · refine (congrArg Host.Outcome.next (if_pos engine)).trans (congrArg Host.Outcome.next (if_pos short))
  · exact congrArg Host.Outcome.next (if_pos engine)
  · refine (congrArg Host.Outcome.next (if_pos engine)).trans ?_
    have fails : s.receiveFrame a f = s.attemptFailed a k := by
      unfold State.receiveFrame
      rcases bad with ⟨long, rfl⟩ | ⟨room, frame⟩
      · exact if_pos long
      · rw [if_neg (Nat.not_le.2 room), frame]
    rw [fails]
    rfl
  · refine (congrArg Host.Outcome.next (if_pos engine)).trans ?_
    have fails : s.replyGap a = s.attemptFailed a k := by
      rcases bad with ⟨short, rfl⟩ | ⟨cmd, full, sum, rfl⟩ | ⟨cmd, buf, rfl⟩ | ⟨cmd, ⟨x, buf, ack, nak⟩, rfl⟩
      · exact if_pos short
      · refine replyGap_bad (by rw [cmd, full]; exact Nat.le_refl 32) ?_
        rw [cmd, judge, if_neg sum]
      · obtain ⟨one, judged⟩ := judge_single cmd 0x5A
        exact replyGap_bad (by rw [one, buf]; exact Nat.le_refl 1) (by rw [buf, judged]; rfl)
      · obtain ⟨one, judged⟩ := judge_single cmd x
        exact replyGap_bad (by rw [one, buf]; exact Nat.le_refl 1) (by rw [buf, judged]; exact (if_neg ack).trans (if_neg nak))
    rw [fails]
    rfl

/-- What a failed transaction leaves of the block and of the engine before the fault is taken (R135, R137). -/
def ArmRec.linkFailed (r : ArmRec) (b : Block) (k : LinkKind) : ArmRec :=
  { r with
    link := { r.link with engine := .idle }
    exec := some { b with link := ⟨r.link.period, 1, r.link.firstKind, k.carried⟩ } }

theorem attemptFailed_first (first : (s.arm a).link.attempt = 1) :
    s.attemptFailed a k = s.modLink a fun l => { l with engine := .pause, firstKind := some k } := if_pos first

theorem noteLink_idled (s : State) (a : Arm) (exec : (s.arm a).exec = some b) (error : Option LinkKind) :
    (s.noteLink a error).modLink a Link.idled = s.setArm a { s.arm a with
      link := { (s.arm a).link with engine := .idle }
      exec := some { b with
        link := ⟨(s.arm a).link.period, (s.arm a).link.attempt - 1, (s.arm a).link.firstKind, error⟩ } } := by
  rw [State.noteLink, State.modExec, modArm_eq_setArm, State.modLink, modArm_setArm, exec]
  rfl

theorem attemptFailed_noted (second : (s.arm a).link.attempt = 2) (exec : (s.arm a).exec = some b) :
    (s.noteLink a k.carried).modLink a Link.idled = s.setArm a ((s.arm a).linkFailed b k) := by
  rw [noteLink_idled s a exec, second]
  rfl

/-- The second failure is block-level in IDENTIFY (R135, R137). -/
theorem attemptFailed_identify (second : (s.arm a).link.attempt = 2) (exec : (s.arm a).exec = some b)
    (phase : (s.arm a).phase = .identifying) :
    s.attemptFailed a k = (s.setArm a ((s.arm a).linkFailed b k)).blockFault a k.fault := by
  unfold State.attemptFailed State.transactionFailed
  rw [if_neg (by simp [second]), attemptFailed_noted second exec, phase]

/-- The second failure in a change is block-level for LINK_REFUSED, else arm-level (R135, R143 to R145). -/
theorem attemptFailed_changing {p : ChangePhase} {h : Half} (second : (s.arm a).link.attempt = 2)
    (exec : (s.arm a).exec = some b) (phase : (s.arm a).phase = .changing p h) : s.attemptFailed a k =
      if k.fault = .linkRefused then (s.setArm a ((s.arm a).linkFailed b k)).blockFault a .linkRefused
      else (s.setArm a ((s.arm a).linkFailed b k)).armFault a k.fault := by
  unfold State.attemptFailed State.transactionFailed
  rw [if_neg (by simp [second]), attemptFailed_noted second exec, phase]

/-- The B of a SYNC_RISE is recorded, and nothing else (R132). -/
theorem measured_eq (s : State) (a : Arm) (c : Instr) :
    ∃ p, s.measured a c = s.setArm a { s.arm a with link := { (s.arm a).link with period := p } } := by
  have same : s = s.setArm a { s.arm a with link := { (s.arm a).link with period := (s.arm a).link.period } } :=
    (State.setArm_arm s a).symm
  cases c
  case syncRise x n => exact ⟨(2 * n.toNat + 10) / 20, rfl⟩
  all_goals exact ⟨_, same⟩

theorem fault_ne_refused (other : k ≠ .refused) : k.fault ≠ .linkRefused := by
  cases k
  case refused => exact absurd rfl other
  all_goals nofun

end

section
variable {s w : State} {a : Arm} {b : Block} {f : FaultCode}

theorem core_faultEnd (w : State) (a : Arm) (f : FaultCode) : (w.faultEnd a f).core = w.core := by
  rw [State.faultEnd, core_endStopping, core_halted]

/-- The header of the slot of a block that an arm-level fault has ended at rest (R64, R159). -/
theorem slotSays_faultEnd (exec : (w.arm a).exec = some b) (wf : w.shm.wf = true)
    (fits : (w.lanes.get a).slotBase b.slot.index + 32 ≤ 65536) (single : (w.arm a).committed = none) :
    (w.faultEnd a f).slotSays a b.slot slotFaulted (f.code * 256 + b.flags.bits) w.tickNo := by
  have own := arm_halted_same w a (.fault f)
  have told := slotSays_endStopping_fault (cause_halted w a (.fault f)) rfl (b := b) (by rw [own]; exact exec)
    (wf_halted wf a (.fault f)) (by rw [lanes_halted, Duo.get_set_same]; exact fits) fun d committed => by
      rw [own] at committed
      cases single.symm.trans committed
  rw [show (w.halted a (.fault f)).tickNo = w.tickNo from congrArg Core.tickNo (core_halted w a (.fault f))] at told
  exact told

end

end Sys2Proof.Machine
end


section
/-! PROOF. The transactions of the head link that succeed (O55). -/

namespace Sys2Proof.Machine

/-! ## The record that an identity names (R136, R138) -/

section
variable {s : State} {a : Arm} {q : Fin 24} {bytes : List Byte}

theorem lookup_of {t : Tables} (blank : t.probes[q].serial ≠ 0)
    (only : ∀ j : Fin 24, j ≠ q → t.probes[j].serial ≠ t.probes[q].serial) :
    t.lookup t.probes[q].serial t.probes[q].kind = some q := by
  unfold Tables.lookup
  cases found : (List.finRange 24).find? fun i => t.probes[q].serial != 0 && t.probes[i].serial == t.probes[q].serial &&
      t.probes[i].kind == t.probes[q].kind with
  | none =>
    have missed := List.find?_eq_none.1 found q (List.mem_finRange q)
    exact absurd (by simpa using blank) missed
  | some j =>
    have hit := List.find?_some found
    simp only [Bool.and_eq_true, beq_iff_eq] at hit
    by_contra other
    exact only j (fun e => other (congrArg some e)) hit.1.2

theorem identity_some {n : Nat} {k : ProbeKind} (read : identity? bytes = some (n, k)) : n ≠ 0 ∧ identSerial bytes = n := by
  unfold identity? at read
  split at read
  · split at read
    · obtain ⟨rfl, -⟩ := Prod.mk.inj (Option.some.inj read)
      exact ⟨(‹_ ∧ _› : _ ∧ _).2, rfl⟩
    · cases read
  · cases read

theorem matched_of_identifies (found : s.identifies a q) : s.matched (s.arm a).link.buf = some q := by
  obtain ⟨named, only⟩ := found
  rw [State.matched, named]
  exact lookup_of (identity_some named).1 only

theorem names_of_matched (found : s.matched (s.arm a).link.buf = some q) : s.names a q := by
  obtain ⟨⟨n, k⟩, read, hit⟩ := Option.bind_eq_some_iff.1 found
  have hit := List.find?_some (show (List.finRange 24).find? _ = some q from hit)
  simp only [Bool.and_eq_true, beq_iff_eq] at hit
  obtain ⟨⟨-, serial⟩, kind⟩ := hit
  rw [State.names, read, serial, kind]

theorem matched_none (unnamed : ∀ q, ¬ s.names a q) : s.matched (s.arm a).link.buf = none := by
  cases found : s.matched (s.arm a).link.buf with
  | none => rfl
  | some q => exact absurd (names_of_matched found) (unnamed q)

end

/-! ## A transaction that has succeeded (R131) -/

/-- What a success leaves of the block and of the engine (R131, R137). -/
def ArmRec.linkDone (r : ArmRec) (b : Block) : ArmRec :=
  { r with
    link := { r.link with engine := .idle }
    exec := some { b with link := ⟨r.link.period, r.link.attempt - 1, r.link.firstKind, none⟩ } }

section
variable {s : State} {a : Arm} {b : Block} {h : Half}

theorem exec_linkDone (engine : s.engine a = .receive) (full : (s.arm a).link.cmd.expected ≤ (s.arm a).link.buf.length)
    (good : judge (s.arm a).link.cmd (s.arm a).link.buf = none) :
    exec (.replyGapExpiry a) s = .next (s.transactionDone a).settle := by
  rw [← replyGap_good full good]
  exact congrArg Host.Outcome.next (if_pos engine)

theorem exec_acknowledged (engine : s.engine a = .receive) (cmd : (s.arm a).link.cmd ≠ .readId)
    (buf : (s.arm a).link.buf = [0xA5]) : exec (.replyGapExpiry a) s = .next (s.transactionDone a).settle := by
  obtain ⟨one, judged⟩ := judge_single cmd 0xA5
  exact exec_linkDone engine (by rw [one, buf]; exact Nat.le_refl 1) (by rw [buf, judged]; rfl)

theorem exec_identityRead (engine : s.engine a = .receive) (read : s.identityRead a) :
    exec (.replyGapExpiry a) s = .next (s.transactionDone a).settle := by
  obtain ⟨cmd, full, sum⟩ := read
  exact exec_linkDone engine (by rw [cmd, full]; exact Nat.le_refl 32) (by rw [cmd, judge, if_pos sum])

theorem transactionDone_noted (s : State) (a : Arm) (exec : (s.arm a).exec = some b) :
    (s.noteLink a none).modLink a Link.idled = s.setArm a ((s.arm a).linkDone b) := noteLink_idled s a exec none

theorem transactionDone_release (exec : (s.arm a).exec = some b) (phase : (s.arm a).phase = .changing .release h) :
    s.transactionDone a = (s.setArm a ((s.arm a).linkDone b)).unlocked a := by
  unfold State.transactionDone
  rw [phase, transactionDone_noted s a exec]

theorem transactionDone_engage (exec : (s.arm a).exec = some b) (phase : (s.arm a).phase = .changing .engage h) :
    s.transactionDone a = (s.setArm a ((s.arm a).linkDone b)).locked a := by
  unfold State.transactionDone
  rw [phase, transactionDone_noted s a exec]

theorem transactionDone_identify (exec : (s.arm a).exec = some b) (phase : (s.arm a).phase = .changing .identify h) :
    s.transactionDone a = (s.setArm a ((s.arm a).linkDone b)).changeIdentified a (s.arm a).link.buf := by
  unfold State.transactionDone
  rw [phase, transactionDone_noted s a exec]

theorem transactionDone_identifying (exec : (s.arm a).exec = some b) (phase : (s.arm a).phase = .identifying) :
    s.transactionDone a = (s.setArm a ((s.arm a).linkDone b)).identified a (s.arm a).link.buf := by
  unfold State.transactionDone
  rw [phase, transactionDone_noted s a exec]

end

/-! ## What a success makes due in a change (R143 to R145) -/

section
variable {s t u : State} {a : Arm} {b : Block} {r : ArmRec} {h : Half}

/-- What is due at an ACTIVE arm at rest is its only work, where the state was settled and only the tables have changed. -/
theorem settle_dueBeside {d : Due} (settled : s.settled = true) (tables : u.arms = s.arms)
    (pending : u.corr.swapPending = s.corr.swapPending) (executes : r.exec.isSome = true) (active : r.state = .active)
    (before : s.executing a = true) (rest : r.moving = false) (level : r.holdLevel = false) (now : d ≠ .nextLeg)
    (phase : r.phase ≠ .waitSwap) (work : (u.setArm a { r with due := none }).beginDue a d = t) (done : t.settled = true) :
    (u.setArm a { r with due := some d }).settle = t := by
  have quiet : u.quietBut a := (settled_iff_quietBut.1 ((settled_congr (t := u) tables pending).trans settled)).1
  have same : u.executing a = true := by
    rw [← before]
    unfold State.executing State.arm
    rw [tables]
  refine settle_due (a := a) (d := d) (quietBut_setArm quiet ?_ fun waits => phase waits.2) ?_ ?_ ?_ ?_ now ?_ done
  · rw [same]
    simp [executes, phase]
  · rw [State.arm_setArm_same]
    exact active
  · rw [State.arm_setArm_same]
    exact rest
  · rw [State.arm_setArm_same]
    exact level
  · rw [State.arm_setArm_same]
  · rw [beginDue_setArm]
    exact work

/-- A settled state stays so beside a change of the tables and of an arm that executes as before. -/
theorem settled_beside (settled : s.settled = true) (tables : u.arms = s.arms)
    (pending : u.corr.swapPending = s.corr.swapPending) (executes : r.exec.isSome = true) (before : s.executing a = true)
    (phase : r.phase ≠ .waitSwap) (still : r.still) : (u.setArm a r).settled = true := by
  have quiet : u.quietBut a := (settled_iff_quietBut.1 ((settled_congr (t := u) tables pending).trans settled)).1
  have same : u.executing a = true := by
    rw [← before]
    unfold State.executing State.arm
    rw [tables]
  refine settled_iff_quietBut.2 ⟨quietBut_setArm quiet ?_ fun waits => phase waits.2, ?_⟩
  · rw [same]
    simp [executes, phase]
  · rw [State.arm_setArm_same]
    exact still

/-- UNLOCK with the module still seated: the wait for SEAT high (R143). -/
theorem unlocked_seated (low : r.seatLow = true) : (s.setArm a r).unlocked a =
    s.setArm a { r with seatWait := .high (s.armSet a).seatTimeout } := by
  unfold State.unlocked
  rw [State.arm_setArm_same, if_pos low, modArm_setArm]
  rfl

/-- LOCK: the fetch is made and READ_ID begins (R144). -/
theorem settle_locked {q : Fin 24} {p : Fin 12} (settled : s.settled = true) (before : s.executing a = true)
    (exec : r.exec = some b) (passed : b.passed = true) (kind : b.slot.kind = some .changeProbe)
    (target : b.change.target = some q) (port : b.change.fetchPort = some p) (active : r.state = .active)
    (rest : r.moving = false) (due : r.due = none) (level : r.holdLevel = false) :
    ((s.setArm a r).locked a).settle = State.setArm { s with tables := {
        probes := s.tables.probes.set q { s.tables.probes[q] with loc := .unknown, lastPort := some p }
        ports := s.tables.ports.set p { s.tables.ports[p] with state := .empty } } } a { r with
      mounted := .unverified
      phase := .changing .identify .fetch
      link := { r.link with engine := .wake, cmd := .readId, attempt := 1, firstKind := none, buf := [] } } := by
  let u : State := { s with tables := {
    probes := s.tables.probes.set q { s.tables.probes[q] with loc := .unknown, lastPort := some p }
    ports := s.tables.ports.set p { s.tables.ports[p] with state := .empty } } }
  let r2 : ArmRec := { r with mounted := .unverified, phase := .changing .identify .fetch }
  let r3 : ArmRec := { r2 with
    link := { r.link with engine := .wake, cmd := .readId, attempt := 1, firstKind := none, buf := [] } }
  have made : (s.setArm a r).locked a = u.setArm a { r2 with due := some (.transaction .readId) } := by
    unfold State.locked
    rw [changeOf_of (by rw [State.arm_setArm_same]; exact exec) passed kind]
    simp only [target, port]
    show (((u.setArm a r).setMounted a .unverified).setPhase a _).setDue a _ = _
    rw [State.setMounted, modArm_setArm, setPhase_setArm, setDue_setArm]
  rw [made]
  refine settle_dueBeside (u := u) (r := r2) settled rfl rfl (by rw [show r2.exec = some b from exec]; rfl) active before rest
    level nofun nofun ?_ (settled_beside (u := u) (r := r3) settled rfl rfl (by rw [show r3.exec = some b from exec]; rfl) before nofun
      (calm_of_resting (r := r3) (.inl due) level nofun).1)
  rw [show ({ r2 with due := none } : ArmRec) = r2 by simp only [r2, ← due], beginDue_lock (r := r2) due]

/-- The way out of the port after READ_ID, over tables that have changed (R145). -/
theorem settle_portRetract (settled : s.settled = true) (arms : u.arms = s.arms)
    (pending : u.corr.swapPending = s.corr.swapPending) (settings : u.settings = s.settings) (before : s.executing a = true)
    (exec : r.exec = some b) (active : r.state = .active) (rest : r.moving = false) (due : r.due = none)
    (level : r.holdLevel = false)
    (long : (s.segTo a r.cmd (b.target (b.approachIndex .fetch)) (b.slot.nat 6)).len ≠ 0) :
    (((u.setArm a r).setPhase a (.changing .portRetract .fetch)).setDue a (.change .portRetract .fetch)).settle =
      u.setArm a { r with
        phase := .changing .portRetract .fetch
        seg := s.segTo a r.cmd (b.target (b.approachIndex .fetch)) (b.slot.nat 6)
        moving := true } := by
  let r2 : ArmRec := { r with phase := .changing .portRetract .fetch }
  have seg : u.segTo a r.cmd (b.target (b.approachIndex .fetch)) (b.slot.nat 6) =
      s.segTo a r.cmd (b.target (b.approachIndex .fetch)) (b.slot.nat 6) := by
    simp only [State.segTo, State.feedOf, State.armSet, settings]
  rw [setPhase_setArm, setDue_setArm]
  refine settle_dueBeside (u := u) (r := r2) settled arms pending (by rw [show r2.exec = some b from exec]; rfl) active before rest
    level nofun nofun ?_ (settled_beside (u := u) settled arms pending (by rw [show r.exec = some b from exec]; rfl) before nofun
      (still_of_moving rfl (by simp [due])))
  rw [show ({ r2 with due := none } : ArmRec) = r2 by simp only [r2, ← due], beginDue_change (r := r2) due,
    beginChange_portRetract (r := r2) exec _ (by rw [seg]; exact long), seg]

end

section
variable {s : State} {a : Arm} {b : Block} {r : ArmRec} {q : Fin 24} {bytes : List Byte}

theorem matched_setArm (s : State) (a : Arm) (r : ArmRec) (bytes : List Byte) : (s.setArm a r).matched bytes = s.matched bytes := rfl

theorem verify_setArm (s : State) (a : Arm) (r : ArmRec) (q : Fin 24) : (s.setArm a r).verify a q =
    State.setArm { s with tables := { s.tables with
      probes := s.tables.probes.set q { s.tables.probes[q] with loc := .mounted a } } } a { r with mounted := .probe q } := by
  show (State.setArm { s with tables := s.tables.setLoc q (.mounted a) } a r).setMounted a _ = _
  rw [State.setMounted, modArm_setArm]
  rfl

/-- READ_ID in a change that names P: the verification (R145). -/
theorem changeIdentified_verified (exec : r.exec = some b) (passed : b.passed = true) (kind : b.slot.kind = some .changeProbe)
    (target : b.change.target = some q) (found : s.matched bytes = some q) : (s.setArm a r).changeIdentified a bytes =
      ((State.setArm { s with tables := { s.tables with
          probes := s.tables.probes.set q { s.tables.probes[q] with loc := .mounted a } } } a { r with
        exec := some { b with change := { b.change with serial := identSerial bytes, kindRead := byteAt bytes 1 } }
        mounted := .probe q }).setPhase a (.changing .portRetract .fetch)).setDue a (.change .portRetract .fetch) := by
  unfold State.changeIdentified
  dsimp only
  rw [changeOf_of (by rw [State.arm_setArm_same]; exact exec) passed kind, matched_setArm, found]
  dsimp only
  rw [if_pos target, modExec_setArm, exec, Option.map_some, verify_setArm]

/-- READ_ID in a change that does not name P: the reconciliation, ID_MISMATCH to follow (R145, R146). -/
theorem changeIdentified_mismatch (exec : r.exec = some b) (passed : b.passed = true) (kind : b.slot.kind = some .changeProbe)
    (other : ∀ q, b.change.target = some q → s.matched bytes ≠ some q) : (s.setArm a r).changeIdentified a bytes =
      (((s.setArm a { r with exec := some { b with change := { b.change with
          serial := identSerial bytes, kindRead := byteAt bytes 1, fault := some .idMismatch } } }).reconcileArms a
        (s.matched bytes)).setPhase a (.changing .portRetract .fetch)).setDue a (.change .portRetract .fetch) := by
  have recorded (n k : Nat) : (((s.setArm a r).modExec a fun b => { b with change := { b.change with
      serial := n, kindRead := k } }).modExec a fun b => { b with change := { b.change with fault := some .idMismatch } }) =
      s.setArm a { r with exec := some { b with change := { b.change with
        serial := n, kindRead := k, fault := some .idMismatch } } } := by
    rw [modExec_setArm, modExec_setArm, exec]
    rfl
  unfold State.changeIdentified
  dsimp only
  rw [changeOf_of (by rw [State.arm_setArm_same]; exact exec) passed kind, matched_setArm, recorded]
  split
  next g i own found =>
    cases own
    rw [if_neg fun target => other i target found, found]
  next => rfl

theorem identified_eq (exec : r.exec = some b) : (s.setArm a r).identified a bytes =
    ((s.setArm a { r with exec := some { b with ident := ⟨bytes, s.matched bytes⟩ } }).reconcileArms a
      (s.matched bytes)).completeDone a .ok := by
  unfold State.identified
  dsimp only
  rw [modExec_setArm, exec]
  rfl

end

/-! ## Reconciliation (R138) -/

/-- The tables after the previous place of a record has been released (R138, step 1). -/
def Tables.released (t : Tables) (q : Fin 24) : Tables :=
  match t.probes[q].loc with
  | .inPort p => t.setPortState p .unknown
  | _ => t

/-- The tables that the reconciliation of an arm with a mounted value leaves (R138). -/
def Tables.reconciled (t : Tables) (a : Arm) (m : Mounted) : Option (Fin 24) → Tables
  | some q => (if m = .probe q then t.released q else (t.released q).detached m).setLoc q (.mounted a)
  | none => t.detached m

theorem probes_released (t : Tables) (q x : Fin 24) : (t.released q).probes[x] = t.probes[x] := by
  unfold Tables.released
  split <;> rfl

theorem ports_released (t : Tables) (q : Fin 24) (p : Fin 12) : (t.released q).ports[p] =
    { t.ports[p] with state := if t.probes[q].loc = .inPort p then .unknown else t.ports[p].state } := by
  unfold Tables.released
  split
  next r loc =>
    rw [getElem_setPortState, loc]
    rcases eq_or_ne p r with rfl | ne
    · simp
    · simp [ne, ne.symm]
  next other => rw [if_neg (other p)]

theorem released_inPort {t : Tables} {q : Fin 24} {p : Fin 12} (loc : t.probes[q].loc = .inPort p) :
    t.released q = t.setPortState p .unknown := by
  unfold Tables.released
  rw [loc]

theorem released_elsewhere {t : Tables} {q : Fin 24} (elsewhere : ∀ p, t.probes[q].loc ≠ .inPort p) : t.released q = t := by
  unfold Tables.released
  split
  next p loc => exact absurd loc (elsewhere p)
  next => rfl

theorem ports_reconciled (t : Tables) (a : Arm) (m : Mounted) (q : Fin 24) (p : Fin 12) :
    (t.reconciled a m (some q)).ports[p] =
      { t.ports[p] with state := if t.probes[q].loc = .inPort p then .unknown else t.ports[p].state } := by
  have kept : (t.reconciled a m (some q)).ports = (t.released q).ports := by
    unfold Tables.reconciled
    dsimp only
    split
    · rfl
    · exact ports_detached (t.released q) m
  rw [← ports_released, kept]

theorem probes_reconciled (t : Tables) (a : Arm) (m : Mounted) (q x : Fin 24) :
    (t.reconciled a m (some q)).probes[x] = { t.probes[x] with
      loc := if x = q then .mounted a else if m = .probe x then .unknown else t.probes[x].loc } := by
  unfold Tables.reconciled
  dsimp only
  rw [getElem_setLoc]
  by_cases own : m = .probe q
  · rw [if_pos own, probes_released]
    rcases eq_or_ne x q with rfl | ne
    · simp
    · rw [if_neg ne, if_neg ne, if_neg fun e => ne (Mounted.probe.inj (e.symm.trans own))]
  · rw [if_neg own, probes_detached, probes_released]

/-- The mounted value of an arm by what its READ_ID has found (R138). -/
def Mounted.found : Option (Fin 24) → Mounted
  | some q => .probe q
  | .none => .foreign

/-- The mounted value of the other arm after an arm's reconciliation (R138, step 1). -/
def State.besideMounted (s : State) (a : Arm) : Option (Fin 24) → Mounted
  | some q => if s.tables.probes[q].loc = .mounted a.other then .unverified else (s.arm a.other).mounted
  | none => (s.arm a.other).mounted

section
variable {s : State} {a : Arm} {q : Fin 24} {f : Option (Fin 24)}

theorem releasePlace_eq (s : State) (a : Arm) (q : Fin 24) : s.releasePlace a q =
    State.setArm { s with tables := s.tables.released q } a.other
      { s.arm a.other with mounted := s.besideMounted a (some q) } := by
  have beside (other : s.tables.probes[q].loc ≠ .mounted a.other) (u : State) (same : u.arm a.other = s.arm a.other) :
      u = u.setArm a.other { s.arm a.other with mounted := s.besideMounted a (some q) } := by
    rw [show s.besideMounted a (some q) = _ from if_neg other]
    show u = u.setArm a.other (s.arm a.other)
    rw [← same, State.setArm_arm]
  unfold State.releasePlace
  split
  next p loc =>
    rw [released_inPort loc]
    exact beside (by rw [loc]; nofun) { s with tables := s.tables.setPortState p .unknown } rfl
  next o loc =>
    rw [released_elsewhere (by rw [loc]; nofun)]
    rcases a.eq_or_other o with own | own
    · rw [if_pos own]
      exact beside (by rw [loc, own]; exact fun e => a.ne_other (Location.mounted.inj e)) s rfl
    · rw [if_neg (by rw [own]; exact a.other_ne), show s.besideMounted a (some q) = _ from if_pos (by rw [loc, own]), own]
      rfl
  next port other =>
    rw [released_elsewhere port]
    exact beside (other _) s rfl

theorem reconciled_some (s : State) (a : Arm) (q : Fin 24) : s.reconciled a (some q) =
    (State.setArm { s with tables := s.tables.reconciled a (s.arm a).mounted (some q) } a.other
      { s.arm a.other with mounted := s.besideMounted a (some q) }).setArm a { s.arm a with mounted := .probe q } := by
  let r : ArmRec := { s.arm a.other with mounted := s.besideMounted a (some q) }
  have given (t : Tables) (w : State) (ww : w = State.setArm { s with tables := t } a.other r) :
      State.setMounted { w with tables := w.tables.setLoc q (.mounted a) } a (.probe q) =
        (State.setArm { s with tables := t.setLoc q (.mounted a) } a.other r).setArm a { s.arm a with mounted := .probe q } := by
    rw [ww]
    show State.setMounted (State.setArm { s with tables := t.setLoc q (.mounted a) } a.other r) a _ = _
    rw [State.setMounted, modArm_eq_setArm, State.arm_other_setArm]
    rfl
  have own : (s.releasePlace a q).arm a = s.arm a := by
    rw [releasePlace_eq, State.arm_other_setArm]
    rfl
  unfold State.reconciled Tables.reconciled
  dsimp only
  by_cases same : (s.arm a).mounted = .probe q
  · rw [if_pos same, if_pos same]
    exact given _ _ (releasePlace_eq s a q)
  · rw [if_neg same, if_neg same]
    refine given _ _ ?_
    have place := releasePlace_eq s a q
    unfold State.detach Tables.detached
    rw [own, place]
    cases (s.arm a).mounted <;> rfl

/-- Reconciliation, but for the notice that it sets (R138). -/
theorem reconciled_eq (s : State) (a : Arm) (f : Option (Fin 24)) : s.reconciled a f =
    (State.setArm { s with tables := s.tables.reconciled a (s.arm a).mounted f } a.other
      { s.arm a.other with mounted := s.besideMounted a f }).setArm a { s.arm a with mounted := .found f } := by
  cases f with
  | some q => exact reconciled_some s a q
  | none =>
    have given : s.detach a = { s with tables := s.tables.detached (s.arm a).mounted } := by
      unfold State.detach Tables.detached
      cases (s.arm a).mounted <;> rfl
    have kept := State.setArm_arm { s with tables := s.tables.detached (s.arm a).mounted } a.other
    rw [State.reconciled, given]
    exact congrArg (fun w : State => w.setArm a { s.arm a with mounted := .foreign }) kept.symm

/-- A reconciliation is its change of the tables and of the two arms, with a notice (R138). -/
theorem reconcile_eq (s : State) (a : Arm) (f : Option (Fin 24)) : ∃ unit due, s.reconcile a f =
    (State.setArm { s with
        tables := s.tables.reconciled a (s.arm a).mounted f, unit := unit, refreshDue := due } a.other
      { s.arm a.other with mounted := s.besideMounted a f }).setArm a { s.arm a with mounted := .found f } := by
  unfold State.reconcile State.noteProbeChange
  rw [reconciled_eq]
  split
  · exact ⟨_, _, rfl⟩
  · exact ⟨_, _, rfl⟩

/-- A change of its mounted value does not concern an arm without a block (R112, R151). -/
theorem meetMountChange_idle {before : State} (exec : (s.arm a).exec = none) : State.meetMountChange before s a = s := by
  have idle (k : Kind) : s.runsBlock a k = false := by
    unfold State.runsBlock
    rw [exec]
    cases (s.arm a).state <;> rfl
  unfold State.meetMountChange
  simp [idle]

theorem reconcileArms_idle (exec : (s.arm a.other).exec = none) : s.reconcileArms a f = s.reconcile a f := by
  obtain ⟨unit, due, e⟩ := reconcile_eq s a f
  refine meetMountChange_idle ?_
  rw [e, State.arm_setArm_other, State.arm_setArm_same]
  exact exec

end

end Sys2Proof.Machine
end


section
/-! PROOF. What a READ_ID finds on an arm, and what the other arm makes of it (O55). -/

namespace Sys2Proof.Machine

section
variable {s w t : State} {a : Arm} {b : Block} {f : Option (Fin 24)} {r : ArmRec}

/-- An arm has been reconciled with what its READ_ID found: the tables and both mounted values (R138). -/
structure State.MountFound (s t : State) (a : Arm) (f : Option (Fin 24)) : Prop where
  own : (t.arm a).mounted = .found f
  other : t.arm a.other = { s.arm a.other with mounted := s.besideMounted a f }
  tables : t.tables = s.tables.reconciled a (s.arm a).mounted f

theorem segTo_setArm (s : State) (a c : Arm) (r : ArmRec) (v stop : Vec) (feed : Nat) :
    (s.setArm c r).segTo a v stop feed = s.segTo a v stop feed := rfl

/-- The goals of a change do not depend on what its READ_ID reads. -/
theorem target_read (b : Block) (l : LinkInfo) (n k : Nat) (f : Option FaultCode) (h : Half) :
    let d : Block := { b with link := l, change := { b.change with serial := n, kindRead := k, fault := f } }
    d.target (d.approachIndex h) = b.target (b.approachIndex h) := rfl

theorem setArm_under (u : State) (a : Arm) (r x y : ArmRec) :
    ((u.setArm a r).setArm a.other x).setArm a y = (u.setArm a.other x).setArm a y := by cases a <;> rfl

@[simp] theorem tables_completeDone (s : State) (a : Arm) (x : Status) : (s.completeDone a x).tables = s.tables := by
  rw [State.completeDone, afterDone_eq, tables_fill, State.modArm_tables, tables_releaseTest, State.ended, State.modArm_tables,
    tables_writeExec]

theorem noted_completeDone_lane (exec : (s.arm a).exec ≠ none) (x : Status) : (s.completeDone a x).noted (laneNotice a) := by
  obtain ⟨b, exec⟩ := Option.ne_none_iff_exists'.1 exec
  refine noted_afterDone ?_ a
  rw [writeExec_some exec]
  exact (noted_disarmBlock a).2 (noted_writeBlock_lane s a b _ _ _ _)

/-- The identification begins with the arm's record noted, which a reconciliation does not look at but for its mounted value. -/
theorem reconcile_noted (mounted : r.mounted = (s.arm a).mounted) : ∃ unit due, (s.setArm a r).reconcile a f =
    (State.setArm { s with
        tables := s.tables.reconciled a (s.arm a).mounted f, unit := unit, refreshDue := due } a.other
      { s.arm a.other with mounted := s.besideMounted a f }).setArm a { r with mounted := .found f } := by
  obtain ⟨unit, due, e⟩ := reconcile_eq (s.setArm a r) a f
  have beside : (s.setArm a r).besideMounted a f = s.besideMounted a f := by
    cases f with
    | none => exact congrArg ArmRec.mounted (State.arm_setArm_other s a r)
    | some q =>
      unfold State.besideMounted
      rw [State.arm_setArm_other]
      rfl
  refine ⟨unit, due, e.trans ?_⟩
  rw [beside, State.arm_setArm_same, State.arm_setArm_other, mounted]
  exact setArm_under { s with tables := s.tables.reconciled a (s.arm a).mounted f, unit := unit, refreshDue := due } ..

/-- The record of an arm whose READ_ID in IDENTIFY has succeeded, before its reconciliation (R137). -/
def ArmRec.identNoted (r : ArmRec) (b : Block) (f : Option (Fin 24)) : ArmRec :=
  { r.linkDone b with
    exec := some { b with
      link := ⟨r.link.period, r.link.attempt - 1, r.link.firstKind, none⟩, ident := ⟨r.link.buf, f⟩ } }

/-- The state at the completion of an IDENTIFY, before what the other arm makes of it (R137, R138). -/
def State.identRead (s : State) (a : Arm) (b : Block) (f : Option (Fin 24)) : State :=
  (s.setArm a ((s.arm a).identNoted b f)).reconcile a f

theorem arm_identRead_same (s : State) (a : Arm) (b : Block) (f : Option (Fin 24)) : (s.identRead a b f).arm a =
    { (s.arm a).identNoted b f with mounted := .found f } := by
  obtain ⟨unit, due, e⟩ := reconcile_noted (s := s) (a := a) (r := (s.arm a).identNoted b f) (f := f) rfl
  rw [State.identRead, e, State.arm_setArm_same]

theorem arm_identRead_other (s : State) (a : Arm) (b : Block) (f : Option (Fin 24)) : (s.identRead a b f).arm a.other =
    { s.arm a.other with mounted := s.besideMounted a f } := by
  obtain ⟨unit, due, e⟩ := reconcile_noted (s := s) (a := a) (r := (s.arm a).identNoted b f) (f := f) rfl
  rw [State.identRead, e, State.arm_setArm_other, State.arm_setArm_same]

theorem tables_identRead (s : State) (a : Arm) (b : Block) (f : Option (Fin 24)) :
    (s.identRead a b f).tables = s.tables.reconciled a (s.arm a).mounted f := by
  obtain ⟨unit, due, e⟩ := reconcile_noted (s := s) (a := a) (r := (s.arm a).identNoted b f) (f := f) rfl
  rw [State.identRead, e]
  rfl

/-- A reconciliation leaves memory, lanes, zone, coefficients and latches (R138). -/
theorem identRead_keeps (s : State) (a : Arm) (b : Block) (f : Option (Fin 24)) : (s.identRead a b f).shm = s.shm ∧
    (s.identRead a b f).lanes = s.lanes ∧ (s.identRead a b f).zone = s.zone ∧ (s.identRead a b f).corr = s.corr ∧
      (s.identRead a b f).latches = s.latches := by
  obtain ⟨unit, due, e⟩ := reconcile_noted (s := s) (a := a) (r := (s.arm a).identNoted b f) (f := f) rfl
  rw [State.identRead, e]
  exact ⟨rfl, rfl, rfl, rfl, rfl⟩

theorem calm_identRead (calm : s.calm = true) (b : Block) (f : Option (Fin 24)) : (s.identRead a b f).calm = true := by
  obtain ⟨-, -, -, corr, -⟩ := identRead_keeps s a b f
  refine calm_of_arms (a := a) (by rw [corr]; exact swapPending_of_calm (s := s) calm) ?_ ?_
  · rw [arm_identRead_same]
    exact (armCalm_of_calm calm a : (s.arm a).calm)
  · rw [arm_identRead_other]
    exact (armCalm_of_calm calm a.other : (s.arm a.other).calm)

theorem unasked_identRead (s : State) (a c : Arm) (b : Block) (f : Option (Fin 24)) :
    (s.identRead a b f).unasked c = s.unasked c := by
  obtain ⟨-, -, zone, -⟩ := identRead_keeps s a b f
  exact unasked_of_sameZone (sameZone_of_eq zone)

/-- The end of a READ_ID in IDENTIFY, before what the other arm makes of it (R137). -/
theorem exec_identifying (engine : s.engine a = .receive) (read : s.identityRead a) (exec : (s.arm a).exec = some b)
    (phase : (s.arm a).phase = .identifying) (found : s.matched (s.arm a).link.buf = f) :
    Machine.exec (.replyGapExpiry a) s = .next ((State.meetMountChange (s.setArm a ((s.arm a).identNoted b f))
      (s.identRead a b f) a.other).completeDone a .ok).settle := by
  rw [exec_identityRead engine read, transactionDone_identifying exec phase,
    identified_eq (b := { b with
      link := ⟨(s.arm a).link.period, (s.arm a).link.attempt - 1, (s.arm a).link.firstKind, none⟩ }) rfl, found]
  rfl

/-- The completion of the arm whose IDENTIFY has found something, the other arm without a block (R137, R138). -/
theorem exec_identified (calm : s.calm = true) (engine : s.engine a = .receive) (read : s.identityRead a)
    (exec : (s.arm a).exec = some b) (alone : (s.arm a.other).exec = none) (phase : (s.arm a).phase = .identifying)
    (unasked : s.unasked a = true) (wf : s.shm.wf = true) (fits : (s.lanes.get a).slotBase b.slot.index + 32 ≤ 65536) :
    ∃ t, Machine.exec (.replyGapExpiry a) s = .next t ∧ s.MountFound t a (s.matched (s.arm a).link.buf) ∧
      (t.arm a).exec = none ∧ (t.arm a).state = (s.arm a).between ∧ (t.arm a).link.engine = .idle ∧ t.noted (laneNotice a) ∧
      t.shm.get ((s.lanes.get a).slotBase b.slot.index + 2) = natWord (1 + b.flags.bits) := by
  let v : State := s.identRead a b (s.matched (s.arm a).link.buf)
  have own : v.arm a = _ := arm_identRead_same ..
  have other : v.arm a.other = _ := arm_identRead_other ..
  obtain ⟨shm, lanes, -, -, -⟩ := identRead_keeps s a b (s.matched (s.arm a).link.buf)
  have calmV : v.calm = true := calm_identRead calm ..
  have unaskedV : v.unasked a = true := (unasked_identRead ..).trans unasked
  have step : Machine.exec (.replyGapExpiry a) s = .next (v.completeDone a .ok) := by
    rw [exec_identifying engine read exec phase rfl, meetMountChange_idle (by rw [other]; exact alone)]
    exact congrArg Host.Outcome.next (settle_completeDone calmV unaskedV .ok)
  have ownExec : (v.arm a).exec = some { b with
      link := ⟨(s.arm a).link.period, (s.arm a).link.attempt - 1, (s.arm a).link.firstKind, none⟩
      ident := ⟨(s.arm a).link.buf, s.matched (s.arm a).link.buf⟩ } := by
    rw [own]
    rfl
  have told := slotSays_completeDone ownExec (by rw [shm]; exact wf) (by rw [lanes]; exact fits) .ok
  have base : ((v.completeDone a .ok).lanes.get a).base = (s.lanes.get a).base := by
    rw [base_of_core (core_completeDone v a .ok), lanes]
  have after := arm_completeDone_same v a .ok
  refine ⟨_, step, ⟨?_, ?_, ?_⟩, ?_, ?_, ?_, ?_, ?_⟩
  · rw [after, own]
    rfl
  · rw [(calm_completeDone calmV unaskedV .ok).2, other]
  · rw [tables_completeDone, tables_identRead]
  · rw [after]
    rfl
  · rw [after, own]
    rfl
  · rw [after, own]
    rfl
  · exact noted_completeDone_lane (by rw [ownExec]; nofun) .ok
  · obtain ⟨-, info, -⟩ := told
    rw [LaneRec.slotBase, base] at info
    exact info

/-- READ_ID in a change that names P: the verification, and the way out of the port (R145). -/
theorem exec_verified {h : Half} {q : Fin 24} (settled : s.settled = true) (engine : s.engine a = .receive)
    (read : s.identityRead a) (exec : (s.arm a).exec = some b) (phase : (s.arm a).phase = .changing .identify h)
    (passed : b.passed = true) (kind : b.slot.kind = some .changeProbe) (active : (s.arm a).state = .active)
    (rest : (s.arm a).moving = false) (due : (s.arm a).due = none) (level : (s.arm a).holdLevel = false)
    (target : b.change.target = some q) (found : s.matched (s.arm a).link.buf = some q)
    (long : (s.segTo a (s.arm a).cmd (b.target (b.approachIndex .fetch)) (b.slot.nat 6)).len ≠ 0) :
    Machine.exec (.replyGapExpiry a) s = .next (State.setArm { s with tables := { s.tables with
        probes := s.tables.probes.set q { s.tables.probes[q] with loc := .mounted a } } } a { (s.arm a).linkDone b with
      exec := some { b with
        link := ⟨(s.arm a).link.period, (s.arm a).link.attempt - 1, (s.arm a).link.firstKind, none⟩
        change := { b.change with
          serial := identSerial (s.arm a).link.buf, kindRead := byteAt (s.arm a).link.buf 1 } }
      mounted := .probe q
      phase := .changing .portRetract .fetch
      seg := s.segTo a (s.arm a).cmd (b.target (b.approachIndex .fetch)) (b.slot.nat 6)
      moving := true }) := by
  let d : Block := { b with
    link := ⟨(s.arm a).link.period, (s.arm a).link.attempt - 1, (s.arm a).link.firstKind, none⟩
    change := { b.change with serial := identSerial (s.arm a).link.buf, kindRead := byteAt (s.arm a).link.buf 1 } }
  let u : State := { s with tables := { s.tables with
    probes := s.tables.probes.set q { s.tables.probes[q] with loc := .mounted a } } }
  let r : ArmRec := { (s.arm a).linkDone b with exec := some d, mounted := .probe q }
  have before : s.executing a = true := by
    unfold State.executing
    rw [exec, phase]
    rfl
  have goal : d.target (d.approachIndex .fetch) = b.target (b.approachIndex .fetch) := target_read ..
  have retract := settle_portRetract (s := s) (u := u) (r := r) (b := d) settled rfl rfl rfl before rfl active rest due level
    (by rw [goal]; exact long)
  rw [goal] at retract
  rw [exec_identityRead engine read, transactionDone_identify exec phase, changeIdentified_verified (b := { b with
    link := ⟨(s.arm a).link.period, (s.arm a).link.attempt - 1, (s.arm a).link.firstKind, none⟩ }) rfl passed kind target found]
  exact congrArg Host.Outcome.next retract

/-- READ_ID in a change that does not name P: the reconciliation, and the way out of the port (R145, R146). -/
theorem exec_mismatch {h : Half} (settled : s.settled = true) (engine : s.engine a = .receive) (read : s.identityRead a)
    (exec : (s.arm a).exec = some b) (alone : (s.arm a.other).exec = none) (phase : (s.arm a).phase = .changing .identify h)
    (passed : b.passed = true) (kind : b.slot.kind = some .changeProbe) (active : (s.arm a).state = .active)
    (rest : (s.arm a).moving = false) (due : (s.arm a).due = none) (level : (s.arm a).holdLevel = false)
    (unnamed : ∀ q, b.change.target = some q → ¬ s.names a q)
    (long : (s.segTo a (s.arm a).cmd (b.target (b.approachIndex .fetch)) (b.slot.nat 6)).len ≠ 0) :
    ∃ t, Machine.exec (.replyGapExpiry a) s = .next t ∧ s.MountFound t a (s.matched (s.arm a).link.buf) ∧
      (t.arm a).phase = .changing .portRetract .fetch ∧ (t.arm a).moving = true ∧ (t.arm a).cmd = (s.arm a).cmd ∧
      (t.arm a).exec.map (fun d => d.change.fault) = some (some .idMismatch) := by
  let f : Option (Fin 24) := s.matched (s.arm a).link.buf
  let b' : Block := { b with
    link := ⟨(s.arm a).link.period, (s.arm a).link.attempt - 1, (s.arm a).link.firstKind, none⟩
    change := { b.change with
      serial := identSerial (s.arm a).link.buf, kindRead := byteAt (s.arm a).link.buf 1, fault := some .idMismatch } }
  let r : ArmRec := { (s.arm a).linkDone b with exec := some b' }
  obtain ⟨unit, refresh, e⟩ := reconcile_noted (s := s) (a := a) (r := r) (f := f) rfl
  let x : ArmRec := { s.arm a.other with mounted := s.besideMounted a f }
  let u : State := State.setArm { s with
    tables := s.tables.reconciled a (s.arm a).mounted f, unit := unit, refreshDue := refresh } a.other x
  let r2 : ArmRec := { r with mounted := .found f }
  have settledX : (s.setArm a.other x).settled = true := by
    refine settled_setArm (r := x) settled rfl rfl rfl (still_of_settled settled a.other)
  have before : (s.setArm a.other x).executing a = true := by
    unfold State.executing
    rw [State.arm_other_setArm, exec, phase]
    rfl
  have beside : ((s.setArm a r).arm a.other).exec = none := by
    rw [State.arm_setArm_other]
    exact alone
  have made : s.transactionDone a =
      ((u.setArm a r2).setPhase a (.changing .portRetract .fetch)).setDue a (.change .portRetract .fetch) := by
    rw [transactionDone_identify exec phase, changeIdentified_mismatch (b := { b with
      link := ⟨(s.arm a).link.period, (s.arm a).link.attempt - 1, (s.arm a).link.firstKind, none⟩ }) rfl passed kind
      fun q target found => unnamed q target (names_of_matched found)]
    show ((((s.setArm a r).reconcileArms a f).setPhase a _).setDue a _) = _
    rw [reconcileArms_idle beside, e]
  have goal : b'.target (b'.approachIndex .fetch) = b.target (b.approachIndex .fetch) := target_read ..
  have step := settle_portRetract (s := s.setArm a.other x) (u := u) (r := r2) (b := b') settledX rfl rfl rfl before rfl active rest
    due level (by rw [segTo_setArm, goal]; exact long)
  refine ⟨_, (exec_identityRead engine read).trans (congrArg Host.Outcome.next ((congrArg State.settle made).trans step)),
    ⟨?_, ?_, rfl⟩, ?_, ?_, ?_, ?_⟩
  · rw [State.arm_setArm_same]
  · rw [State.arm_setArm_other, State.arm_setArm_same]
  all_goals rw [State.arm_setArm_same]
  · rfl
  · rfl

end

/-! ## The other arm, whose mount the reconciliation has changed (R112, R151) -/

section
variable {s w : State} {a : Arm} {b d : Block} {q : Fin 24} {f : FaultCode}

theorem runsBlock_of {k : Kind} (state : (s.arm a).state = .active ∨ (s.arm a).state = .held) (exec : (s.arm a).exec = some b)
    (passed : b.passed = true) (kind : b.slot.kind = some k) : s.runsBlock a k = true := by
  unfold State.runsBlock
  rcases state with e | e <;> simp [e, exec, passed, kind]

/-- A touch block of an arm whose mounted value has changed stops with MOUNT_UNKNOWN (R112). -/
theorem meetMountChange_touch {before : State} (touches : s.runsBlock a .probePoint = true ∨ s.runsBlock a .qualify = true)
    (changed : (before.arm a).mounted ≠ (s.arm a).mounted) : State.meetMountChange before s a = s.blockFault a .mountUnknown := by
  unfold State.meetMountChange
  refine if_pos ?_
  rcases touches with e | e <;> simp [e, changed]

/-- A change of an arm that a change of the tables concerns stops with MOUNT_UNKNOWN (R151). -/
theorem meetMountChange_change {before : State} (runs : s.runsBlock a .changeProbe = true)
    (concerned : State.changeConcerned before s a = true) : State.meetMountChange before s a = s.blockFault a .mountUnknown := by
  unfold State.meetMountChange
  exact if_pos (by simp [runs, concerned])

theorem changeConcerned_of {before : State} (exec : (before.arm a).exec = some d) (passed : d.passed = true)
    (kind : d.slot.kind = some .changeProbe)
    (moved : (before.arm a).mounted ≠ (s.arm a).mounted ∨
      (before.tables.probes[q].loc ≠ s.tables.probes[q].loc ∧ (d.change.target = some q ∨ d.change.stowed = some q)) ∨
        ∃ p : Fin 12, before.tables.ports[p].state ≠ s.tables.ports[p].state ∧
          (d.change.fetchPort = some p ∨ d.change.stowPort = some p)) : State.changeConcerned before s a = true := by
  unfold State.changeConcerned
  rw [changeOf_of exec passed kind]
  rcases moved with mounted | ⟨loc, e | e⟩ | ⟨p, port, e | e⟩
  · simp [mounted]
  all_goals
    simp only [e, Bool.or_eq_true, bne_iff_ne, ne_eq]
    tauto

theorem calm_blockFault (calm : s.calm = true) (unasked : s.unasked a = true) (f : FaultCode) :
    (s.blockFault a f).calm = true := by
  have releases := releases_blockFault f (sameZone_of_eq (s := s) (a := a) rfl) rfl (armCalm_of_calm calm _)
    (swapPending_of_calm calm) rfl
  refine calm_of_arms releases.pending releases.own ?_
  rw [arm_blockFault_other unasked]
  exact armCalm_of_calm calm _

/-- After a block-level fault its arm waits for no grant. -/
theorem unasked_blockFault (s : State) (a : Arm) (f : FaultCode) : (s.blockFault a.other f).unasked a = true := by
  unfold State.unasked
  rw [waits_blockFault]
  simp

theorem paused_blockFault (s : State) (a : Arm) (f : FaultCode) : ((s.blockFault a f).lanes.get a).paused = true := by
  rw [blockFault_eq, State.modArm_lanes, lanes_releaseTest, lanes_faulted, Duo.get_set_same]

theorem tables_blockFault_still (still : (s.arm a).changing = false) (f : FaultCode) :
    (s.blockFault a f).tables = s.tables := by
  have kept : ((s.zoneWithdraw a).modArm a ArmRec.quiet).settleChange a = (s.zoneWithdraw a).modArm a ArmRec.quiet :=
    settleChange_of_not (by rw [State.arm_modArm_same]; exact still)
  rw [blockFault_eq, State.modArm_tables, tables_releaseTest, State.faulted, tables_pauseLane, State.modArm_tables,
    tables_writeExec, kept, ite_self]
  rfl

theorem latches_blockFault (exec : (s.arm a).exec = some b) (f : FaultCode) :
    (s.blockFault a f).latches = mapTable (LatchUnit.disarmOfBlock a false) s.latches := by
  have written (u : State) (own : (u.arm a).exec = some b) (same : u.latches = s.latches) :
      (u.writeExec a slotFaulted .none (some f)).latches = mapTable (LatchUnit.disarmOfBlock a false) s.latches := by
    rw [writeExec_some own, ← same]
    rfl
  rw [blockFault_eq, State.modArm_latches, latches_releaseTest, State.faulted, latches_pauseLane, State.modArm_latches]
  split
  · refine written _ ?_ rfl
    rw [State.arm_modArm_same]
    exact exec
  · refine written _ ?_ (latches_settleChange ..)
    rw [arm_settleChange_same, State.arm_modArm_same]
    exact exec

theorem latches_completeDone (exec : (s.arm a).exec = some b) (x : Status) :
    (s.completeDone a x).latches = mapTable (LatchUnit.disarmOfBlock a false) s.latches := by
  rw [State.completeDone, afterDone_eq, latches_fill, State.modArm_latches, latches_releaseTest, State.ended,
    State.modArm_latches, writeExec_some exec]
  rfl

theorem lane_completeDone_other (s : State) (a : Arm) (x : Status) :
    (s.completeDone a x).lanes.get a.other = s.lanes.get a.other := by
  rw [State.completeDone, afterDone_eq, lane_fill_other, State.modArm_lanes, lanes_releaseTest, State.ended, State.modArm_lanes,
    lanes_writeExec]

/-- A unit that the other arm's block armed is disarmed as that arm's block ends, and not touched as this arm's ends. -/
theorem disarmOfBlock_beside {u : LatchUnit} {n : Nat} (alloc : u.alloc = some a.other) (armed : u.armedBy = .block n) :
    LatchUnit.disarmOfBlock a false (LatchUnit.disarmOfBlock a.other false u) = u.unarmed := by
  have first : LatchUnit.disarmOfBlock a.other false u = u.unarmed := by
    unfold LatchUnit.disarmOfBlock
    rw [armed]
    exact if_pos ⟨alloc, .inl rfl⟩
  rw [first]
  rfl

end

end Sys2Proof.Machine
end


section
/-! PROOF. How an attempt of the head link ends (O55). -/

namespace Sys2Proof.Machine

/-- Settles O55: each command at which an attempt ends is brought to the one step it makes, a failed attempt
(`attemptFailed_first`, `attemptFailed_identify`, `attemptFailed_changing`) or the success of its transaction
(`transactionDone_release` to `transactionDone_identifying`), and what is left to do after it is the segment or the transaction
that the success makes due. A reconciliation is `reconcile_eq`; the other arm meets it as the block-level fault of
`meetMountChange_touch` and `meetMountChange_change`. -/
theorem linkAttemptEnds : Obligations.LinkAttemptEnds := by
  refine ⟨fun s a c k fails => ?_, fun s a h b settled receives exec => ?_, fun s a b receives read exec alone => ?_,
    fun s a b d q calm receives identity names phase exec unasked unaskedO execO passed stateO => ?_⟩
  · intro code
    have code_eq : code = k.fault := by cases k <;> rfl
    obtain ⟨p', measured⟩ := measured_eq s a c
    have own : (s.measured a c).arm a = { s.arm a with link := { (s.arm a).link with period := p' } } := by
      rw [measured, State.arm_setArm_same]
    refine ⟨fun settled first => ?_, fun calm second b exec => ?_⟩
    · rw [exec_linkFails fails, attemptFailed_first (by rw [own]; exact first), settle_of_settled]
      refine settled_modLink ?_ a _
      rw [measured]
      exact settled_setArm settled rfl rfl rfl (still_of_settled settled a)
    · intro noted
      have noted_eq : (s.measured a c).setArm a (((s.measured a c).arm a).linkFailed b k) = noted := by
        rw [ArmRec.linkFailed, LinkKind.carried, ← code_eq]
        rfl
      have second' : ((s.measured a c).arm a).link.attempt = 2 := by rw [own]; exact second
      have exec' : ((s.measured a c).arm a).exec = some b := by rw [own]; exact exec
      have bare : noted = s.setArm a { (s.arm a) with
          link := { (s.arm a).link with period := p', engine := .idle }
          exec := some { b with link := ⟨p', 1, (s.arm a).link.firstKind, k.carried⟩ } } := by
        rw [← noted_eq, own, measured, State.setArm_setArm]
        rfl
      have calm' : noted.calm = true := by
        rw [bare]
        exact calm_setArm calm (show ArmRec.calm { s.arm a with .. } from armCalm_of_calm calm a)
      have blockly (unasked : s.unasked a = true) (f : FaultCode) : (noted.blockFault a f).settle = noted.blockFault a f :=
        settle_blockFault calm' (by rw [bare]; exact unasked) f
      refine ⟨fun phase unasked => ?_, fun p h phase resting => ⟨fun refused => ?_, fun other single wf fits => ?_⟩⟩
      · rw [exec_linkFails fails, attemptFailed_identify second' exec' (by rw [own]; exact phase), noted_eq, code_eq,
          blockly unasked]
      · obtain ⟨-, -, unasked⟩ := resting_of resting
        rw [exec_linkFails fails, attemptFailed_changing second' exec' (by rw [own]; exact phase), noted_eq,
          if_pos (by rw [refused]; rfl), blockly unasked]
      · obtain ⟨-, state, unasked⟩ := resting_of resting
        have step : Machine.exec c s = .next (noted.armFault a k.fault).settle := by
          rw [exec_linkFails fails, attemptFailed_changing second' exec' (by rw [own]; exact phase), noted_eq,
            if_neg (fault_ne_refused other)]
        have own : noted.arm a = { (s.arm a) with
            link := { (s.arm a).link with period := p', engine := .idle }
            exec := some { b with link := ⟨p', 1, (s.arm a).link.firstKind, k.carried⟩ } } := by
          rw [bare, State.arm_setArm_same]
        have rests : noted.armFault a k.fault = noted.faultEnd a k.fault := by
          refine armFault_rest ?_ ?_ ?_ _
          · rw [State.runsOn, own]
            simp [rest_of_resting resting]
          all_goals
            rw [own]
            rcases state with e | e <;> simp [e]
        obtain ⟨r, settle, handed, -⟩ := settle_faultEnd (s := s) (w := noted) (r := s.arm a.other) k.fault
          (sameZone_of_eq (by rw [bare]; rfl)) (by rw [bare, State.arm_setArm_other]) (armCalm_of_calm calm _)
          (by rw [bare]; exact swapPending_of_calm (s := s) calm) (by rw [bare]; rfl) (.inl unasked) ⟨_, rfl⟩
        obtain ⟨stays, -⟩ := handed unasked
        have told := slotSays_faultEnd (w := noted) (a := a) (f := k.fault)
          (b := { b with link := ⟨p', 1, (s.arm a).link.firstKind, k.carried⟩ }) (by rw [own]) (by rw [bare]; exact wf)
          (by rw [bare]; exact fits) (by rw [own]; exact single)
        have base : ((noted.faultEnd a k.fault).lanes.get a).base = (s.lanes.get a).base :=
          (base_of_core (core_faultEnd noted a _) a).trans (by rw [bare]; rfl)
        have after := arm_faultEnd noted a k.fault
        rw [own] at after
        rw [rests, settle] at step
        rw [settle] at stays
        refine ⟨_, step, ?_, ?_, ?_, ?_, paused_faultEnd .., ?_, stays, noted_faultEnd noted a _, ?_⟩
        · rw [State.arm_other_setArm, after]
        · rw [State.arm_other_setArm, after, code_eq]
        · rw [State.arm_other_setArm, after]
          rfl
        · rw [State.arm_other_setArm, after]
          rfl
        · rw [State.arm_other_setArm, after]
          rfl
        · obtain ⟨-, info, -⟩ := told
          rw [LaneRec.slotBase, base] at info
          rw [code_eq]
          exact info
  · intro done idle
    refine ⟨fun cmd buf phase low => ?_, fun passed kind active rest due level => ⟨fun q p cmd buf phase target port => ?_,
      fun q read phase target found => ?_⟩⟩
    · rw [exec_acknowledged receives (by rw [cmd]; nofun) buf, transactionDone_release exec phase, unlocked_seated (r := (s.arm a).linkDone b) low]
      exact congrArg Host.Outcome.next (settle_of_settled
        (settled_setArm settled rfl rfl (by rw [exec]; rfl) (still_of_settled settled a)))
    · have before : s.executing a = true := by
        unfold State.executing
        rw [exec, phase]
        rfl
      rw [exec_acknowledged receives (by rw [cmd]; nofun) buf, transactionDone_engage exec phase,
        settle_locked (r := (s.arm a).linkDone b) settled before rfl passed kind target port active rest due level]
      rfl
    · intro feed seg long
      obtain ⟨named, only⟩ := found
      have serial := (identity_some named).2
      rw [exec_verified settled receives read exec phase passed kind active rest due level target
        (matched_of_identifies ⟨named, only⟩) long, serial]
      rfl
  · intro reconciled
    have told (t : State) (h : s.MountFound t a (s.matched (s.arm a).link.buf)) : reconciled t := by
      obtain ⟨own, other, tables⟩ := h
      refine ⟨fun q found => ?_, fun unnamed => ?_⟩
      · rw [matched_of_identifies found] at own other tables
        refine ⟨own, ?_, fun p loc => ?_, fun loc => ?_, fun x ne mounted => ?_⟩
        · rw [tables, probes_reconciled]
          exact if_pos rfl
        · rw [tables, ports_reconciled]
          exact if_pos loc
        · rw [other]
          exact if_pos loc
        · rw [tables, probes_reconciled]
          exact (if_neg ne).trans (if_pos mounted)
      · rw [matched_none unnamed] at own other tables
        refine ⟨own, ?_, other, fun x mounted => ?_⟩
        · rw [tables]
          exact ports_detached ..
        · rw [tables, Tables.reconciled, probes_detached]
          exact if_pos mounted
    refine ⟨fun phase calm unasked wf fits => ?_, fun h phase settled passed kind active rest due level unnamed long => ?_⟩
    · obtain ⟨t, step, found, rest⟩ := exec_identified calm receives read exec alone phase unasked wf fits
      exact ⟨t, step, told t found, rest⟩
    · obtain ⟨t, step, found, rest⟩ := exec_mismatch settled receives read exec alone phase passed kind active rest due level
        unnamed long
      exact ⟨t, step, told t found, rest⟩
  · intro o at_ read stopped
    have found : s.matched (s.arm a).link.buf = some q := matched_of_identifies names
    have read_eq : read = s.identRead a b (some q) := by
      have noted : (s.modArm a fun r => { r with
          link := { r.link with engine := .idle }
          exec := some { b with
            link := ⟨r.link.period, r.link.attempt - 1, r.link.firstKind, none⟩, ident := ⟨r.link.buf, some q⟩ } }) =
          s.setArm a ((s.arm a).identNoted b (some q)) := rfl
      rw [State.identRead, ← noted]
    have own : read.arm a = { (s.arm a).identNoted b (some q) with mounted := .found (some q) } := by rw [read_eq]; exact arm_identRead_same ..
    have other : read.arm a.other = { o with mounted := s.besideMounted a (some q) } := by
      rw [read_eq]
      exact arm_identRead_other ..
    have tables : read.tables = s.tables.reconciled a (s.arm a).mounted (some q) := by rw [read_eq]; exact tables_identRead ..
    have latches : read.latches = s.latches := by
      obtain ⟨-, -, -, -, latches⟩ := identRead_keeps s a b (some q)
      rw [read_eq, latches]
    have calmR : read.calm = true := by rw [read_eq]; exact calm_identRead calm ..
    have unaskedR : read.unasked a.other = true := by rw [read_eq]; exact (unasked_identRead ..).trans unaskedO
    have execR : (read.arm a.other).exec = some d := by rw [other]; exact execO
    have stateR : (read.arm a.other).state = .active ∨ (read.arm a.other).state = .held := by rw [other]; exact stateO
    let halt : State := read.blockFault a.other .mountUnknown
    have unaskedH : halt.unasked a = true := unasked_blockFault ..
    have calmH : halt.calm = true := calm_blockFault calmR unaskedR _
    have ownH : halt.arm a = read.arm a := by
      have kept := arm_blockFault_other unaskedR .mountUnknown
      rwa [Arm.other_other] at kept
    have otherH : halt.arm a.other = _ := arm_blockFault_same read a.other .mountUnknown
    have after : (halt.completeDone a .ok).arm a.other = halt.arm a.other := (calm_completeDone calmH unaskedH .ok).2
    have tablesT : (halt.completeDone a .ok).tables = halt.tables := tables_completeDone ..
    have loc : read.tables.probes[q].loc = .mounted a := by
      rw [tables, probes_reconciled]
      exact if_pos rfl
    have step (meets : State.meetMountChange (s.setArm a ((s.arm a).identNoted b (some q))) read a.other = halt) :
        Machine.exec (.replyGapExpiry a) s = .next (halt.completeDone a .ok) := by
      rw [exec_identifying receives identity exec phase found, ← read_eq, meets]
      exact congrArg Host.Outcome.next (settle_completeDone calmH unaskedH .ok)
    have stops : stopped (halt.completeDone a .ok) := by
      refine ⟨rfl, ?_, ?_, ?_, ?_, ?_, fun u alloc armed => ?_⟩
      · rw [arm_completeDone_same, ownH, own]
        rfl
      · rw [after, otherH, other]
        exact ⟨rfl, rfl, rfl, rfl, rfl, rfl⟩
      · rw [after, otherH]
        rfl
      · rw [after, otherH]
        rfl
      · rw [lane_completeDone_other]
        exact paused_blockFault ..
      · obtain ⟨n, armed⟩ := armed
        have ownExec : (halt.arm a).exec = ((s.arm a).identNoted b (some q)).exec := by rw [ownH, own]
        rw [latches_completeDone ownExec, getElem_mapTable, latches_blockFault execR, getElem_mapTable, latches]
        exact disarmOfBlock_beside alloc armed
    have before : (s.setArm a ((s.arm a).identNoted b (some q))).arm a.other = o := State.arm_setArm_other _ _ _
    refine ⟨fun kind changing mounted place => ?_, fun c h kind phaseO concerned => ?_⟩
    · have beside : s.besideMounted a (some q) = .unverified := if_pos place
      have still : (read.arm a.other).changing = false := by
        rw [other]
        exact changing
      refine ⟨_, step (meetMountChange_touch ?_ ?_), stops, ?_, ?_⟩
      · exact kind.imp (runsBlock_of stateR execR passed) (runsBlock_of stateR execR passed)
      · rw [before, other, mounted]
        exact fun e => by rw [beside] at e; cases e
      · rw [after, otherH, other, beside]
        exact if_neg (by rw [Bool.not_eq_true]; exact changing)
      · rw [tablesT, tables_blockFault_still still]
        exact loc
    · have beside : s.besideMounted a (some q) = if at_ = .mounted a.other then .unverified else o.mounted := rfl
      have phaseR : (read.arm a.other).phase = .changing c h := by rw [other]; exact phaseO
      have settled := changeSettled_blockFault phaseR execR (f := .mountUnknown) nofun
      obtain ⟨tablesS, mountedS⟩ := settled
      have seat : (read.arm a.other).seatLow = o.seatLow := by rw [other]
      have mount : (read.arm a.other).mounted = if at_ = .mounted a.other then .unverified else o.mounted := by rw [other, beside]
      refine ⟨_, step (meetMountChange_change (runsBlock_of stateR execR passed kind) ?_), stops, ?_, ?_, ?_⟩
      · refine changeConcerned_of (q := q) (by rw [before]; exact execO) passed kind ?_
        rw [before, mount, loc]
        rcases concerned with ⟨mounted, place⟩ | ⟨elsewhere, named⟩ | ⟨p, place, known, port⟩
        · exact .inl (by rw [if_pos place, mounted]; nofun)
        · exact .inr (.inl ⟨elsewhere, named⟩)
        · refine .inr (.inr ⟨p, ?_, port⟩)
          rw [tables, ports_reconciled]
          show _ ≠ ite _ _ _
          rw [if_pos place]
          exact known
      · rw [after, mountedS, seat, mount]
        unfold State.settledMount
        by_cases place : at_ = .mounted a.other
        · cases o.seatLow <;> simp [place]
        · cases o.seatLow <;> cases o.mounted <;> simp [place]
      · intro p stow fetch port
        have worked : d.portWorked c h = some p := by
          unfold Block.portWorked
          rw [if_neg (by simp [stow, fetch])]
          cases h <;> exact port
        rw [tablesT, tablesS, ports_settledAt]
        exact if_pos worked
      · intro apart believed
        rw [tablesT, tablesS, probes_settledAt]
        refine (if_neg ?_).trans loc
        rintro (⟨p, -, holds⟩ | ⟨-, holds⟩)
        · rw [tables, ports_reconciled] at holds
          by_cases place : s.tables.probes[q].loc = .inPort p
          · cases (if_pos place).symm.trans holds
          · exact place (apart p ((if_neg place).symm.trans holds))
        · rw [mount] at holds
          by_cases place : at_ = .mounted a.other
          · cases (if_pos place).symm.trans holds
          · exact place (believed ((if_neg place).symm.trans holds))

end Sys2Proof.Machine
end


section
/-! PROOF. The tick of an arm: its segment, the exchange with its drives, and the tick of the other arm beside it. -/

namespace Sys2Proof.Machine

/-! ## An arm's tick begins -/

/-- The state at the beginning of an arm's tick, as far as the tick of that arm looks at it: the tick number has counted. -/
structure State.Ticking (s w : State) (a : Arm) : Prop where
  arm : w.arm a = s.arm a
  settings : w.settings = s.settings
  tick : w.tickNo = s.tickNo + 1
  captures : ∀ u : Fin 16, w.latches[u].cap.tick = s.tickNo → s.latches[u].cap.tick = s.tickNo

/-- The arm with its drives exchanged and its compare units tested (R54, R85). -/
def State.exchanged (w : State) (a : Arm) (r : ArmRec) (rd : Tri Reading) : State :=
  { w.setArm a r with
    latches := mapTable (LatchUnit.compareTest a rd (r.axes.map AxisPort.count) w.tickNo) w.latches }

section
variable {s w : State} {a : Arm} {rd : Tri Reading} {b : Block}

theorem State.Ticking.accOf (h : s.Ticking w a) : w.accOf a = s.accOf a := by
  unfold State.accOf State.armSet
  rw [h.settings]

theorem State.Ticking.stopAccOf (h : s.Ticking w a) : w.stopAccOf a = s.stopAccOf a := by
  unfold State.stopAccOf State.armSet
  rw [h.settings]

theorem State.Ticking.atCommitPoint (h : s.Ticking w a) (b : Block) : w.atCommitPoint a b = s.atCommitPoint a b := by
  unfold State.atCommitPoint
  rw [h.arm, h.accOf]

/-- A tick at which no capture falls together with the end of its search (log 42). -/
theorem State.Ticking.captureAtEnd (h : s.Ticking w a) (apart : s.captureNearEnd a s.tickNo = false) : w.captureAtEnd a = w := by
  refine if_neg ?_
  rw [h.tick, BitVec.add_sub_cancel]
  intro near
  rw [← Bool.not_eq_true] at apart
  refine apart ?_
  unfold State.captureNearEnd at near ⊢
  rw [h.arm, h.accOf] at near
  simp only [Bool.and_eq_true] at near ⊢
  refine ⟨near.1, ?_⟩
  have last := near.2
  cases unit : (s.arm a).exec.bind Block.unit with
  | none =>
    rw [unit] at last
    exact last
  | some u =>
    rw [unit] at last
    exact beq_iff_eq.2 (h.captures u (beq_iff_eq.1 last))

theorem State.Ticking.segAfter (h : s.Ticking w a) : w.segAfter a = s.tickedSeg a := by
  unfold State.segAfter State.tickedSeg
  rw [h.arm, h.accOf, h.stopAccOf]
  rfl

theorem State.Ticking.advances (h : s.Ticking w a) : w.advances a = s.runs a := by
  unfold State.advances State.runs
  rw [h.arm]

theorem commitTest_not (no : ∀ b, (w.arm a).exec = some b → w.atCommitPoint a b = false) : w.commitTest a = w := by
  unfold State.commitTest
  cases exec : (w.arm a).exec with
  | none => rfl
  | some b =>
    refine if_neg ?_
    rw [no b exec]
    nofun

theorem beginNext_not (no : (w.arm a).state = .active → (w.arm a).due ≠ some .nextLeg) : w.beginNext a = w :=
  if_neg fun h => no h.1 h.2

theorem exchange_eq (w : State) (a : Arm) (rd : Tri Reading) : w.exchange a rd =
    w.exchanged a { w.arm a with axes := portsAtTick (w.arm a).axes (w.arm a).cmd rd } rd := by
  unfold State.exchange State.exchanged State.counts
  rw [modArm_eq_setArm]
  dsimp only
  rw [State.arm_setArm_same]
  rfl

theorem exchanged_setArm (w : State) (a : Arm) (r r' : ArmRec) (rd : Tri Reading) :
    (w.setArm a r).exchanged a r' rd = w.exchanged a r' rd := by
  unfold State.exchanged
  rw [State.setArm_setArm]
  rfl

@[simp] theorem arm_exchanged_same (w : State) (a : Arm) (r : ArmRec) (rd : Tri Reading) : (w.exchanged a r rd).arm a = r :=
  State.arm_setArm_same w a r

@[simp] theorem arm_exchanged_other (w : State) (a : Arm) (r : ArmRec) (rd : Tri Reading) :
    (w.exchanged a r rd).arm a.other = w.arm a.other := State.arm_setArm_other w a r

theorem getElem_exchanged (w : State) (a : Arm) (r : ArmRec) (rd : Tri Reading) (u : Fin 16) : (w.exchanged a r rd).latches[u] =
    LatchUnit.compareTest a rd (r.axes.map AxisPort.count) w.tickNo w.latches[u] := getElem_mapTable ..

/-- A compare unit changes at the ticks of its own arm alone, a capture unit at none (R85). -/
theorem compareTest_not {u : LatchUnit} (other : u.alloc ≠ some a ∨ u.mode ≠ .compare) (counts : Vec) (tick : Word) :
    LatchUnit.compareTest a rd counts tick u = u := by
  unfold LatchUnit.compareTest
  split
  · rfl
  · exact if_neg fun h => other.elim (fun no => no h.2) fun no => no h.1

theorem compareTest_settings (u : LatchUnit) (counts : Vec) (tick : Word) :
    (LatchUnit.compareTest a rd counts tick u).alloc = u.alloc ∧ (LatchUnit.compareTest a rd counts tick u).mode = u.mode ∧
      ((LatchUnit.compareTest a rd counts tick u).cap.tick = u.cap.tick ∨
        (LatchUnit.compareTest a rd counts tick u).cap.tick = tick) := by
  unfold LatchUnit.compareTest
  dsimp only
  split
  · exact ⟨rfl, rfl, .inl rfl⟩
  · split
    · split
      · exact ⟨rfl, rfl, .inl rfl⟩
      · split
        · exact ⟨rfl, rfl, .inr rfl⟩
        · exact ⟨rfl, rfl, .inl rfl⟩
      · split
        · exact ⟨rfl, rfl, .inl rfl⟩
        · exact ⟨rfl, rfl, .inl rfl⟩
    · exact ⟨rfl, rfl, .inl rfl⟩

/-- The axes of a tick that follow the position raise neither of the two faults (R55, R56). -/
theorem follows_exchanged {r : ArmRec} {v : Vec} (settings : w.settings = s.settings)
    (axes : r.axes = portsAtTick (s.arm a).axes v rd) (tracks : s.tracks a v rd = true) :
    (w.exchanged a r rd).follows a rd = false ∧ State.silent rd = false := by
  have near (x : Axis) : ∃ c, rd.get x = some c ∧
      (((v.get x - (c + ((s.arm a).axes.get x).offset)).natAbs : Nat) : Int) ≤ ((s.armSet a).axes.get x).following := by
    simp only [State.tracks, Bool.and_eq_true] at tracks
    obtain ⟨⟨onX, onY⟩, onZ⟩ := tracks
    cases x
    case' X => have ok := onX
    case' Y => have ok := onY
    case' Z => have ok := onZ
    all_goals
      split at ok
      · cases ok
      next c e => exact ⟨c, e, of_decide_eq_true ok⟩
  have port (x : Axis) (c : Int) (e : rd.get x = some c) : (r.axes.get x).setpoint = v.get x ∧
      (r.axes.get x).count = c + ((s.arm a).axes.get x).offset := by
    rw [axes]
    cases x <;> exact ⟨rfl, by simp only [portsAtTick, AxisPort.atTick, Tri.get] at e ⊢; rw [e]⟩
  have kept (x : Axis) : ((rd.get x).isSome && decide ((((w.exchanged a r rd).armSet a).axes.get x).following <
      (((((w.exchanged a r rd).arm a).axes.get x).setpoint - (((w.exchanged a r rd).arm a).axes.get x).count).natAbs : Int))) =
        false ∧ (rd.get x).isNone = false := by
    obtain ⟨c, e, le⟩ := near x
    obtain ⟨setpoint, count⟩ := port x c e
    have set : (w.exchanged a r rd).armSet a = s.armSet a := by
      show w.settings.arms.get a = _
      rw [settings]
      rfl
    rw [arm_exchanged_same, set, setpoint, count, e]
    exact ⟨by simpa using le, rfl⟩
  have faults := fun x => (kept x).1
  have silent := fun x => (kept x).2
  constructor
  · unfold State.follows
    simp only [List.any_cons, List.any_nil, faults, Bool.or_false]
  · unfold State.silent
    simp only [List.any_cons, List.any_nil, silent, Bool.or_false]

/-- The end of an arm's tick whose axes follow, or whose arm is in FAULT, is the end of its segment alone (R53). -/
theorem tickEnd_follows {adv : Bool} (quiet : (w.arm a).state = .fault ∨ (w.follows a rd = false ∧ State.silent rd = false)) :
    w.tickEnd a rd adv = if adv then w.motionEnd a else w := by
  have none : ((w.arm a).state != .fault && (w.follows a rd || State.silent rd)) = false := by
    rcases quiet with fault | ⟨f, g⟩
    · simp [fault]
    · simp [f, g]
  unfold State.tickEnd
  dsimp only
  rw [none]
  simp only [Bool.false_and, Bool.false_eq_true, if_false, Bool.not_false, Bool.true_or, Bool.and_true]

/-! ## A tick with no event -/

/-- The record of an arm after a tick with no event differs in its segment, its position and its axes alone. -/
theorem tickedArm_keeps (s : State) (a : Arm) (rd : Tri Reading) :
    ∃ g v, s.tickedArm a rd = { s.arm a with seg := g, cmd := v, axes := portsAtTick (s.arm a).axes v rd } := by
  unfold State.tickedArm
  split
  · exact ⟨_, _, rfl⟩
  · exact ⟨_, _, rfl⟩

theorem runs_of_underway (h : s.underway a = true) : s.runs a = true := by
  simp only [State.underway, Bool.and_eq_true] at h
  exact h.1.1.1.1

theorem motionEnd_underway (h : s.underway a = true) (r : w.arm a = s.advancedArm a rd) : w.motionEnd a = w := by
  simp only [State.underway, Bool.and_eq_true, Bool.not_eq_true', Bool.and_eq_false_iff] at h
  obtain ⟨⟨-, going⟩, fast⟩ := h
  have atEnd : (w.arm a).seg.atEnd = false := by rw [r]; exact going
  have seg : (w.arm a).seg = s.tickedSeg a := by rw [r]; rfl
  have state : (w.arm a).state = (s.arm a).state := by rw [r]; rfl
  have phase : (w.arm a).phase = (s.arm a).phase := by rw [r]; rfl
  have holding : (w.arm a).holding = (s.arm a).holding := by rw [r]; rfl
  have moves (slow : (s.arm a).slowing = true) : (w.arm a).seg.v ≠ 0 := by
    rw [seg]
    rcases fast with no | fast
    · rw [slow] at no
      cases no
    · simpa using fast
  unfold State.motionEnd
  split
  next active =>
    unfold State.activeTick
    dsimp only
    split
    next brakes => exact if_neg (by simp [atEnd, moves (show _ from by simp [ArmRec.slowing, ← phase, brakes])])
    next =>
      split
      next hold =>
        unfold State.holdTick
        dsimp only
        rw [atEnd, if_neg nofun, if_neg (moves (by simp [ArmRec.slowing, ← holding, hold]))]
      next => rw [atEnd, if_neg nofun]
  next stopping =>
    unfold State.stopTick
    dsimp only
    rw [if_neg (moves (by simp [ArmRec.slowing, ← state, stopping])), atEnd, if_neg nofun]
  next => rfl

/-- A settled state stays so through the exchange of an arm and a step of its segment. -/
theorem settled_exchanged {r : ArmRec} (settled : w.settled = true) (arm : w.arm a = s.arm a)
    (keeps : ∃ g v ax, r = { s.arm a with seg := g, cmd := v, axes := ax }) : (w.exchanged a r rd).settled = true := by
  obtain ⟨g, v, ax, rfl⟩ := keeps
  let r : ArmRec := { s.arm a with seg := g, cmd := v, axes := ax }
  refine (settled_congr (s := w.setArm a r) (t := w.exchanged a r rd) rfl rfl).trans (settled_setArm settled ?_ ?_ ?_ ?_)
  · rw [arm]
  · rw [arm]
  · rw [arm]
  · have still := still_of_settled settled a
    rw [arm] at still
    exact still

/-- The parts of an arm's tick before its exchange do nothing where no segment begins, no commit point falls and no capture
falls together with the end of its search. -/
theorem tickArm_eq (h : s.Ticking w a) (next : (s.arm a).state = .active → (s.arm a).due ≠ some .nextLeg)
    (commit : ∀ b, (s.arm a).exec = some b → s.atCommitPoint a b = false) (apart : s.captureNearEnd a s.tickNo = false) :
    w.tickArm a rd = (((w.advance a).exchange a rd).tickEnd a rd (s.runs a)).settle := by
  unfold State.tickArm
  dsimp only
  rw [beginNext_not (by rw [h.arm]; exact next), commitTest_not fun b exec => by
    rw [h.atCommitPoint]
    exact commit b (h.arm ▸ exec), h.captureAtEnd apart, h.advances]

theorem advance_runs (h : s.Ticking w a) (runs : s.runs a = true) :
    (w.advance a).exchange a rd = w.exchanged a (s.advancedArm a rd) rd := by
  unfold State.advance
  rw [h.advances, if_pos runs, exchange_eq, modArm_eq_setArm, exchanged_setArm, State.arm_setArm_same, h.segAfter, h.arm]
  rfl

theorem advance_not (h : s.Ticking w a) (runs : s.runs a = false) : (w.advance a).exchange a rd =
    w.exchanged a { s.arm a with axes := portsAtTick (s.arm a).axes (s.arm a).cmd rd } rd := by
  unfold State.advance
  rw [h.advances, runs, if_neg nofun, exchange_eq, h.arm]

theorem not_commit_of_plain (underway : (s.underway a || !s.runs a) = true) (exec : (s.arm a).exec = some b) :
    s.atCommitPoint a b = false := by
  rcases Bool.or_eq_true_iff.1 underway with going | rests
  · simp only [State.underway, Bool.and_eq_true, exec] at going
    simpa using going.1.1.1.2
  · rw [Bool.not_eq_true'] at rests
    rw [← Bool.not_eq_true]
    intro commit
    simp only [State.atCommitPoint, Bool.and_eq_true] at commit
    simp only [State.runs, Bool.and_eq_false_iff, Bool.or_eq_false_iff] at rests
    obtain ⟨⟨⟨⟨⟨⟨⟨active, -⟩, moves⟩, -⟩, -⟩, -⟩, -⟩, -⟩ := commit
    rcases rests with no | ⟨no, -⟩
    · exact absurd moves (by rw [no]; nofun)
    · exact absurd active (by rw [no]; nofun)

theorem not_near_of_plain (underway : (s.underway a || !s.runs a) = true) : s.captureNearEnd a s.tickNo = false := by
  rcases Bool.or_eq_true_iff.1 underway with going | rests
  · simp only [State.underway, Bool.and_eq_true] at going
    simpa using going.1.1.2
  · rw [Bool.not_eq_true'] at rests
    rw [← Bool.not_eq_true]
    intro near
    simp only [State.captureNearEnd, Bool.and_eq_true] at near
    simp only [State.runs, Bool.and_eq_false_iff, Bool.or_eq_false_iff] at rests
    obtain ⟨⟨⟨⟨active, moves⟩, -⟩, -⟩, -⟩ := near
    rcases rests with no | ⟨no, -⟩
    · exact absurd moves (by rw [no]; nofun)
    · exact absurd active (by rw [no]; nofun)

/-- The part of an arm's tick that neither begins nor ends anything, up to the end of the tick (R52, R54). -/
theorem exchanged_underway (h : s.Ticking w a) (underway : (s.underway a || !s.runs a) = true) :
    (w.advance a).exchange a rd = w.exchanged a (s.tickedArm a rd) rd := by
  cases going : s.underway a with
  | true =>
    rw [advance_runs h (runs_of_underway going), State.tickedArm, if_pos going]
  | false =>
    rw [going, Bool.false_or, Bool.not_eq_true'] at underway
    rw [advance_not h underway, State.tickedArm, going, if_neg nofun]

theorem motionEnd_plain (underway : (s.underway a || !s.runs a) = true) (r : w.arm a = s.tickedArm a rd) :
    (if s.runs a then w.motionEnd a else w) = w := by
  cases going : s.underway a with
  | true =>
    rw [runs_of_underway going, if_pos rfl]
    refine motionEnd_underway (rd := rd) going ?_
    rw [r, State.tickedArm, if_pos going]
  | false =>
    rw [going, Bool.false_or, Bool.not_eq_true'] at underway
    rw [underway, if_neg nofun]

theorem tickedArm_keeps' (s : State) (a : Arm) (rd : Tri Reading) :
    ∃ g v ax, s.tickedArm a rd = { s.arm a with seg := g, cmd := v, axes := ax } := by
  obtain ⟨g, v, e⟩ := tickedArm_keeps s a rd
  exact ⟨g, v, _, e⟩

/-- A tick with no event of an arm (R52, R54). -/
theorem tickArm_plain (h : s.Ticking w a) (settled : w.settled = true) (plain : s.plainTick a rd = true) :
    w.tickArm a rd = w.exchanged a (s.tickedArm a rd) rd := by
  simp only [State.plainTick, Bool.and_eq_true, Bool.not_eq_true'] at plain
  obtain ⟨⟨underway, next⟩, follows⟩ := plain
  obtain ⟨g, v, keeps⟩ := tickedArm_keeps s a rd
  have quiet : ((w.exchanged a (s.tickedArm a rd) rd).arm a).state = .fault ∨
      ((w.exchanged a (s.tickedArm a rd) rd).follows a rd = false ∧ State.silent rd = false) := by
    rcases Bool.or_eq_true_iff.1 follows with fault | tracks
    · left
      rw [arm_exchanged_same, keeps]
      exact beq_iff_eq.1 fault
    · exact .inr (follows_exchanged (v := v) h.settings (by rw [keeps]) (by rw [keeps] at tracks; exact tracks))
  rw [tickArm_eq h (fun active due => by simp [active, due] at next) (fun b exec => not_commit_of_plain underway exec)
    (not_near_of_plain underway), exchanged_underway h underway, tickEnd_follows quiet,
    motionEnd_plain underway (arm_exchanged_same ..)]
  exact settle_of_settled (settled_exchanged settled h.arm (tickedArm_keeps' s a rd))

/-- A tick of an arm along its segment, its axes following, is what the end of its advance brings (R53). -/
theorem tickArm_runs (h : s.Ticking w a) (due : (s.arm a).due = none) (runs : s.runs a = true)
    (commit : ∀ b, (s.arm a).exec = some b → s.atCommitPoint a b = false) (apart : s.captureNearEnd a s.tickNo = false)
    (tracks : s.tracks a (s.tickedSeg a).position rd = true) :
    w.tickArm a rd = ((w.exchanged a (s.advancedArm a rd) rd).motionEnd a).settle := by
  rw [tickArm_eq h (by rw [due]; nofun) commit apart, advance_runs h runs, runs,
    tickEnd_follows (.inr (follows_exchanged (v := (s.tickedSeg a).position) h.settings rfl tracks)), if_pos rfl]

end

/-! ## The tick of both arms -/

/-- The state as the tick of arm `a` comes to it: the tick number has counted, and the other arm has had a tick with no event
where it comes first (R54; log 10). -/
def State.tickStart (s : State) (first a : Arm) (rd : Duo (Tri Reading)) : State :=
  let w : State := { s with tickNo := s.tickNo + 1 }
  if first = a then w else w.exchanged a.other (s.tickedArm a.other (rd.get a.other)) (rd.get a.other)

/-- The other arm has its tick with no event after arm `a` where it comes last (R54; log 10). -/
def State.tickRest (s e : State) (first a : Arm) (rd : Duo (Tri Reading)) : State :=
  if first = a then e.exchanged a.other (s.tickedArm a.other (rd.get a.other)) (rd.get a.other) else e

/-- The other arm's record as arm `a` has its tick. -/
def State.besideTick (s : State) (first a : Arm) (rd : Duo (Tri Reading)) : ArmRec :=
  if first = a then s.arm a.other else s.tickedArm a.other (rd.get a.other)

section
variable {s e : State} {first a : Arm} {rd : Duo (Tri Reading)}

theorem arm_tickStart_same : (s.tickStart first a rd).arm a = s.arm a := by
  unfold State.tickStart
  dsimp only
  split
  · rfl
  · exact State.arm_other_setArm ..

theorem arm_tickStart_other : (s.tickStart first a rd).arm a.other = s.besideTick first a rd := by
  unfold State.tickStart State.besideTick
  dsimp only
  split
  · rfl
  · exact arm_exchanged_same ..

theorem besideTick_keeps (s : State) (first a : Arm) (rd : Duo (Tri Reading)) :
    ∃ g v ax, s.besideTick first a rd = { s.arm a.other with seg := g, cmd := v, axes := ax } := by
  unfold State.besideTick
  split
  · exact ⟨_, _, _, rfl⟩
  · exact tickedArm_keeps' ..

/-- The tick of the other arm leaves the part but for that arm and its compare units (R54, R85). -/
theorem tickStart_keeps (s : State) (first a : Arm) (rd : Duo (Tri Reading)) :
    (s.tickStart first a rd).shm = s.shm ∧ (s.tickStart first a rd).lanes = s.lanes ∧ (s.tickStart first a rd).zone = s.zone ∧
      (s.tickStart first a rd).corr = s.corr ∧ (s.tickStart first a rd).settings = s.settings ∧
      (s.tickStart first a rd).tables = s.tables ∧ (s.tickStart first a rd).pins = s.pins ∧
      (s.tickStart first a rd).therm = s.therm ∧ (s.tickStart first a rd).unit = s.unit ∧
      (s.tickStart first a rd).tickNo = s.tickNo + 1 ∧ (s.tickStart first a rd).device = s.device := by
  unfold State.tickStart
  dsimp only
  split
  · exact ⟨rfl, rfl, rfl, rfl, rfl, rfl, rfl, rfl, rfl, rfl, rfl⟩
  · exact ⟨rfl, rfl, rfl, rfl, rfl, rfl, rfl, rfl, rfl, rfl, rfl⟩

/-- A unit that is not a compare unit of the other arm is as before. -/
theorem latch_tickStart {u : Fin 16} (own : s.latches[u].alloc ≠ some a.other ∨ s.latches[u].mode ≠ .compare) :
    (s.tickStart first a rd).latches[u] = s.latches[u] := by
  unfold State.tickStart
  dsimp only
  split
  · rfl
  · rw [getElem_exchanged]
    exact compareTest_not own _ _

theorem word_succ_ne (n : Word) : n + 1 ≠ n := by bv_omega

theorem ticking_tickStart (s : State) (first a : Arm) (rd : Duo (Tri Reading)) : s.Ticking (s.tickStart first a rd) a := by
  obtain ⟨-, -, -, -, settings, -, -, -, -, tick, -⟩ := tickStart_keeps s first a rd
  refine ⟨arm_tickStart_same, settings, tick, fun u at_ => ?_⟩
  unfold State.tickStart at at_
  dsimp only at at_
  split at at_
  · exact at_
  · rw [getElem_exchanged] at at_
    obtain ⟨-, -, same | now⟩ := compareTest_settings (a := a.other) (rd := rd.get a.other) s.latches[u]
      ((s.tickedArm a.other (rd.get a.other)).axes.map AxisPort.count) (s.tickNo + 1)
    · exact same.symm.trans at_
    · exact absurd (now.symm.trans at_) (word_succ_ne _)

theorem calm_tickStart (calm : s.calm = true) : (s.tickStart first a rd).calm = true := by
  obtain ⟨-, -, -, corr, -⟩ := tickStart_keeps s first a rd
  obtain ⟨g, v, ax, keeps⟩ := besideTick_keeps s first a rd
  refine calm_of_arms (a := a) (by rw [corr]; exact swapPending_of_calm (s := s) calm) ?_ ?_
  · rw [arm_tickStart_same]
    exact armCalm_of_calm calm a
  · rw [arm_tickStart_other, keeps]
    exact (armCalm_of_calm calm a.other : (s.arm a.other).calm)

/-- The tick of an arm beside which the other has a tick with no event (R54; log 10). -/
theorem exec_tick (calm : s.calm = true) (run : s.device = .run) (plain : s.plainTick a.other (rd.get a.other) = true)
    (event : (s.tickStart first a rd).tickArm a (rd.get a) = e)
    (after : first = a → s.Ticking e a.other ∧ e.settled = true) :
    exec (.tick first rd) s = .next (s.tickRest e first a rd) := by
  have counted : s.Ticking { s with tickNo := s.tickNo + 1 } a.other := ⟨rfl, rfl, rfl, fun _ h => h⟩
  refine (congrArg Host.Outcome.next (if_pos run)).trans (congrArg Host.Outcome.next ?_)
  unfold State.tickStart at event
  unfold State.tickRest
  rcases a.eq_or_other first with same | same
  · obtain ⟨ticking, settled⟩ := after same
    rw [if_pos same] at event ⊢
    rw [State.tickBoth, same]
    rw [event, tickArm_plain ticking settled plain]
  · have apart : first ≠ a := by rw [same]; exact a.other_ne
    rw [if_neg apart] at event ⊢
    have settled : State.settled { s with tickNo := s.tickNo + 1 } = true :=
      (settled_congr (s := s) (t := { s with tickNo := s.tickNo + 1 }) rfl rfl).trans (settled_of_calm calm)
    rw [State.tickBoth, same, tickArm_plain counted settled plain, Arm.other_other]
    exact event

theorem arm_tickRest_same : (s.tickRest e first a rd).arm a = e.arm a := by
  unfold State.tickRest
  split
  · exact State.arm_other_setArm ..
  · rfl

theorem arm_tickRest_other : (s.tickRest e first a rd).arm a.other =
    if first = a then s.tickedArm a.other (rd.get a.other) else e.arm a.other := by
  unfold State.tickRest
  split
  · exact arm_exchanged_same ..
  · rfl

theorem tickRest_keeps (s e : State) (first a : Arm) (rd : Duo (Tri Reading)) :
    (s.tickRest e first a rd).shm = e.shm ∧ (s.tickRest e first a rd).lanes = e.lanes ∧
      (s.tickRest e first a rd).zone = e.zone ∧ (s.tickRest e first a rd).tables = e.tables ∧
      (s.tickRest e first a rd).unit = e.unit ∧ (s.tickRest e first a rd).tickNo = e.tickNo := by
  unfold State.tickRest
  split
  · exact ⟨rfl, rfl, rfl, rfl, rfl, rfl⟩
  · exact ⟨rfl, rfl, rfl, rfl, rfl, rfl⟩

theorem latch_tickRest {u : Fin 16} (own : e.latches[u].alloc ≠ some a.other ∨ e.latches[u].mode ≠ .compare) :
    (s.tickRest e first a rd).latches[u] = e.latches[u] := by
  unfold State.tickRest
  split
  · rw [getElem_exchanged]
    exact compareTest_not own _ _
  · rfl

end

end Sys2Proof.Machine
end


section
/-! PROOF. A tick at which something of one arm begins or ends, the other having a tick with no event. -/

namespace Sys2Proof.Machine

/-- The state once arm `a` has moved along its segment and exchanged with its drives (R52, R54). -/
def State.tickMoved (s : State) (first a : Arm) (rd : Duo (Tri Reading)) : State :=
  (s.tickStart first a rd).exchanged a (s.advancedArm a (rd.get a)) (rd.get a)

section
variable {s t e post pre : State} {first a : Arm} {rd : Duo (Tri Reading)} {b : Block} {n : Bool} {v : Vec} {needs : Option Bool}

theorem arm_tickMoved_same : (s.tickMoved first a rd).arm a = s.advancedArm a (rd.get a) := arm_exchanged_same ..

theorem arm_tickMoved_other : (s.tickMoved first a rd).arm a.other = s.besideTick first a rd :=
  (arm_exchanged_other ..).trans arm_tickStart_other

theorem tickMoved_keeps (s : State) (first a : Arm) (rd : Duo (Tri Reading)) :
    (s.tickMoved first a rd).shm = s.shm ∧ (s.tickMoved first a rd).lanes = s.lanes ∧ (s.tickMoved first a rd).zone = s.zone ∧
      (s.tickMoved first a rd).corr = s.corr ∧ (s.tickMoved first a rd).settings = s.settings ∧
      (s.tickMoved first a rd).tables = s.tables ∧ (s.tickMoved first a rd).pins = s.pins ∧
      (s.tickMoved first a rd).therm = s.therm ∧ (s.tickMoved first a rd).unit = s.unit ∧
      (s.tickMoved first a rd).tickNo = s.tickNo + 1 ∧ (s.tickMoved first a rd).device = s.device :=
  tickStart_keeps s first a rd

/-- A capture unit is as before the tick, and so is a unit allocated to neither arm. -/
theorem latch_tickMoved {u : Fin 16} (own : s.latches[u].mode ≠ .compare) :
    (s.tickMoved first a rd).latches[u] = s.latches[u] := by
  rw [State.tickMoved, getElem_exchanged, latch_tickStart (.inr own)]
  exact compareTest_not (.inr own) _ _

theorem captured_exchanged {u : Fin 16} {r : ArmRec}
    (at_ : ((s.tickStart first a rd).exchanged a r (rd.get a)).latches[u].cap.tick = s.tickNo) :
    s.latches[u].cap.tick = s.tickNo := by
  have ticking := ticking_tickStart s first a rd
  rw [getElem_exchanged] at at_
  obtain ⟨-, -, same | now⟩ := compareTest_settings (a := a) (rd := rd.get a) (s.tickStart first a rd).latches[u]
    (r.axes.map AxisPort.count) (s.tickStart first a rd).tickNo
  · exact ticking.captures u (same.symm.trans at_)
  · exact absurd (now.symm.trans at_) (by rw [ticking.tick]; exact word_succ_ne _)

theorem captured_tickMoved {u : Fin 16} (at_ : (s.tickMoved first a rd).latches[u].cap.tick = s.tickNo) :
    s.latches[u].cap.tick = s.tickNo := captured_exchanged at_

theorem calm_besideTick (calm : s.calm = true) : (s.besideTick first a rd).calm := by
  obtain ⟨g, v, ax, keeps⟩ := besideTick_keeps s first a rd
  rw [keeps]
  exact (armCalm_of_calm calm a.other : (s.arm a.other).calm)

/-- What a tick of this kind is given: the facts that `meetsTick` names. -/
theorem meetsTick_iff : s.meetsTick a rd = true ↔ s.calm = true ∧ s.device = .run ∧
    s.plainTick a.other (rd.get a.other) = true ∧ s.tracks a (s.tickedSeg a).position (rd.get a) = true ∧ s.runs a = true ∧
      (s.arm a).due = none ∧ s.captureNearEnd a s.tickNo = false := by
  simp only [State.meetsTick, State.loneTick, Bool.and_eq_true, Bool.not_eq_true', beq_iff_eq]
  tauto

/-- What an event leaves as far as the tick of the other arm looks at it. -/
structure State.SparesOther (s e : State) (first a : Arm) (rd : Duo (Tri Reading)) : Prop where
  settings : e.settings = s.settings
  tick : e.tickNo = s.tickNo + 1
  captures : ∀ u : Fin 16, e.latches[u].cap.tick = s.tickNo → (s.tickMoved first a rd).latches[u].cap.tick = s.tickNo

theorem ticking_spared (h : s.SparesOther e first a rd) (other : e.arm a.other = s.arm a.other) : s.Ticking e a.other :=
  ⟨other, h.settings, h.tick, fun u at_ => captured_tickMoved (h.captures u at_)⟩

/-- A tick at which arm `a` moves along its segment, the other arm having a tick with no event: what the end of the advance
brings is all that comes between (R53, R54). -/
theorem exec_tick_end (meets : s.meetsTick a rd = true) (commit : ∀ b, (s.arm a).exec = some b → s.atCommitPoint a b = false)
    (ends : ((s.tickMoved first a rd).motionEnd a).settle = e)
    (after : first = a → s.SparesOther e first a rd ∧ e.arm a.other = s.arm a.other ∧ e.settled = true) :
    exec (.tick first rd) s = .next (s.tickRest e first a rd) := by
  obtain ⟨calm, run, plain, tracks, runs, due, apart⟩ := meetsTick_iff.1 meets
  refine exec_tick calm run plain ?_ fun same => ?_
  · rw [tickArm_runs (ticking_tickStart s first a rd) due runs commit apart tracks]
    exact ends
  · obtain ⟨spares, other, settled⟩ := after same
    exact ⟨ticking_spared spares other, settled⟩

/-- An event that touches its own arm and makes no release test: what is left is `ticked` (R54). -/
theorem ticked_tickRest (tick : e.tickNo = s.tickNo + 1) (other : e.arm a.other = s.besideTick first a rd) :
    s.ticked (s.tickRest e first a rd) a rd := by
  obtain ⟨-, -, -, -, -, no⟩ := tickRest_keeps s e first a rd
  refine ⟨no.trans tick, ?_⟩
  rw [arm_tickRest_other, other]
  unfold State.besideTick
  split <;> rfl

theorem besideTick_first (same : first = a) : s.besideTick first a rd = s.arm a.other := if_pos same

/-- A tick whose event makes no release test and leaves nothing to do. -/
theorem exec_tick_quiet (meets : s.meetsTick a rd = true) (commit : ∀ b, (s.arm a).exec = some b → s.atCommitPoint a b = false)
    (ends : ((s.tickMoved first a rd).motionEnd a).settle = e) (settled : e.settled = true)
    (spares : s.SparesOther e first a rd) (other : e.arm a.other = s.besideTick first a rd) :
    exec (.tick first rd) s = .next (s.tickRest e first a rd) ∧ s.ticked (s.tickRest e first a rd) a rd :=
  ⟨exec_tick_end meets commit ends fun same => ⟨spares, other.trans (besideTick_first same), settled⟩,
    ticked_tickRest spares.tick other⟩

theorem waits_not_underway (waits : s.waitsToMove a b) : s.underway a = false := by
  obtain ⟨-, -, -, -, rest, -⟩ := waits
  simp [State.underway, State.runs, rest]

theorem besideTick_waiting (waits : s.waitsToMove a.other b) : ∃ ax, s.besideTick first a rd = { s.arm a.other with axes := ax } := by
  unfold State.besideTick
  split
  · exact ⟨_, rfl⟩
  · exact ⟨_, if_neg (by rw [waits_not_underway waits]; nofun)⟩

/-- An arm that waits for the grant is not one whose grant is asked for by none. -/
theorem not_unasked_of_waits (waits : s.waitsToMove a.other b) (holds : s.holdsGrant a = true) : s.unasked a = false := by
  obtain ⟨-, -, -, -, -, -, -, asks, -⟩ := waits
  simp [State.unasked, holds, asks]

/-- A tick whose event makes the release test of its arm: what is left is `tickedTest`, beside what the event leaves (R54,
R73, R77, R78). -/
theorem exec_tick_release (meets : s.meetsTick a rd = true) (commit : ∀ b, (s.arm a).exec = some b → s.atCommitPoint a b = false)
    (may : s.mayRelease first a) (ends : (s.tickMoved first a rd).motionEnd a = post)
    (releases : s.Releases pre post a n (s.besideTick first a rd)) (cmd : (pre.arm a).cmd = v)
    (agree : ∀ m, needs = some m → n = m) (spares : s.SparesOther post first a rd) :
    ∃ t, exec (.tick first rd) s = .next t ∧ s.tickedTest t a rd v needs ∧ t.arm a = post.arm a ∧ t.shm = post.shm ∧
      t.lanes = post.lanes ∧ t.unit = post.unit ∧ t.tables = post.tables := by
  have waits : s.unasked a = true ∨ ∃ b, s.waitsToMove a.other b := may.imp id fun h => h.2
  obtain ⟨r', settle, handed⟩ := settle_release_beside releases cmd agree waits fun b h => besideTick_waiting h
  have first_unasked (same : first = a) : s.unasked a = true := by
    rcases may with unasked | ⟨other, -⟩
    · exact unasked
    · exact absurd (same.symm.trans other) a.ne_other
  let e : State := post.setArm a.other r'
  have spared : s.SparesOther e first a rd := ⟨spares.settings, spares.tick, spares.captures⟩
  rw [settle] at handed
  obtain ⟨alone, passes⟩ := handed
  have settled (unasked : s.unasked a = true) : e.settled = true := by
    obtain ⟨calm, -⟩ := meetsTick_iff.1 meets
    refine settled_of_calm (calm_of_arms (a := a) releases.pending ?_ ?_)
    · rw [show e.arm a = _ from State.arm_other_setArm ..]
      exact releases.own
    · rw [show e.arm a.other = _ from (alone unasked).1]
      exact calm_besideTick calm
  obtain ⟨shm, lanes, zone, tables, unit, tick⟩ := tickRest_keeps s e first a rd
  refine ⟨_, exec_tick_end meets commit ((congrArg State.settle ends).trans settle) fun same =>
      ⟨spared, ?_, settled (first_unasked same)⟩,
    ⟨tick.trans spared.tick, fun unasked => ?_, fun b waits holds => ?_⟩, ?_, shm, lanes, unit, tables⟩
  · exact (alone (first_unasked same)).1.trans (besideTick_first same)
  · obtain ⟨other, tested⟩ := alone unasked
    refine ⟨?_, ?_⟩
    · rw [arm_tickRest_other, show e.arm a.other = _ from other]
      unfold State.besideTick
      split <;> rfl
    · unfold State.tested at tested ⊢
      rw [zone]
      exact tested
  · have last : first ≠ a := fun same => by
      have unasked := first_unasked same
      rw [not_unasked_of_waits waits holds] at unasked
      cases unasked
    have rest : s.tickRest e first a rd = e := if_neg last
    have beside : s.besideTick first a rd = s.tickedArm a.other (rd.get a.other) := if_neg last
    rw [rest, ← beside]
    exact passes b waits holds
  · rw [arm_tickRest_same]
    exact State.arm_other_setArm ..

end

end Sys2Proof.Machine
end


section
/-! PROOF. What the end of an arm's advance brings at a tick: the end of a segment, of a hold and of a stop. -/

namespace Sys2Proof.Machine

/-- The record of an arm at rest at the end of a segment or of a braking (R53). -/
def ArmRec.atEnd (r : ArmRec) : ArmRec :=
  { r with moving := false, holding := false, due := none, seg := { r.seg with v := 0 } }

section
variable {s w : State} {a : Arm} {b : Block} {r : ArmRec}

/-! ## Which end it is (R53, R60, R62) -/

theorem motionEnd_segEnd (active : (w.arm a).state = .active) (phase : (w.arm a).phase.brakes = false)
    (atEnd : (w.arm a).seg.atEnd = true) (single : (w.arm a).committed = none) : w.motionEnd a = w.segEndAtTick a := by
  unfold State.motionEnd
  simp only [active]
  unfold State.activeTick State.holdTick
  simp only [phase, atEnd, single, Bool.false_eq_true, if_false, if_true, ite_self]

theorem motionEnd_hold (active : (w.arm a).state = .active) (holding : (w.arm a).holding = true)
    (phase : (w.arm a).phase.brakes = false) (rest : (w.arm a).seg.v = 0) (going : (w.arm a).seg.atEnd = false) :
    w.motionEnd a = w.becomeHeld a := by
  unfold State.motionEnd
  simp only [active]
  unfold State.activeTick State.holdTick
  simp only [phase, holding, going, rest, Bool.false_eq_true, if_false, if_true]

theorem motionEnd_crosses {h : Block} (stopping : (w.arm a).state = .stopping) (committed : (w.arm a).committed = some h)
    (before : (w.arm a).crossed = false) (fast : (w.arm a).seg.v ≠ 0) (atEnd : (w.arm a).seg.atEnd = true) :
    w.motionEnd a = w.stopCrosses a h := by
  unfold State.motionEnd
  simp only [stopping]
  unfold State.stopTick
  simp only [committed, before, atEnd, fast, if_false, if_true]

theorem motionEnd_stopEnds (stopping : (w.arm a).state = .stopping)
    (rest : (w.arm a).seg.v = 0 ∨ ((w.arm a).seg.atEnd = true ∧ ((w.arm a).committed = none ∨ (w.arm a).crossed = true))) :
    w.motionEnd a = w.endStopping a := by
  unfold State.motionEnd
  simp only [stopping]
  unfold State.stopTick
  dsimp only
  by_cases slow : (w.arm a).seg.v = 0
  · rw [if_pos slow]
  · obtain ⟨atEnd, last⟩ := rest.resolve_left slow
    rw [if_neg slow, if_pos atEnd]
    rcases last with single | crossed
    · rw [single]
    · rw [crossed]
      split
      · contradiction
      · rfl

/-! ## The end of a segment (R53) -/

/-- Where a segment's end leaves no further segment due, nothing waits for the next tick. -/
theorem segEndAtTick_of (due : ((w.segEnd a).arm a).due ≠ some .leg) : w.segEndAtTick a = w.segEnd a := by
  unfold State.segEndAtTick
  rw [modArm_eq_setArm, if_neg due]
  exact State.setArm_arm ..

theorem segEnd_move (exec : (w.arm a).exec = some b) (phase : (w.arm a).phase = .moving) :
    w.segEnd a = (w.setArm a (w.arm a).atEnd).moveSegEnd a b := by
  unfold State.segEnd
  simp only [exec, phase]
  rfl

theorem segEnd_moveDone (exec : (w.arm a).exec = some b) (phase : (w.arm a).phase = .moving)
    (last : b.leg + 1 = b.targets.length) : w.segEndAtTick a = (w.setArm a (w.arm a).atEnd).completeDone a .ok := by
  have ends : w.segEnd a = (w.setArm a (w.arm a).atEnd).completeDone a .ok := by
    rw [segEnd_move exec phase]
    exact if_neg (by omega)
  rw [segEndAtTick_of, ends]
  rw [ends, arm_completeDone_same]
  nofun

theorem segEnd_moveNext (exec : (w.arm a).exec = some b) (phase : (w.arm a).phase = .moving)
    (more : b.leg + 1 < b.targets.length) : w.segEndAtTick a =
      w.setArm a { (w.arm a).atEnd with exec := some { b with leg := b.leg + 1 }, due := some .nextLeg } := by
  have ends : w.segEnd a = w.setArm a { (w.arm a).atEnd with exec := some { b with leg := b.leg + 1 }, due := some .leg } := by
    rw [segEnd_move exec phase, State.moveSegEnd, if_pos more, modExec_setArm, setDue_setArm]
    show State.setArm _ a { (w.arm a).atEnd with exec := ((w.arm a).exec.map _), due := _ } = _
    rw [exec]
    rfl
  rw [State.segEndAtTick, ends, modArm_setArm]
  rfl

end

/-! ## Completions at a tick -/

section
variable {s w : State} {a : Arm} {b : Block} {n : Bool} {first : Arm} {rd : Duo (Tri Reading)}

/-- The result words of a block that ends DONE (R44, R178). -/
theorem slotGives_completeDone {ws more : List Word} (exec : (w.arm a).exec = some b) (wf : w.shm.wf = true)
    (fits : (w.lanes.get a).slotBase b.slot.index + 32 ≤ 65536) (few : ws.length ≤ 12)
    (words : w.resultWords a b = ws ++ more) (x : Status) : (w.completeDone a x).slotGives a b.slot ws := by
  have written : (w.writeExec a slotDone x none).slotGives a b.slot ws := by
    rw [writeExec_some exec, words]
    exact (keepsSlot_of_eq rfl rfl).slotGives few (slotGives_writeBlock wf fits slotDone x none ws more few)
  have told := slotSays_writeExec exec wf fits slotDone x none
  exact (keepsSlot_afterDone (wf_writeExec wf _ _ _)
    (by rw [slotSays_state (by decide) told]; decide)).slotGives few written

/-- Disarming changes no record of a unit. -/
theorem cap_disarmOfBlock (a : Arm) (c : Bool) (u : LatchUnit) : (LatchUnit.disarmOfBlock a c u).cap = u.cap := by
  unfold LatchUnit.disarmOfBlock
  repeat' split
  all_goals rfl

/-- An event that keeps the tick number, the settings and the units' records spares the tick of the other arm. -/
theorem spares_of {e : State} (core : e.core = (s.tickMoved first a rd).core)
    (caps : ∀ u : Fin 16, e.latches[u].cap = (s.tickMoved first a rd).latches[u].cap) : s.SparesOther e first a rd := by
  obtain ⟨-, -, -, -, settings, -, -, -, -, tick, -⟩ := tickMoved_keeps s first a rd
  refine ⟨(congrArg Core.settings core).trans settings, (congrArg Core.tickNo core).trans tick, fun u at_ => ?_⟩
  rw [caps u] at at_
  exact at_

theorem cap_mapTable {f : LatchUnit → LatchUnit} {v : Vector LatchUnit 16} (keeps : ∀ u, (f u).cap = u.cap) (u : Fin 16) :
    (mapTable f v)[u].cap = v[u].cap := by
  rw [getElem_mapTable, keeps]

theorem cap_completeDone (exec : (w.arm a).exec = some b) (x : Status) (u : Fin 16) :
    (w.completeDone a x).latches[u].cap = w.latches[u].cap := by
  rw [latches_completeDone exec]
  exact cap_mapTable (cap_disarmOfBlock a false) u

/-- The next block of a queue, where its kind tells, is what the release test of a completion finds (R77). -/
theorem nextNeeds_completeDone (x : Status) : ∀ m, queueNeeds (w.arm a).queue = some m →
    ((w.writeExec a slotDone x none).ended a).nextNeedsZone a = m := by
  intro m needs
  refine nextNeedsZone_of_queueNeeds ?_ ?_ <;> rw [State.ended, State.arm_modArm_same, arm_writeExec]
  · rfl
  · exact needs

end

end Sys2Proof.Machine
end


section
/-! PROOF. A block that ends at a tick, and a stop that ends (R44, R53, R62 to R65). -/

namespace Sys2Proof.Machine

/-- A state of arm `a`'s tick after the exchange: the arm stands as `r`, and what a block's end looks at is as the exchange left
it. -/
structure State.MovedTo (s w : State) (first a : Arm) (rd : Duo (Tri Reading)) (r : ArmRec) : Prop where
  own : w.arm a = r
  other : w.arm a.other = s.besideTick first a rd
  core : w.core = (s.tickMoved first a rd).core
  zone : w.zone = s.zone
  shm : w.shm = s.shm
  lanes : w.lanes = s.lanes
  caps : ∀ u : Fin 16, w.latches[u].cap = (s.tickMoved first a rd).latches[u].cap

section
variable {s w : State} {first a : Arm} {rd : Duo (Tri Reading)} {b : Block} {r : ArmRec} {x : Status} {f : FaultCode}

theorem movedTo_setArm (s : State) (first a : Arm) (rd : Duo (Tri Reading)) (r : ArmRec) :
    s.MovedTo ((s.tickMoved first a rd).setArm a r) first a rd r := by
  obtain ⟨shm, lanes, zone, -⟩ := tickMoved_keeps s first a rd
  exact ⟨State.arm_setArm_same .., (State.arm_setArm_other ..).trans arm_tickMoved_other, rfl, zone, shm, lanes, fun _ => rfl⟩

theorem State.MovedTo.tick (h : s.MovedTo w first a rd r) : w.tickNo = s.tickNo + 1 := by
  obtain ⟨-, -, -, -, -, -, -, -, -, tick, -⟩ := tickMoved_keeps s first a rd
  exact (congrArg Core.tickNo h.core).trans tick

theorem State.MovedTo.settings (h : s.MovedTo w first a rd r) : w.settings = s.settings := by
  obtain ⟨-, -, -, -, settings, -⟩ := tickMoved_keeps s first a rd
  exact (congrArg Core.settings h.core).trans settings

theorem State.MovedTo.corr (h : s.MovedTo w first a rd r) : w.corr = s.corr := by
  obtain ⟨-, -, -, corr, -⟩ := tickMoved_keeps s first a rd
  exact (congrArg Core.corr h.core).trans corr

theorem State.MovedTo.pending (h : s.MovedTo w first a rd r) (calm : s.calm = true) : w.corr.swapPending = false := by
  rw [h.corr]
  exact swapPending_of_calm calm

/-- A state with one unit disarmed, or otherwise changed but for its record. -/
theorem State.MovedTo.setUnit (h : s.MovedTo w first a rd r) {u : Fin 16} {l : LatchUnit} (cap : l.cap = w.latches[u].cap) :
    s.MovedTo (w.setUnit u l) first a rd r := by
  refine ⟨h.own, h.other, h.core, h.zone, h.shm, h.lanes, fun i => ?_⟩
  rw [← h.caps i]
  show (w.latches.set u l)[i].cap = _
  rcases eq_or_ne i u with rfl | ne
  · simpa using cap
  · have apart : u.val ≠ i.val := fun e => ne (Fin.ext e.symm)
    simp [apart]

theorem State.MovedTo.slotFits (h : s.MovedTo w first a rd r) {c : SlotCopy} (fits : s.slotFits a c) :
    w.shm.wf = true ∧ (w.lanes.get a).slotBase c.index + 32 ≤ 65536 := by
  obtain ⟨wf, low, -⟩ := fits
  rw [h.shm, h.lanes]
  exact ⟨wf, low⟩

/-- The block of the arm ends DONE at the tick (R44, R53). -/
theorem tick_completes (meets : s.meetsTick a rd = true) (commit : ∀ b, (s.arm a).exec = some b → s.atCommitPoint a b = false)
    (may : s.mayRelease first a) (h : s.MovedTo w first a rd r) (ends : (s.tickMoved first a rd).motionEnd a = w.completeDone a x)
    (exec : r.exec = some b) (fits : s.slotFits a b.slot) :
    ∃ t, Machine.exec (.tick first rd) s = .next t ∧ s.tickedTest t a rd r.cmd (queueNeeds r.queue) ∧
      t.arm a = (w.completeDone a x).arm a ∧ (t.arm a).rests r.between r.cmd r.axes ∧
      (t.lanes.get a).paused = (s.lanes.get a).paused ∧ t.noted (laneNotice a) ∧
      t.slotSays a b.slot slotDone (x.code + b.flags.bits) (s.tickNo + 1) ∧
      (∀ ws more, w.resultWords a b = ws ++ more → ws.length ≤ 12 → t.slotGives a b.slot ws) ∧ t.tables = w.tables := by
  obtain ⟨calm, -⟩ := meetsTick_iff.1 meets
  obtain ⟨wf, low⟩ := h.slotFits fits
  have ownExec : (w.arm a).exec = some b := by rw [h.own]; exact exec
  have core := core_completeDone w a x
  have releases := releases_completeDone x (sameZone_of_eq (s := s) h.zone) h.other (calm_besideTick calm) (h.pending calm) h.settings
  obtain ⟨t, step, tested, own, shm, lanes, unit, tables⟩ := exec_tick_release (v := r.cmd) meets commit may ends releases
    (by rw [State.ended, State.arm_modArm_same, arm_writeExec, h.own]; rfl)
    (fun m needs => nextNeeds_completeDone x m (by rw [h.own]; exact needs))
    (spares_of (core.trans h.core) fun u => (cap_completeDone ownExec x u).trans (h.caps u))
  have arm := arm_completeDone_same w a x
  rw [h.own] at arm
  have told := slotSays_completeDone ownExec wf low x
  rw [h.tick] at told
  have kept : (w.completeDone a x).keepsSlot t a b.slot.index := keepsSlot_of_eq shm (by rw [lanes])
  refine ⟨t, step, tested, own, ?_, ?_, noted_of_unit unit (noted_completeDone_lane (by rw [ownExec]; nofun) x), kept.slotSays told,
    fun ws more words few => kept.slotGives few (slotGives_completeDone ownExec wf low few words x), ?_⟩
  · rw [own, arm]
    exact ⟨rfl, rfl, rfl, rfl, rfl, rfl⟩
  · rw [lanes, State.completeDone, lanes_afterDone_paused, lanes_writeExec, h.lanes]
  · rw [tables, tables_completeDone]

end

/-! ## The end of a stop (R62 to R64, R66) -/

section
variable {s w : State} {a : Arm} {b d : Block} {cause : Cause}

theorem latches_stopEnded (exec : (w.arm a).exec = some b) (st : Nat) (x : Status) (f : Option FaultCode) :
    (w.stopEnded a st x f).latches = mapTable (LatchUnit.disarmOfBlock a false) w.latches := by
  rw [State.stopEnded, latches_writeCommitted, writeExec_some (by rw [arm_settleChange_same]; exact exec)]
  show mapTable _ (w.settleChange a).latches = _
  rw [latches_settleChange]

theorem latches_endStopping (by_ : (w.arm a).cause = some cause) (exec : (w.arm a).exec = some b) :
    (w.endStopping a).latches = mapTable (LatchUnit.disarmOfBlock a false) w.latches := by
  cases cause with
  | abort =>
    rw [endStopping_abort by_, latches_applyProbeLost, afterDone_eq, latches_fill, State.modArm_latches, latches_releaseTest]
    exact latches_stopEnded exec ..
  | stopLine =>
    rw [endStopping_fault by_ rfl, enterFault_eq, latches_applyProbeLost, latches_releaseTest]
    exact latches_stopEnded exec ..
  | fault f =>
    rw [endStopping_fault by_ rfl, enterFault_eq, latches_applyProbeLost, latches_releaseTest]
    exact latches_stopEnded exec ..

/-- The tables after a stop: those of the settlement, a noted loss of the probe acted on after it (R130, R150). -/
theorem tables_endStopping (by_ : (w.arm a).cause = some cause) : (w.endStopping a).tables =
    if (w.arm a).probeLost then (w.settleChange a).tables.detached (w.arm a).settledMounted else (w.settleChange a).tables := by
  have ended (st : Nat) (x : Status) (f : Option FaultCode) : (w.stopEnded a st x f).tables = (w.settleChange a).tables := by
    simp [State.stopEnded]
  have faults (f : FaultCode) : (((w.stopEnded a slotFaulted .none (some f)).ended a).enterFault a f).tables =
      if (w.arm a).probeLost then (w.settleChange a).tables.detached (w.arm a).settledMounted else (w.settleChange a).tables := by
    rw [enterFault_eq, tables_applyProbeLost, arm_releaseTest_same, tables_releaseTest, State.faulting, arm_setNotice,
      State.arm_modArm_same, State.ended, State.arm_modArm_same, arm_stopEnded_same]
    show (if (w.arm a).probeLost = true then Tables.detached (w.stopEnded a slotFaulted .none (some f)).tables _ else
      (w.stopEnded a slotFaulted .none (some f)).tables) = _
    rw [ended]
    rfl
  cases cause with
  | abort =>
    have after : ((w.stopEnded a slotDone .aborted none).afterDone a).tables = (w.settleChange a).tables := by
      rw [afterDone_eq, tables_fill, State.modArm_tables, tables_releaseTest, State.ended, State.modArm_tables, ended]
    rw [endStopping_abort by_, tables_applyProbeLost, after, arm_afterDone_same, arm_stopEnded_same]
    rfl
  | stopLine =>
    rw [endStopping_fault by_ rfl]
    exact faults _
  | fault f =>
    rw [endStopping_fault by_ rfl]
    exact faults _

/-- The header of the slot of a committed block that a stop has ended (R62 to R64, R159). -/
theorem slotSays_stopEnded_committed (committed : (s.arm a).committed = some d) (wf : s.shm.wf = true)
    (fits : (s.lanes.get a).slotBase d.slot.index + 32 ≤ 65536) (st : Nat) (x : Status) (f : Option FaultCode) :
    (s.stopEnded a st x f).slotSays a d.slot st (x.code + faultCodeOf f * 256 + d.flags.bits) s.tickNo := by
  let u : State := (s.settleChange a).writeExec a st x f
  have wfU : u.shm.wf = true := wf_writeExec (wf_settleChange wf a) st x f
  have written := slotSays_writeBlock (s := u) (a := a) (b := d) wfU (by simpa [u] using fits) st x f (u.resultWords a d)
  rw [show u.tickNo = s.tickNo from congrArg Core.tickNo ((core_writeExec ..).trans (core_settleChange ..))] at written
  rw [State.stopEnded, writeCommitted_some (b := d) (by simpa using committed)]
  exact written

/-- The headers of the slots of both blocks at the end of a stop by an abort (R62). -/
theorem slotSays_endStopping_abort_of {c : SlotCopy} {info : Nat} (by_ : (s.arm a).cause = some .abort) (wf : s.shm.wf = true)
    (written : (s.stopEnded a slotDone .aborted none).slotSays a c slotDone info s.tickNo) :
    (s.endStopping a).slotSays a c slotDone info s.tickNo := by
  rw [endStopping_abort by_]
  have done := slotSays_afterDone (wf_stopEnded wf a _ _ _) (by decide) (by decide) written
  exact (keepsSlot_of_eq (shm_applyProbeLost _ a) (by rw [lanes_applyProbeLost])).slotSays done

theorem slotSays_endStopping_fault_of {c : SlotCopy} {f : FaultCode} {info : Nat} (by_ : (s.arm a).cause = some cause)
    (code : cause.fault? = some f)
    (written : (s.stopEnded a slotFaulted .none (some f)).slotSays a c slotFaulted info s.tickNo) :
    (s.endStopping a).slotSays a c slotFaulted info s.tickNo := by
  rw [endStopping_fault by_ code]
  refine (keepsSlot_of_eq ?_ ?_).slotSays written
  · simp [State.enterFault, State.ended, State.setNotice]
  · simp [State.ended]

end

section
variable {s w pre post : State} {first a : Arm} {rd : Duo (Tri Reading)} {b : Block} {r : ArmRec} {cause : Cause} {f : FaultCode}

/-- The slot of a block says how a stop with a cause has ended it (R62 to R64). -/
def State.stopSays (t : State) (a : Arm) (b : Block) (cause : Cause) (tick : Word) : Prop :=
  match cause.fault? with
  | none => t.slotSays a b.slot slotDone (4 + b.flags.bits) tick
  | some f => t.slotSays a b.slot slotFaulted (f.code * 256 + b.flags.bits) tick

/-- What the end of a stop leaves of the arm's lane, its notices and its slots (R62 to R64). -/
structure State.StopEnds (w t : State) (a : Arm) (b : Block) (cause : Cause) : Prop where
  rests : (t.arm a).rests (if cause.fault? = none then (w.arm a).between else .fault) (w.arm a).cmd (w.arm a).axes
  fault : ∀ f, cause.fault? = some f → (t.arm a).lastFault = some f ∧ t.noted (faultNotice a)
  paused : (t.lanes.get a).paused = (w.lanes.get a).paused
  lane : t.noted (laneNotice a)
  mounted : (t.arm a).mounted = if (w.arm a).probeLost then .none else (w.arm a).settledMounted
  tables : t.tables =
    if (w.arm a).probeLost then (w.settleChange a).tables.detached (w.arm a).settledMounted else (w.settleChange a).tables
  ended : t.stopSays a b cause w.tickNo
  committed : ∀ d, (w.arm a).committed = some d → (w.lanes.get a).slotBase d.slot.index + 32 ≤ 65536 →
    t.stopSays a d cause w.tickNo

theorem stopEnds_endStopping (by_ : (w.arm a).cause = some cause) (exec : (w.arm a).exec = some b) (wf : w.shm.wf = true)
    (fits : (w.lanes.get a).slotBase b.slot.index + 32 ≤ 65536)
    (apart : ∀ d, (w.arm a).committed = some d → d.slot.index ≠ b.slot.index) :
    w.StopEnds (w.endStopping a) a b cause := by
  have tables := tables_endStopping by_
  have some_exec : (w.arm a).exec ≠ none := by rw [exec]; nofun
  cases code : cause.fault? with
  | none =>
    have by_ : (w.arm a).cause = some .abort := by
      cases cause with
      | abort => exact by_
      | stopLine => cases code
      | fault f => cases code
    have arm := arm_endStopping_abort by_
    refine ⟨?_, fun f e => (nomatch code.symm.trans e), ?_, ?_, ?_, tables, ?_, fun d committed low => ?_⟩
    · rw [arm, if_pos code]
      exact ⟨rfl, rfl, rfl, rfl, rfl, rfl⟩
    · rw [endStopping_abort by_, lanes_applyProbeLost, lanes_afterDone_paused, lanes_stopEnded]
    · rw [endStopping_abort by_]
      exact noted_applyProbeLost (noted_afterDone (noted_stopEnded_lane some_exec) a) a
    · rw [arm]
    · unfold State.stopSays
      rw [code]
      exact slotSays_endStopping_abort by_ exec wf fits apart
    · unfold State.stopSays
      rw [code]
      have written := slotSays_stopEnded_committed committed wf low slotDone .aborted none
      exact slotSays_endStopping_abort_of by_ wf (by simpa [Status.code, faultCodeOf] using written)
  | some f =>
    have arm := arm_endStopping_fault by_ code
    refine ⟨?_, fun g e => ?_, ?_, ?_, ?_, tables, ?_, fun d committed low => ?_⟩
    · rw [code, if_neg (show ¬ (some f = none) from nofun), arm]
      exact ⟨rfl, rfl, rfl, rfl, rfl, rfl⟩
    · obtain rfl : f = g := Option.some.inj (code.symm.trans e)
      rw [arm, endStopping_fault by_ code]
      exact ⟨rfl, noted_enterFault_fault _ a f⟩
    · rw [endStopping_fault by_ code, lanes_enterFault, State.ended, State.modArm_lanes, lanes_stopEnded]
    · rw [endStopping_fault by_ code]
      exact noted_enterFault ((noted_modArm a _).2 (noted_stopEnded_lane some_exec)) a f
    · rw [arm]
    · unfold State.stopSays
      rw [code]
      exact slotSays_endStopping_fault by_ code exec wf fits apart
    · unfold State.stopSays
      rw [code]
      have written := slotSays_stopEnded_committed committed wf low slotFaulted .none (some f)
      exact slotSays_endStopping_fault_of by_ code (by simpa [Status.code, faultCodeOf] using written)

/-- What a state says of a stop is carried by its own arm, lanes, notices, tables and memory. -/
theorem State.StopEnds.carried {e t : State} (h : w.StopEnds e a b cause) (own : t.arm a = e.arm a) (shm : t.shm = e.shm)
    (lanes : t.lanes = e.lanes) (unit : t.unit = e.unit) (tables : t.tables = e.tables) : w.StopEnds t a b cause := by
  obtain ⟨rests, fault, paused, lane, mounted, tabled, ended, committed⟩ := h
  have said (d : Block) (told : e.stopSays a d cause w.tickNo) : t.stopSays a d cause w.tickNo := by
    unfold State.stopSays at told ⊢
    have kept : e.keepsSlot t a d.slot.index := keepsSlot_of_eq shm (by rw [lanes])
    split at told
    next none => exact kept.slotSays told
    next f some => exact kept.slotSays told
  refine ⟨own ▸ rests, fun f e => ?_, lanes ▸ paused, noted_of_unit unit lane, own ▸ mounted, tables.trans tabled, said b ended,
    fun d has low => said d (committed d has low)⟩
  obtain ⟨last, noted⟩ := fault f e
  exact ⟨own ▸ last, noted_of_unit unit noted⟩

/-- The stop of the arm ends at the tick (R62 to R64). -/
theorem tick_stopEnds (meets : s.meetsTick a rd = true) (commit : ∀ b, (s.arm a).exec = some b → s.atCommitPoint a b = false)
    (may : s.mayRelease first a) (h : s.MovedTo w first a rd r) (ends : (s.tickMoved first a rd).motionEnd a = w.endStopping a)
    (by_ : r.cause = some cause) (exec : r.exec = some b) (fits : s.slotFits a b.slot)
    (apart : ∀ d, r.committed = some d → d.slot.index ≠ b.slot.index) :
    ∃ t, Machine.exec (.tick first rd) s = .next t ∧
      s.tickedTest t a rd r.cmd (if cause.fault? = none then queueNeeds r.queue else some false) ∧ w.StopEnds t a b cause := by
  obtain ⟨calm, -⟩ := meetsTick_iff.1 meets
  obtain ⟨wf, low⟩ := h.slotFits fits
  have ownExec : (w.arm a).exec = some b := by rw [h.own]; exact exec
  have ownCause : (w.arm a).cause = some cause := by rw [h.own]; exact by_
  have spares : s.SparesOther (w.endStopping a) first a rd :=
    spares_of ((core_endStopping w a).trans h.core) fun u => by
      rw [latches_endStopping ownCause ownExec, ← h.caps u]
      exact cap_mapTable (cap_disarmOfBlock a false) u
  have stops := stopEnds_endStopping ownCause ownExec wf low fun d has => apart d (by rw [← h.own]; exact has)
  have beside := calm_besideTick (s := s) (first := first) (a := a) (rd := rd) calm
  cases code : cause.fault? with
  | none =>
    have ownCause : (w.arm a).cause = some .abort := by
      cases cause with
      | abort => exact ownCause
      | stopLine => cases code
      | fault f => cases code
    have releases := releases_endStopping_abort ownCause (sameZone_of_eq (s := s) h.zone) h.other beside (h.pending calm) h.settings
    obtain ⟨t, step, tested, own, shm, lanes, unit, tables⟩ := exec_tick_release (v := r.cmd)
      (needs := if (none : Option FaultCode) = none then queueNeeds r.queue else some false) meets commit may ends releases
      (by rw [State.ended, State.arm_modArm_same, arm_stopEnded_same, h.own]; rfl) (fun m needs => by
        rw [if_pos rfl] at needs
        refine nextNeedsZone_of_queueNeeds ?_ ?_ <;> rw [State.ended, State.arm_modArm_same, arm_stopEnded_same, h.own]
        · rfl
        · exact needs) spares
    exact ⟨t, step, tested, stops.carried own shm lanes unit tables⟩
  | some f =>
    have releases := releases_endStopping_fault ownCause code (sameZone_of_eq (s := s) h.zone) h.other beside (h.pending calm)
      h.settings
    obtain ⟨t, step, tested, own, shm, lanes, unit, tables⟩ := exec_tick_release (v := r.cmd)
      (needs := if (some f : Option FaultCode) = none then queueNeeds r.queue else some false) meets commit may ends releases
      (by rw [State.faulting, arm_setNotice, State.arm_modArm_same, State.ended, State.arm_modArm_same, arm_stopEnded_same, h.own]
          rfl) (fun m needs => by
        rw [if_neg nofun] at needs
        exact Option.some.inj needs) spares
    exact ⟨t, step, tested, stops.carried own shm lanes unit tables⟩

end

end Sys2Proof.Machine
end


section
/-! PROOF. A fault of the following comparison (R55, R56, R66, R69). -/

namespace Sys2Proof.Machine

/-! ## The nearest way out of a box (R69) -/

theorem foldl_nearer (d : Exit) (es : List Exit) : ∀ e, ∃ k, k ≤ es.length ∧ es.foldl Exit.nearer e = (e :: es).getD k d ∧
    (∀ j, j ≤ es.length → ((e :: es).getD k d).dist ≤ ((e :: es).getD j d).dist) ∧
      ∀ j, j < k → ((e :: es).getD k d).dist < ((e :: es).getD j d).dist := by
  induction es with
  | nil => exact fun e => ⟨0, Nat.le_refl 0, rfl, fun j low => by rw [Nat.le_zero.1 low], fun j low => absurd low (Nat.not_lt_zero j)⟩
  | cons x xs ih =>
    intro e
    by_cases near : x.dist < e.dist
    · obtain ⟨k, low, found, least, before⟩ := ih x
      have head := least 0 (Nat.zero_le _)
      refine ⟨k + 1, Nat.succ_le_succ low, ?_, fun j bound => ?_, fun j bound => ?_⟩
      · rw [List.foldl_cons, show Exit.nearer e x = x from if_pos near]
        exact found
      · cases j with
        | zero => exact Nat.le_of_lt (Nat.lt_of_le_of_lt head near)
        | succ j => exact least j (Nat.le_of_succ_le_succ bound)
      · cases j with
        | zero => exact Nat.lt_of_le_of_lt head near
        | succ j => exact before j (Nat.lt_of_succ_lt_succ bound)
    · obtain ⟨k, low, found, least, before⟩ := ih e
      have near : e.dist ≤ x.dist := Nat.not_lt.1 near
      have fold : (x :: xs).foldl Exit.nearer e = xs.foldl Exit.nearer e := by
        rw [List.foldl_cons, show Exit.nearer e x = e from if_neg (Nat.not_lt.2 near)]
      cases k with
      | zero =>
        refine ⟨0, Nat.zero_le _, fold.trans found, fun j bound => ?_, fun j bound => absurd bound (Nat.not_lt_zero j)⟩
        cases j with
        | zero => exact Nat.le_refl _
        | succ j =>
          cases j with
          | zero => exact near
          | succ j => exact least (j + 1) (Nat.le_of_succ_le_succ bound)
      | succ m =>
        have head := before 0 (Nat.succ_pos m)
        refine ⟨m + 2, Nat.succ_le_succ low, fold.trans found, fun j bound => ?_, fun j bound => ?_⟩
        · cases j with
          | zero => exact Nat.le_of_lt head
          | succ j =>
            cases j with
            | zero => exact Nat.le_trans (Nat.le_of_lt head) near
            | succ j => exact least (j + 1) (Nat.le_of_succ_le_succ bound)
        · cases j with
          | zero => exact head
          | succ j =>
            cases j with
            | zero => exact Nat.lt_of_lt_of_le head near
            | succ j => exact before (j + 1) (by omega)

/-- The ways out of a box, in the order of preference: how far each lies, and the position it gives (R69). -/
def Box.ways (box : Box) (counts v : Vec) : List (Int × Vec) :=
  [(|box.xlo - 1 - counts.x|, { v with x := box.xlo - 1 }), (|box.xhi + 1 - counts.x|, { v with x := box.xhi + 1 }),
    (|box.ylo - 1 - counts.y|, { v with y := box.ylo - 1 }), (|box.yhi + 1 - counts.y|, { v with y := box.yhi + 1 })]

theorem ways_getD (box : Box) (counts v : Vec) {k : Nat} (low : k < 4) : (box.ways counts v).getD k (0, v) =
    ((((box.exits counts v).getD k ⟨0, v⟩).dist : Int), ((box.exits counts v).getD k ⟨0, v⟩).pos) := by
  have natAbs (i : Int) : |i| = (i.natAbs : Int) := (Int.natCast_natAbs i).symm
  match k with
  | 0 => exact congrArg (·, _) (natAbs _)
  | 1 => exact congrArg (·, _) (natAbs _)
  | 2 => exact congrArg (·, _) (natAbs _)
  | 3 => exact congrArg (·, _) (natAbs _)

theorem evicted_nearest (box : Box) (counts v : Vec) : ∃ k, k < 4 ∧
    box.evicted counts v = ((box.ways counts v).getD k (0, v)).2 ∧
      (∀ j, j < 4 → ((box.ways counts v).getD k (0, v)).1 ≤ ((box.ways counts v).getD j (0, v)).1) ∧
        ∀ j, j < k → ((box.ways counts v).getD k (0, v)).1 < ((box.ways counts v).getD j (0, v)).1 := by
  obtain ⟨k, low, found, least, before⟩ := foldl_nearer ⟨0, v⟩ (box.exits counts v).tail ⟨(box.xlo - 1 - counts.x).natAbs,
    { v with x := box.xlo - 1 }⟩
  have low : k < 4 := Nat.lt_succ_of_le low
  refine ⟨k, low, ?_, fun j bound => ?_, fun j bound => ?_⟩
  · rw [ways_getD box counts v low]
    exact congrArg Exit.pos found
  · rw [ways_getD box counts v low, ways_getD box counts v bound]
    exact Int.ofNat_le.2 (least j (Nat.le_of_lt_succ bound))
  · rw [ways_getD box counts v low, ways_getD box counts v (Nat.lt_trans bound low)]
    exact Int.ofNat_lt.2 (before j bound)

section
variable {s w y : State} {first a : Arm} {rd : Tri Reading} {r : ArmRec} {f code : FaultCode} {v : Vec} {z : Zone} {cause : Cause}
  {b : Block}

/-! ## The fault is taken (R55, R56, R66) -/

/-- Where an axis lags or gives no reading, one of the two codes is taken (R55, R56). -/
theorem followingCode_of (fails : w.follows a rd = true ∨ State.silent rd = true) :
    ∃ f free, (f = .following ∧ w.follows a rd = true ∨ f = .driveSilent ∧ State.silent rd = true) ∧
      w.followingCode a rd = ({ w with free := free }, some f) := by
  unfold State.followingCode
  cases far : w.follows a rd <;> cases missing : State.silent rd
  · rw [far, missing] at fails
    rcases fails with e | e <;> cases e
  · exact ⟨.driveSilent, w.free, .inr ⟨rfl, rfl⟩, rfl⟩
  · exact ⟨.following, w.free, .inl ⟨rfl, rfl⟩, rfl⟩
  · cases Config.followingFirst w.free
    · exact ⟨.driveSilent, w.free + 1, .inr ⟨rfl, rfl⟩, rfl⟩
    · exact ⟨.following, w.free + 1, .inl ⟨rfl, rfl⟩, rfl⟩

/-- A tick whose axes do not all follow, and that ends nothing else, takes that fault (R55, R56). -/
theorem tickEnd_faulted {adv : Bool} (state : (w.arm a).state ≠ .fault)
    (fails : w.follows a rd = true ∨ State.silent rd = true) (going : (adv && w.motionEnds a) = false) :
    ∃ f free, (f = .following ∧ w.follows a rd = true ∨ f = .driveSilent ∧ State.silent rd = true) ∧
      w.tickEnd a rd adv = State.takeFollowing { w with free := free } a f := by
  have running : ((w.arm a).state != .fault) = true := bne_iff_ne.2 state
  have faulted : (w.follows a rd || State.silent rd) = true := Bool.or_eq_true_iff.2 fails
  obtain ⟨f, free, which, code⟩ := followingCode_of fails
  refine ⟨f, free, which, ?_⟩
  unfold State.tickEnd
  simp only [running, faulted, Bool.true_and, going, Bool.false_and, Bool.not_true, Bool.or_false, Bool.and_false,
    Bool.false_eq_true, if_false, Bool.and_self, if_true, code]

/-- The record of an arm that a following fault has brought to rest at a position (R55, R69). -/
def ArmRec.overtaken (r : ArmRec) (v : Vec) : ArmRec := { r with cmd := v, moving := false, seg := { r.seg with v := 0 } }

/-- The position that a following fault gives an arm (R55). -/
def State.countsWithin (w : State) (a : Arm) (r : ArmRec) : Vec :=
  if r.referenced then Tri.map2 AxisSet.nearest (w.armSet a).axes (r.axes.map AxisPort.count) else r.axes.map AxisPort.count

/-- The state once the fault has been taken, the zone settled: the arm has stopped at rest with its cause (R66). -/
def State.overtaken (w : State) (a : Arm) (r : ArmRec) (v : Vec) (z : Zone) (f : FaultCode) : State :=
  ((State.setArm { w with zone := z } a (r.overtaken v)).halted a (State.ArmRec.followingCause r f)).endStopping a

theorem takeFollowing_of (own : w.arm a = r)
    (zone : (w.setArm a { r with cmd := w.countsWithin a r }).followingZone a (r.axes.map AxisPort.count) =
      State.setArm { w with zone := z } a { r with cmd := v }) : w.takeFollowing a f = w.overtaken a r v z f := by
  have set : w.setpointsToCounts a = w.setArm a { r with cmd := w.countsWithin a r } := by
    unfold State.setpointsToCounts State.counts
    rw [modArm_eq_setArm, own]
    rfl
  have counts : w.counts a = r.axes.map AxisPort.count := by rw [State.counts, own]
  unfold State.takeFollowing State.followingFault
  rw [set, counts, zone]
  dsimp only
  rw [State.arm_setArm_same, modArm_setArm, enterStopping_rest (by rw [State.runsOn, State.arm_setArm_same]; rfl)]
  rfl

/-- The arm holds the grant already, is not referenced or stands outside its box: the zone is as it was (R69). -/
theorem followingZone_kept (apart : (r.referenced && !w.holdsGrant a && (w.zoneBox a).inside r.cmd) = false) (counts : Vec) :
    (w.setArm a r).followingZone a counts = State.setArm { w with zone := w.zone } a r := by
  unfold State.followingZone
  dsimp only
  rw [State.arm_setArm_same]
  exact if_neg (by rw [show (w.setArm a r).holdsGrant a = w.holdsGrant a from rfl,
    show (w.setArm a r).zoneBox a = w.zoneBox a from rfl, apart]; nofun)

theorem followingZone_taken (inside : (r.referenced && !w.holdsGrant a && (w.zoneBox a).inside r.cmd) = true)
    (free : w.zone.holder = none) (counts : Vec) : (w.setArm a r).followingZone a counts =
      State.setArm { w with zone := { w.zone with holder := some a, last := some a } } a r := by
  unfold State.followingZone
  dsimp only
  rw [State.arm_setArm_same]
  refine (if_pos inside).trans ?_
  rw [show (w.setArm a r).zone.holder = none from free]
  rfl

theorem followingZone_evicted (inside : (r.referenced && !w.holdsGrant a && (w.zoneBox a).inside r.cmd) = true) {x : Arm}
    (held : w.zone.holder = some x) (counts : Vec) : (w.setArm a r).followingZone a counts =
      State.setArm { w with zone := w.zone } a { r with cmd := (w.zoneBox a).evicted counts r.cmd } := by
  unfold State.followingZone
  dsimp only
  rw [State.arm_setArm_same]
  refine (if_pos inside).trans ?_
  rw [show (w.setArm a r).zone.holder = some x from held]
  show (w.setArm a r).modArm a _ = _
  rw [modArm_setArm]
  rfl

/-- The fault code of the cause with which a following fault ends the blocks (R66). -/
theorem followingCause_fault (r : ArmRec) (f : FaultCode) : ∃ code, (State.ArmRec.followingCause r f).fault? = some code := by
  unfold State.ArmRec.followingCause
  split
  · exact ⟨_, rfl⟩
  · exact ⟨_, rfl⟩
  · exact ⟨_, rfl⟩

end

/-! ## What the fault leaves (R64, R66, R69) -/

section
variable {s w : State} {a first : Arm} {r : ArmRec} {f code : FaultCode} {v : Vec} {z : Zone} {b : Block} {rd : Duo (Tri Reading)}

/-- The arm as its axes have overtaken it, before it stops for its cause. -/
def State.overtakenAt (w : State) (a : Arm) (r : ArmRec) (v : Vec) (z : Zone) : State :=
  State.setArm { w with zone := z } a (r.overtaken v)

theorem overtaken_eq (w : State) (a : Arm) (r : ArmRec) (v : Vec) (z : Zone) (f : FaultCode) : w.overtaken a r v z f =
    ((w.overtakenAt a r v z).halted a (State.ArmRec.followingCause r f)).endStopping a := rfl

theorem core_overtaken : (w.overtaken a r v z f).core = (w.overtakenAt a r v z).core := by
  rw [overtaken_eq, core_endStopping, core_halted]

theorem arm_overtaken (known : (State.ArmRec.followingCause r f).fault? = some code) :
    ((w.overtaken a r v z f).arm a).rests .fault v r.axes ∧ ((w.overtaken a r v z f).arm a).lastFault = some code := by
  have own : (w.overtakenAt a r v z).arm a = r.overtaken v := State.arm_setArm_same ..
  have stopped := arm_endStopping_fault (cause_halted (w.overtakenAt a r v z) a _) known
  rw [arm_halted_same, own] at stopped
  rw [overtaken_eq, stopped]
  exact ⟨⟨rfl, rfl, rfl, rfl, rfl, rfl⟩, rfl⟩

theorem paused_overtaken (known : (State.ArmRec.followingCause r f).fault? = some code) :
    ((w.overtaken a r v z f).lanes.get a).paused = true ∧ (w.overtaken a r v z f).noted (faultNotice a) := by
  rw [overtaken_eq, endStopping_fault (cause_halted ..) known]
  refine ⟨?_, noted_enterFault_fault _ a code⟩
  rw [lanes_enterFault, State.ended, State.modArm_lanes, lanes_stopEnded, lanes_halted, Duo.get_set_same]

/-- The header of the slot of the block that the fault has ended (R66, R159). -/
theorem slotSays_overtaken (known : (State.ArmRec.followingCause r f).fault? = some code) (exec : r.exec = some b)
    (single : r.committed = none) (wf : w.shm.wf = true) (fits : (w.lanes.get a).slotBase b.slot.index + 32 ≤ 65536) :
    (w.overtaken a r v z f).slotSays a b.slot slotFaulted (code.code * 256 + b.flags.bits) w.tickNo := by
  let y : State := w.overtakenAt a r v z
  have own : y.arm a = r.overtaken v := State.arm_setArm_same ..
  have halt := arm_halted_same y a (State.ArmRec.followingCause r f)
  rw [own] at halt
  have told := slotSays_endStopping_fault (cause_halted y a (State.ArmRec.followingCause r f)) known (b := b)
    (by rw [halt]; exact exec) (wf_halted (s := y) wf a _) (by rw [lanes_halted, Duo.get_set_same]; exact fits)
    fun d committed => by
      rw [halt] at committed
      cases single.symm.trans committed
  rw [show (y.halted a (State.ArmRec.followingCause r f)).tickNo = w.tickNo from congrArg Core.tickNo (core_halted y a (State.ArmRec.followingCause r f))] at told
  exact told

theorem cap_endStopping {cause : Cause} (by_ : (w.arm a).cause = some cause) (u : Fin 16) :
    (w.endStopping a).latches[u].cap = w.latches[u].cap := by
  have ended (st : Nat) (x : Status) (g : Option FaultCode) : (w.stopEnded a st x g).latches[u].cap = w.latches[u].cap := by
    cases exec : (w.arm a).exec with
    | none =>
      have same : (w.stopEnded a st x g).latches = w.latches := by
        rw [State.stopEnded, latches_writeCommitted, writeExec_none (by rw [arm_settleChange_same]; exact exec),
          latches_settleChange]
      rw [same]
    | some b =>
      rw [latches_stopEnded exec]
      exact cap_mapTable (cap_disarmOfBlock a false) u
  cases cause with
  | abort =>
    have same : (w.endStopping a).latches = (w.stopEnded a slotDone .aborted none).latches := by
      rw [endStopping_abort by_, latches_applyProbeLost, afterDone_eq, latches_fill, State.modArm_latches, latches_releaseTest]
      rfl
    rw [same, ended]
  | stopLine =>
    have same : (w.endStopping a).latches = (w.stopEnded a slotFaulted .none (some .stopLine)).latches := by
      rw [endStopping_fault by_ rfl, enterFault_eq, latches_applyProbeLost, latches_releaseTest]
      rfl
    rw [same, ended]
  | fault g =>
    have same : (w.endStopping a).latches = (w.stopEnded a slotFaulted .none (some g)).latches := by
      rw [endStopping_fault by_ rfl, enterFault_eq, latches_applyProbeLost, latches_releaseTest]
      rfl
    rw [same, ended]

theorem cap_overtaken (u : Fin 16) : (w.overtaken a r v z f).latches[u].cap = w.latches[u].cap := by
  rw [overtaken_eq, cap_endStopping (cause_halted ..), latches_halted]
  rfl

/-- The release test of the fault: nothing is handed on where no arm waits for the grant, or where the arm stands inside its
box (R69, R78). -/
theorem overtaken_released (known : (State.ArmRec.followingCause r f).fault? = some code) (calm : (w.arm a.other).calm)
    (pending : w.corr.swapPending = false)
    (kept : (w.overtakenAt a r v z).unasked a = true ∨ ¬ (w.overtakenAt a r v z).clears a v) :
    (w.overtaken a r v z f).arm a.other = w.arm a.other ∧ (w.overtaken a r v z f).calm = true ∧
      (w.overtakenAt a r v z).tested (w.overtaken a r v z f) a v (some false) := by
  let y : State := w.overtakenAt a r v z
  have releases := releases_endStopping_fault (s := y) (r := w.arm a.other) (cause_halted y a (State.ArmRec.followingCause r f)) known
    (sameZone_halted (sameZone_of_eq rfl) _) ((arm_halted_other y a _).trans (State.arm_setArm_other ..)) calm
    ((congrArg (fun c => c.corr.swapPending) (core_halted y a (State.ArmRec.followingCause r f))).trans pending)
    (congrArg Core.settings (core_halted y a (State.ArmRec.followingCause r f)))
  let pre : State := (((y.halted a (State.ArmRec.followingCause r f)).stopEnded a slotFaulted .none (some code)).ended a).faulting a code
  have cmd : (pre.arm a).cmd = v := by
    have own : y.arm a = r.overtaken v := State.arm_setArm_same ..
    simp only [pre]
    rw [State.faulting, arm_setNotice, State.arm_modArm_same, State.ended, State.arm_modArm_same, arm_stopEnded_same,
      arm_halted_same, own]
    rfl
  have result : (pre.releaseTest a false).arm a.other = w.arm a.other ∧ y.tested (pre.releaseTest a false) a v (some false) := by
    rcases kept with unasked | inside
    · have unasked : pre.unasked a = true := (unasked_of_sameZone releases.zone).trans unasked
      have tested := State.releaseTest_tested pre a false unasked
      rw [cmd] at tested
      exact ⟨(arm_releaseTest_other unasked false).trans releases.other, tested_of_sameZone releases.zone tested⟩
    · have inside : ¬ pre.clears a v := fun out => inside ((clears_of_sameZone releases.zone v).1 out)
      rw [releaseTest_inside (by rw [cmd]; exact inside)]
      exact ⟨releases.other, tested_of_sameZone releases.zone ⟨rfl, fun _ out => absurd out inside, fun _ => rfl⟩⟩
  obtain ⟨other, tested⟩ := result
  have otherE : (w.overtaken a r v z f).arm a.other = w.arm a.other := by rw [overtaken_eq, releases.otherAfter, other]
  refine ⟨otherE, calm_of_arms releases.pending releases.own (by rw [otherE]; exact calm), ?_⟩
  unfold State.tested at tested ⊢
  rw [overtaken_eq, releases.zoneAfter]
  exact tested

theorem motionEnds_underway (going : s.underway a = true) (own : w.arm a = s.tickedArm a (rd.get a)) : w.motionEnds a = false := by
  have moved : w.arm a = s.advancedArm a (rd.get a) := by rw [own, State.tickedArm, if_pos going]
  simp only [State.underway, Bool.and_eq_true, Bool.not_eq_true', Bool.and_eq_false_iff] at going
  obtain ⟨⟨-, atEnd⟩, fast⟩ := going
  unfold State.motionEnds
  rw [moved]
  simp only [State.advancedArm, atEnd, Bool.false_or]
  rcases fast with quick | fast
  · rw [ArmRec.slowing] at quick
    rw [quick, Bool.and_false]
  · rw [fast, Bool.false_and]

/-- The position that a following fault gives an arm depends on its settings alone (R55). -/
theorem countsWithin_eq (settings : w.settings = s.settings) : w.countsWithin a r = s.countsWithin a r := by
  unfold State.countsWithin State.armSet
  rw [settings]

/-- How a following fault settles the position and the zone: nothing but the position where the arm holds the grant, is not
referenced or is outside its box; else the grant is taken, or, with the other arm's grant, one component moved outside (R69). -/
structure State.ZoneSettled (s : State) (a : Arm) (r : ArmRec) (v : Vec) (z : Zone) : Prop where
  kept : (r.referenced && !s.holdsGrant a && (s.zoneBox a).inside (s.countsWithin a r)) = false →
    v = s.countsWithin a r ∧ z = s.zone
  taken : (r.referenced && !s.holdsGrant a && (s.zoneBox a).inside (s.countsWithin a r)) = true → s.zone.holder = none →
    v = s.countsWithin a r ∧ z = { s.zone with holder := some a, last := some a }
  evicted : (r.referenced && !s.holdsGrant a && (s.zoneBox a).inside (s.countsWithin a r)) = true → s.zone.holder ≠ none →
    v = (s.zoneBox a).evicted (r.axes.map AxisPort.count) (s.countsWithin a r) ∧ z = s.zone

theorem takeFollowing_settled (own : w.arm a = r) (zone : w.zone = s.zone) (settings : w.settings = s.settings) (f : FaultCode) :
    ∃ v z, s.ZoneSettled a r v z ∧ w.takeFollowing a f = w.overtaken a r v z f := by
  have at_ := countsWithin_eq (a := a) (r := r) settings
  have holds : w.holdsGrant a = s.holdsGrant a := by rw [State.holdsGrant, zone]; rfl
  have box : w.zoneBox a = s.zoneBox a := by rw [State.zoneBox, zone]; rfl
  let cond : Bool := r.referenced && !s.holdsGrant a && (s.zoneBox a).inside (s.countsWithin a r)
  have condW : (r.referenced && !w.holdsGrant a && (w.zoneBox a).inside (w.countsWithin a r)) = cond := by rw [at_, holds, box]
  cases inside : cond with
  | false =>
    refine ⟨s.countsWithin a r, s.zone, ⟨fun _ => ⟨rfl, rfl⟩, fun yes => absurd (inside.symm.trans yes) nofun,
      fun yes => absurd (inside.symm.trans yes) nofun⟩, ?_⟩
    refine takeFollowing_of own ?_
    rw [at_] at condW ⊢
    refine (followingZone_kept (r := { r with cmd := s.countsWithin a r }) (condW.trans inside) _).trans ?_
    exact congrArg (fun z => State.setArm { w with zone := z } a { r with cmd := s.countsWithin a r }) zone
  | true =>
    cases holder : s.zone.holder with
    | none =>
      refine ⟨s.countsWithin a r, { s.zone with holder := some a, last := some a }, ⟨fun no => absurd (inside.symm.trans no) nofun,
        fun _ _ => ⟨rfl, rfl⟩, fun _ held => absurd holder held⟩, ?_⟩
      refine takeFollowing_of own ?_
      rw [at_] at condW ⊢
      refine (followingZone_taken (r := { r with cmd := s.countsWithin a r }) (condW.trans inside) (by rw [zone, holder]) _).trans ?_
      rw [zone]
    | some x =>
      refine ⟨_, s.zone, ⟨fun no => absurd (inside.symm.trans no) nofun, fun _ none => absurd (holder.symm.trans none) nofun,
        fun _ _ => ⟨rfl, rfl⟩⟩, ?_⟩
      refine takeFollowing_of own ?_
      rw [at_] at condW ⊢
      refine (followingZone_evicted (r := { r with cmd := s.countsWithin a r }) (condW.trans inside)
        (by rw [zone, holder]) _).trans ?_
      rw [box]
      exact congrArg (fun z => State.setArm { w with zone := z } a _) zone

/-- Where the zone is settled the release test hands nothing on (R69). -/
theorem zoneSettled_kept (settled : s.ZoneSettled a r v z) (unasked : s.unasked a = true) :
    (w.overtakenAt a r v z).unasked a = true ∨ ¬ (w.overtakenAt a r v z).clears a v := by
  have same (zone : z = s.zone) : (w.overtakenAt a r v z).unasked a = true :=
    (unasked_of_sameZone (sameZone_of_eq (s := s) zone)).trans unasked
  cases cond : (r.referenced && !s.holdsGrant a && (s.zoneBox a).inside (s.countsWithin a r)) with
  | false => exact .inl (same (settled.kept cond).2)
  | true =>
    by_cases free : s.zone.holder = none
    · obtain ⟨at_, zone⟩ := settled.taken cond free
      right
      rw [State.clears_iff, zone, at_]
      simp only [Bool.and_eq_true] at cond
      intro out
      rw [show (w.overtakenAt a r (s.countsWithin a r) { s.zone with holder := some a, last := some a }).zoneBox a = s.zoneBox a
        from rfl, cond.2] at out
      cases out
    · exact .inl (same (settled.evicted cond free).2)

/-- A tick at which an axis of arm `a` lags or gives no reading (R55, R56, R69). -/
theorem exec_tick_following (calm : s.calm = true) (run : s.device = .run) (plain : s.plainTick a.other (rd.get a.other) = true)
    (underway : (s.underway a || !s.runs a) = true) (next : (s.arm a).state = .active → (s.arm a).due ≠ some .nextLeg)
    (state : (s.arm a).state ≠ .fault) (unasked : s.unasked a = true)
    (fails : ((s.tickStart first a rd).exchanged a (s.tickedArm a (rd.get a)) (rd.get a)).follows a (rd.get a) = true ∨
      State.silent (rd.get a) = true) : ∃ (w : State) (f : FaultCode) (v : Vec) (z : Zone),
    (f = .following ∧ ((s.tickStart first a rd).exchanged a (s.tickedArm a (rd.get a)) (rd.get a)).follows a (rd.get a) = true ∨
      f = .driveSilent ∧ State.silent (rd.get a) = true) ∧ s.ZoneSettled a (s.tickedArm a (rd.get a)) v z ∧
    w.tickNo = s.tickNo + 1 ∧ w.shm = s.shm ∧ w.lanes = s.lanes ∧ w.zone = s.zone ∧
    exec (.tick first rd) s = .next (s.tickRest (w.overtaken a (s.tickedArm a (rd.get a)) v z f) first a rd) ∧
    (w.overtaken a (s.tickedArm a (rd.get a)) v z f).arm a.other = s.besideTick first a rd ∧
    (w.overtakenAt a (s.tickedArm a (rd.get a)) v z).tested (w.overtaken a (s.tickedArm a (rd.get a)) v z f) a v (some false) := by
  let m : State := (s.tickStart first a rd).exchanged a (s.tickedArm a (rd.get a)) (rd.get a)
  obtain ⟨shm, lanes, zone, corr, settings, -, -, -, -, tick, -⟩ := tickStart_keeps s first a rd
  have own : m.arm a = s.tickedArm a (rd.get a) := arm_exchanged_same ..
  obtain ⟨g, p, keeps⟩ := tickedArm_keeps s a (rd.get a)
  have stays : (m.arm a).state ≠ .fault := by
    rw [own, keeps]
    exact state
  have going : (s.runs a && m.motionEnds a) = false := by
    rcases Bool.or_eq_true_iff.1 underway with yes | no
    · rw [motionEnds_underway (rd := rd) yes own, Bool.and_false]
    · rw [Bool.not_eq_true'] at no
      rw [no, Bool.false_and]
  obtain ⟨f, free, which, ends⟩ := tickEnd_faulted stays fails going
  let w : State := { m with free := free }
  obtain ⟨v, z, settled, taken⟩ := takeFollowing_settled (s := s) (w := w) own zone settings f
  obtain ⟨code, known⟩ := followingCause_fault (s.tickedArm a (rd.get a)) f
  have otherW : w.arm a.other = s.besideTick first a rd := (arm_exchanged_other (rd := rd.get a) ..).trans arm_tickStart_other
  have released := overtaken_released (w := w) (r := s.tickedArm a (rd.get a)) (v := v) (z := z) (f := f) known
    (by rw [otherW]; exact calm_besideTick calm)
    ((congrArg Correction.swapPending corr).trans (swapPending_of_calm (s := s) calm))
    (zoneSettled_kept settled unasked)
  obtain ⟨other, calmE, tested⟩ := released
  have event : (s.tickStart first a rd).tickArm a (rd.get a) = w.overtaken a (s.tickedArm a (rd.get a)) v z f := by
    rw [tickArm_eq (ticking_tickStart s first a rd) next (fun b exec => not_commit_of_plain underway exec)
      (not_near_of_plain underway), exchanged_underway (ticking_tickStart s first a rd) underway]
    exact ((congrArg State.settle (ends.trans taken)).trans (settle_of_calm calmE))
  refine ⟨w, f, v, z, which, settled, tick, shm, lanes, zone, exec_tick calm run plain event fun same => ⟨⟨?_, ?_, ?_, fun u at_ => ?_⟩,
    settled_of_calm calmE⟩, other.trans otherW, tested⟩
  · exact (other.trans otherW).trans (besideTick_first same)
  · exact (congrArg Core.settings core_overtaken).trans settings
  · exact (congrArg Core.tickNo core_overtaken).trans tick
  · rw [cap_overtaken] at at_
    exact captured_exchanged at_

end

end Sys2Proof.Machine
end


section
/-! PROOF. The tick (O46). -/

namespace Sys2Proof.Machine

section
variable {s w : State} {first a : Arm} {rd : Duo (Tri Reading)} {b : Block} {r : ArmRec}

/-! ## The readings of the following comparison (R55, R56) -/

theorem silent_iff (readings : Tri Reading) : State.silent readings = true ↔ ∃ x, readings.get x = none := by
  unfold State.silent
  simp only [List.any_cons, List.any_nil, Bool.or_false, Bool.or_eq_true, Option.isNone_iff_eq_none]
  constructor
  · rintro (e | e | e)
    · exact ⟨.X, e⟩
    · exact ⟨.Y, e⟩
    · exact ⟨.Z, e⟩
  · rintro ⟨x, e⟩
    cases x
    · exact .inl e
    · exact .inr (.inl e)
    · exact .inr (.inr e)

/-- An axis lags where its count lies beyond the limit from the position that the tick has sent (R55). -/
theorem follows_iff {readings : Tri Reading} {v : Vec} (settings : w.settings = s.settings) (own : w.arm a = r) (cmd : r.cmd = v)
    (axes : r.axes = portsAtTick (s.arm a).axes v readings) : w.follows a readings = true ↔
      ∃ x c, readings.get x = some c ∧
        ((s.armSet a).axes.get x).following < |r.cmd.get x - (c + ((s.arm a).axes.get x).offset)| := by
  have axis (x : Axis) : ((readings.get x).isSome && decide (((w.armSet a).axes.get x).following <
      (((((w.arm a).axes.get x).setpoint - ((w.arm a).axes.get x).count).natAbs : Nat) : Int))) = true ↔
        ∃ c, readings.get x = some c ∧
          ((s.armSet a).axes.get x).following < |r.cmd.get x - (c + ((s.arm a).axes.get x).offset)| := by
    have set : w.armSet a = s.armSet a := by rw [State.armSet, settings]; rfl
    rw [own, axes, set, cmd]
    cases e : readings.get x with
    | none => simp
    | some c =>
      have port : ((portsAtTick (s.arm a).axes v readings).get x).setpoint = v.get x ∧
          ((portsAtTick (s.arm a).axes v readings).get x).count = c + ((s.arm a).axes.get x).offset := by
        cases x <;> exact ⟨rfl, by simp only [portsAtTick, AxisPort.atTick, Tri.get] at e ⊢; rw [e]⟩
      rw [port.1, port.2, Int.natCast_natAbs]
      simp
  unfold State.follows
  simp only [List.any_cons, List.any_nil, Bool.or_false, Bool.or_eq_true, axis]
  constructor
  · rintro (e | e | e)
    · exact ⟨.X, e⟩
    · exact ⟨.Y, e⟩
    · exact ⟨.Z, e⟩
  · rintro ⟨x, e⟩
    cases x
    · exact .inl e
    · exact .inr (.inl e)
    · exact .inr (.inr e)

/-! ## A tick with no event of either arm (R54) -/

theorem exec_tick_plain (settled : s.settled = true) (run : s.device = .run) (plain : ∀ a, s.plainTick a (rd.get a) = true)
    (first : Arm) : exec (.tick first rd) s =
      .next ((({ s with tickNo := s.tickNo + 1 } : State).exchanged first (s.tickedArm first (rd.get first)) (rd.get first)).exchanged
        first.other (s.tickedArm first.other (rd.get first.other)) (rd.get first.other)) := by
  let w : State := { s with tickNo := s.tickNo + 1 }
  have ticking : s.Ticking w first := ⟨rfl, rfl, rfl, fun _ h => h⟩
  have settledW : w.settled = true := (settled_congr (s := s) (t := w) rfl rfl).trans settled
  have own := tickArm_plain ticking settledW (plain first)
  let u : State := w.exchanged first (s.tickedArm first (rd.get first)) (rd.get first)
  have ticking' : s.Ticking u first.other := by
    refine ⟨arm_exchanged_other .., rfl, rfl, fun i at_ => ?_⟩
    rw [getElem_exchanged] at at_
    obtain ⟨-, -, same | now⟩ := compareTest_settings (a := first) (rd := rd.get first) w.latches[i]
      ((s.tickedArm first (rd.get first)).axes.map AxisPort.count) w.tickNo
    · exact same.symm.trans at_
    · exact absurd (now.symm.trans at_) (word_succ_ne _)
  have settledU : u.settled = true := settled_exchanged settledW rfl (tickedArm_keeps' s first _)
  have other := tickArm_plain ticking' settledU (plain first.other)
  refine (congrArg Host.Outcome.next (if_pos run)).trans (congrArg Host.Outcome.next ?_)
  rw [State.tickBoth, own]
  exact other

/-! ## The end of a MOVE's segment (R53) -/

theorem not_brakes_moving {p : Phase} (phase : p = .moving) : p.brakes = false := by rw [phase]; rfl

/-- The next segment of a MOVE is due at the next tick, or becomes so as the arm is HELD (R53, R60). -/
theorem tick_moveNext (meets : s.meetsTick a rd = true) (exec : (s.arm a).exec = some b) (active : (s.arm a).state = .active)
    (phase : (s.arm a).phase = .moving) (single : (s.arm a).committed = none) (early : s.atCommitPoint a b = false)
    (atEnd : (s.advancedArm a (rd.get a)).seg.atEnd = true) (more : b.leg + 1 < b.targets.length) :
    ∃ t, Machine.exec (.tick first rd) s = .next t ∧ s.ticked t a rd ∧ t.shm = s.shm ∧
      t.arm a = { s.advancedArm a (rd.get a) with
        state := if (s.arm a).holdLevel then .held else .active
        holdPhase := if (s.arm a).holdLevel then some ((s.arm a).holdPhase.getD .moving) else (s.arm a).holdPhase
        holding := false
        moving := false
        due := some .nextLeg
        seg := { (s.advancedArm a (rd.get a)).seg with v := 0 }
        exec := some { b with leg := b.leg + 1 } } := by
  obtain ⟨calm, -⟩ := meetsTick_iff.1 meets
  let r : ArmRec := { (s.advancedArm a (rd.get a)).atEnd with exec := some { b with leg := b.leg + 1 }, due := some .nextLeg }
  let m : State := s.tickMoved first a rd
  have own : m.arm a = s.advancedArm a (rd.get a) := arm_tickMoved_same
  have commit : ∀ d, (s.arm a).exec = some d → s.atCommitPoint a d = false := fun d has => by
    obtain rfl := Option.some.inj (exec.symm.trans has)
    exact early
  have ends : m.motionEnd a = m.setArm a r := by
    rw [motionEnd_segEnd (by rw [own]; exact active) (by rw [own]; exact not_brakes_moving phase) (by rw [own]; exact atEnd)
      (by rw [own]; exact single), segEnd_moveNext (by rw [own]; exact exec) (by rw [own]; exact phase) more, own]
  have moved := movedTo_setArm s first a rd r
  have ahead : r.phase ≠ .waitSwap := by
    show (s.arm a).phase ≠ .waitSwap
    rw [phase]
    nofun
  cases level : (s.arm a).holdLevel with
  | false =>
    have calmE : (m.setArm a r).calm = true := by
      refine calm_of_arms (a := a) (moved.pending calm) ?_ ?_
      · rw [moved.own]
        exact calm_of_resting (.inr rfl) level ahead
      · rw [moved.other]
        exact calm_besideTick calm
    obtain ⟨step, ticked⟩ := exec_tick_quiet (e := m.setArm a r) meets commit
      ((congrArg State.settle ends).trans (settle_of_calm calmE)) (settled_of_calm calmE)
      (spares_of moved.core moved.caps) moved.other
    refine ⟨_, step, ticked, ?_, ?_⟩
    · obtain ⟨shm, -⟩ := tickRest_keeps s (m.setArm a r) first a rd
      exact shm.trans moved.shm
    · rw [arm_tickRest_same, moved.own]
      simp only [Bool.false_eq_true, if_false]
      rw [← active]
      rfl
  | true =>
    let r2 : ArmRec := { r with state := .held, holding := false, holdPhase := some (r.holdPhase.getD r.phase) }
    let e : State := (m.setArm a r2).disarmCaptures a
    have held := movedTo_setArm s first a rd r2
    have calmE : e.calm = true := by
      refine (calm_congr (s := m.setArm a r2) (t := e) rfl rfl).trans (calm_of_arms (a := a) (held.pending calm) ?_ ?_)
      · rw [held.own]
        exact calm_of_not_active nofun nofun
      · rw [held.other]
        exact calm_besideTick calm
    have settle : (m.setArm a r).settle = e := by
      have work : (m.setArm a r).armWork a = some e := by
        rw [armWork_held (by rw [moved.own]; exact active) (by rw [moved.own]; rfl) (by rw [moved.own]; exact level)
          (by rw [moved.own]; exact .inl nofun) (by rw [moved.own]; nofun), becomeHeld_setArm]
      refine settle_own (quietBut_of_calm (moved.pending calm) (by rw [moved.other]; exact calm_besideTick calm) ?_) work
        (settled_of_calm calmE)
      rw [moved.own]
      exact fun waits => ahead waits.2
    obtain ⟨step, ticked⟩ := exec_tick_quiet (e := e) meets commit ((congrArg State.settle ends).trans settle)
      (settled_of_calm calmE) (spares_of held.core fun u => cap_mapTable (cap_disarmOfBlock a true) u) held.other
    refine ⟨_, step, ticked, ?_, ?_⟩
    · obtain ⟨shm, -⟩ := tickRest_keeps s e first a rd
      exact shm.trans held.shm
    · rw [arm_tickRest_same]
      refine (arm_disarmCaptures ..).trans (held.own.trans ?_)
      have since : (s.arm a).holdPhase.getD .moving = r.holdPhase.getD r.phase := by
        rw [show r.phase = .moving from phase]
        rfl
      rw [if_pos rfl, if_pos rfl, since]
      rfl

/-- HOLDING that comes to rest before its end is HELD (R60). -/
theorem tick_held (meets : s.meetsTick a rd = true) (active : (s.arm a).state = .active)
    (holding : (s.arm a).holding = true) (phase : (s.arm a).phase.brakes = false)
    (rest : (s.advancedArm a (rd.get a)).seg.v = 0) (going : (s.advancedArm a (rd.get a)).seg.atEnd = false) :
    ∃ t, Machine.exec (.tick first rd) s = .next t ∧ s.ticked t a rd ∧ t.shm = s.shm ∧
      t.arm a = { s.advancedArm a (rd.get a) with
        state := .held, holding := false, holdPhase := some ((s.arm a).holdPhase.getD (s.arm a).phase) } ∧
      ∀ u : Fin 16, s.latches[u].alloc = some a → s.latches[u].mode = .capture → (∃ n, s.latches[u].armedBy = .block n) →
        t.latches[u] = s.latches[u].unarmed := by
  obtain ⟨calm, -, -, -, -, due, -⟩ := meetsTick_iff.1 meets
  let r : ArmRec := { s.advancedArm a (rd.get a) with
    state := .held, holding := false, holdPhase := some ((s.arm a).holdPhase.getD (s.arm a).phase) }
  let m : State := s.tickMoved first a rd
  have own : m.arm a = s.advancedArm a (rd.get a) := arm_tickMoved_same
  have commit : ∀ d, (s.arm a).exec = some d → s.atCommitPoint a d = false := fun d _ => by
    simp [State.atCommitPoint, holding]
  let e : State := (m.setArm a r).disarmCaptures a
  have moved := movedTo_setArm s first a rd r
  have ends : m.motionEnd a = e := by
    rw [motionEnd_hold (by rw [own]; exact active) (by rw [own]; exact holding) (by rw [own]; exact phase) (by rw [own]; exact rest)
      (by rw [own]; exact going), State.becomeHeld, modArm_eq_setArm, own]
    rfl
  have calmE : e.calm = true := by
    refine (calm_congr (s := m.setArm a r) (t := e) rfl rfl).trans (calm_of_arms (a := a) (moved.pending calm) ?_ ?_)
    · rw [moved.own]
      exact calm_of_not_active nofun (by rw [show r.due = none from due]; nofun)
    · rw [moved.other]
      exact calm_besideTick calm
  obtain ⟨step, ticked⟩ := exec_tick_quiet (e := e) meets commit ((congrArg State.settle ends).trans (settle_of_calm calmE))
    (settled_of_calm calmE) (spares_of moved.core fun u => cap_mapTable (cap_disarmOfBlock a true) u) moved.other
  refine ⟨_, step, ticked, ?_, ?_, fun u alloc mode armed => ?_⟩
  · obtain ⟨shm, -⟩ := tickRest_keeps s e first a rd
    exact shm.trans moved.shm
  · rw [arm_tickRest_same]
    exact (arm_disarmCaptures ..).trans moved.own
  · have before : m.latches[u] = s.latches[u] := latch_tickMoved (by rw [mode]; nofun)
    have disarmed : e.latches[u] = s.latches[u].unarmed := by
      rw [← disarmOfBlock_ours ⟨alloc, mode, armed⟩, ← before]
      exact getElem_mapTable ..
    rw [latch_tickRest, disarmed]
    rw [disarmed]
    exact .inr (by rw [show s.latches[u].unarmed.mode = _ from mode]; nofun)

/-- STOPPING goes on along the committed block's segment (R62). -/
theorem tick_crosses {h : Block} (meets : s.meetsTick a rd = true) (stopping : (s.arm a).state = .stopping)
    (committed : (s.arm a).committed = some h) (before : (s.arm a).crossed = false)
    (fast : (s.advancedArm a (rd.get a)).seg.v ≠ 0) (atEnd : (s.advancedArm a (rd.get a)).seg.atEnd = true) :
    ∃ t, Machine.exec (.tick first rd) s = .next t ∧ s.ticked t a rd ∧ t.shm = s.shm ∧
      t.arm a = { s.advancedArm a (rd.get a) with
        crossed := true
        seg := Seg.between (s.advancedArm a (rd.get a)).cmd (h.target 0) (s.feedOf a (h.slot.nat 4)) (s.feedOf a (h.slot.nat 4)) 0
          (s.advancedArm a (rd.get a)).seg.v } := by
  obtain ⟨calm, -, -, -, -, due, -⟩ := meetsTick_iff.1 meets
  let r : ArmRec := { s.advancedArm a (rd.get a) with
    crossed := true
    seg := Seg.between (s.advancedArm a (rd.get a)).cmd (h.target 0) (s.feedOf a (h.slot.nat 4)) (s.feedOf a (h.slot.nat 4)) 0
      (s.advancedArm a (rd.get a)).seg.v }
  let m : State := s.tickMoved first a rd
  obtain ⟨-, -, -, -, settings, -⟩ := tickMoved_keeps s first a rd
  have own : m.arm a = s.advancedArm a (rd.get a) := arm_tickMoved_same
  have commit : ∀ d, (s.arm a).exec = some d → s.atCommitPoint a d = false := fun d _ => by
    simp [State.atCommitPoint, stopping]
  have moved := movedTo_setArm s first a rd r
  have feed : m.feedOf a (h.slot.nat 4) = s.feedOf a (h.slot.nat 4) := by
    rw [State.feedOf, State.feedOf, State.armSet, State.armSet, settings]
  have ends : m.motionEnd a = m.setArm a r := by
    rw [motionEnd_crosses (h := h) (by rw [own]; exact stopping) (by rw [own]; exact committed) (by rw [own]; exact before)
      (by rw [own]; exact fast) (by rw [own]; exact atEnd), State.stopCrosses, modArm_eq_setArm, feed, own]
  have calmE : (m.setArm a r).calm = true := by
    refine calm_of_arms (a := a) (moved.pending calm) ?_ ?_
    · rw [moved.own]
      exact calm_of_not_active (by rw [show r.state = .stopping from stopping]; nofun) (by rw [show r.due = none from due]; nofun)
    · rw [moved.other]
      exact calm_besideTick calm
  obtain ⟨step, ticked⟩ := exec_tick_quiet (e := m.setArm a r) meets commit ((congrArg State.settle ends).trans (settle_of_calm calmE))
    (settled_of_calm calmE) (spares_of moved.core moved.caps) moved.other
  refine ⟨_, step, ticked, ?_, ?_⟩
  · obtain ⟨shm, -⟩ := tickRest_keeps s (m.setArm a r) first a rd
    exact shm.trans moved.shm
  · rw [arm_tickRest_same]
    exact moved.own

/-- The last waypoint of a MOVE as its result (R178). -/
theorem resultWords_move (passed : b.passed = true) (within : b.limitHit = none) (kind : b.slot.kind = some .move)
    (last : b.leg + 1 = b.targets.length) : w.resultWords a b = vecWords (b.target b.leg) := by
  have some_last : b.targets.getLast? = some (b.target b.leg) := by
    have low : b.leg < b.targets.length := by omega
    rw [List.getLast?_eq_getElem?, show b.targets.length - 1 = b.leg by omega, Block.target, List.getD_eq_getElem?_getD,
      List.getElem?_eq_getElem low]
    rfl
  unfold State.resultWords
  rw [if_neg (by rw [passed]; nofun), within]
  dsimp only
  rw [kind]
  dsimp only
  rw [some_last]

/-- The end of a MOVE's last segment completes it (R44, R53). -/
theorem tick_moveDone (meets : s.meetsTick a rd = true) (exec : (s.arm a).exec = some b) (active : (s.arm a).state = .active)
    (phase : (s.arm a).phase = .moving) (single : (s.arm a).committed = none) (early : s.atCommitPoint a b = false)
    (atEnd : (s.advancedArm a (rd.get a)).seg.atEnd = true) (last : b.leg + 1 = b.targets.length)
    (kind : b.slot.kind = some .move) (passed : b.passed = true) (within : b.limitHit = none) (fits : s.slotFits a b.slot)
    (may : s.mayRelease first a) : ∃ t, Machine.exec (.tick first rd) s = .next t ∧
      s.tickedTest t a rd (s.advancedArm a (rd.get a)).cmd (queueNeeds (s.arm a).queue) ∧
      (t.arm a).rests (s.arm a).between (s.advancedArm a (rd.get a)).cmd (s.advancedArm a (rd.get a)).axes ∧
      (t.lanes.get a).paused = (s.lanes.get a).paused ∧ t.unit.notices &&& (laneNotice a).one ≠ 0 ∧
      t.slotSays a b.slot slotDone (1 + b.flags.bits) (s.tickNo + 1) ∧
      t.slotGives a b.slot [intWord (b.target b.leg).x, intWord (b.target b.leg).y, intWord (b.target b.leg).z] := by
  let r : ArmRec := (s.advancedArm a (rd.get a)).atEnd
  have own : (s.tickMoved first a rd).arm a = s.advancedArm a (rd.get a) := arm_tickMoved_same
  have commit : ∀ d, (s.arm a).exec = some d → s.atCommitPoint a d = false := fun d has => by
    obtain rfl := Option.some.inj (exec.symm.trans has)
    exact early
  have moved := movedTo_setArm s first a rd r
  have ends : (s.tickMoved first a rd).motionEnd a = ((s.tickMoved first a rd).setArm a r).completeDone a .ok := by
    rw [motionEnd_segEnd (by rw [own]; exact active) (by rw [own]; exact not_brakes_moving phase) (by rw [own]; exact atEnd)
      (by rw [own]; exact single), segEnd_moveDone (b := b) (by rw [own]; exact exec) (by rw [own]; exact phase) last, own]
  obtain ⟨t, step, tested, -, rests, paused, noted, told, gives, -⟩ := tick_completes meets commit may moved ends
    (b := b) exec fits
  exact ⟨t, step, tested, rests, paused, noted, told,
    gives _ [] ((resultWords_move passed within kind last).trans (List.append_nil _).symm) (by decide : 3 ≤ 12)⟩

/-- The stop of an arm ends at the tick (R62 to R64). -/
theorem tick_stops {cause : Cause} (meets : s.meetsTick a rd = true) (stopping : (s.arm a).state = .stopping)
    (exec : (s.arm a).exec = some b) (by_ : (s.arm a).cause = some cause)
    (rest : (s.advancedArm a (rd.get a)).seg.v = 0 ∨
      ((s.advancedArm a (rd.get a)).seg.atEnd = true ∧ ((s.arm a).committed = none ∨ (s.arm a).crossed = true)))
    (fits : s.slotFits a b.slot) (may : s.mayRelease first a)
    (apart : ∀ d, (s.arm a).committed = some d → d.slot.index ≠ b.slot.index) :
    ∃ t, Machine.exec (.tick first rd) s = .next t ∧
      s.tickedTest t a rd (s.advancedArm a (rd.get a)).cmd
        (if cause.fault? = none then queueNeeds (s.arm a).queue else some false) ∧
      (s.tickMoved first a rd).StopEnds t a b cause := by
  have own : (s.tickMoved first a rd).arm a = s.advancedArm a (rd.get a) := arm_tickMoved_same
  obtain ⟨shm, lanes, zone, -⟩ := tickMoved_keeps s first a rd
  have moved : s.MovedTo (s.tickMoved first a rd) first a rd (s.advancedArm a (rd.get a)) :=
    ⟨own, arm_tickMoved_other, rfl, zone, shm, lanes, fun _ => rfl⟩
  have commit : ∀ d, (s.arm a).exec = some d → s.atCommitPoint a d = false := fun d _ => by
    simp [State.atCommitPoint, stopping]
  exact tick_stopEnds meets commit may moved
    (motionEnd_stopEnds (by rw [own]; exact stopping) (by rw [own]; exact rest)) by_ exec fits apart

end

/-! ## What a following fault leaves of the zone (R69) -/

section
variable {s w t : State} {a : Arm} {r : ArmRec} {v : Vec} {z : Zone} {f code : FaultCode}

/-- The cases in which a following fault settles the zone, in the model's own words (R69). -/
theorem trespass_iff : (r.referenced && !s.holdsGrant a && (s.zoneBox a).inside v) = true ↔
    (r.referenced = true ∧ (s.zone.boxes.get a).xlo ≤ v.x ∧ v.x ≤ (s.zone.boxes.get a).xhi ∧ (s.zone.boxes.get a).ylo ≤ v.y ∧
      v.y ≤ (s.zone.boxes.get a).yhi) ∧ s.zone.holder ≠ some a := by
  unfold State.holdsGrant Box.inside State.zoneBox
  simp only [Bool.and_eq_true, Bool.not_eq_true', beq_eq_false_iff_ne, decide_eq_true_eq]
  tauto

/-- The release test of an arm that has taken the grant, inside its box, keeps it (R69, R77). -/
theorem taken_keeps (settled : s.ZoneSettled a r v z)
    (inside : (r.referenced && !s.holdsGrant a && (s.zoneBox a).inside (s.countsWithin a r)) = true) (free : s.zone.holder = none)
    (tested : (w.overtakenAt a r v z).tested t a v (some false)) : t.zone.holder = some a ∧ t.zone.last = some a := by
  obtain ⟨at_, zone⟩ := settled.taken inside free
  obtain ⟨last, -, holder⟩ := tested
  have within : ¬ (w.overtakenAt a r v z).clears a v := by
    rw [State.clears_iff, show (w.overtakenAt a r v z).zoneBox a = s.zoneBox a by rw [zone]; rfl, at_]
    simp only [Bool.and_eq_true] at inside
    rw [inside.2]
    nofun
  have taken : (w.overtakenAt a r v z).zone = { s.zone with holder := some a, last := some a } := zone
  rw [taken] at last holder
  exact ⟨holder (.inr (.inl within)), last⟩

/-- The cause of a following fault of an arm that stops for the line or for a fault is that one, else the fault (R66). -/
theorem followingCause_code (known : (State.ArmRec.followingCause r f).fault? = some code) :
    (r.state = .stopping → r.cause = some .stopLine → code = .stopLine) ∧
      (∀ g, r.state = .stopping → r.cause = some (.fault g) → code = g) ∧
      ((r.state = .stopping → r.cause ≠ some .stopLine) → (∀ g, r.state = .stopping → r.cause ≠ some (.fault g)) → code = f) := by
  unfold State.ArmRec.followingCause at known
  split at known
  next state cause =>
    refine ⟨fun _ _ => (Option.some.inj known).symm, fun g _ e => ?_, fun line _ => absurd cause (line state)⟩
    cases cause.symm.trans e
  next g state cause =>
    refine ⟨fun _ e => ?_, fun g' _ e => ?_, fun _ fault => absurd cause (fault g state)⟩
    · cases cause.symm.trans e
    · cases cause.symm.trans e
      exact (Option.some.inj known).symm
  next line fault =>
    exact ⟨fun state e => (line state e).elim, fun g state e => (fault g state e).elim, fun _ _ => (Option.some.inj known).symm⟩

end

/-- Settles O46: a tick is the two arms' ticks in their order (`exec_tick_plain`, `exec_tick`); a tick with no event is
`tickArm_plain`, and where one arm has an event it is what the end of its advance brings, the other arm's tick beside it:
the end of a MOVE's segment (`tick_moveNext`, `tick_completes`), of a hold (`tick_held`), of a stop (`tick_crosses`,
`tick_stopEnds`), or the fault of an axis that does not follow (`exec_tick_following`). -/
theorem tickAdvancesAndEnds : Obligations.TickAdvancesAndEnds := by
  refine ⟨fun s first rd settled run plain => ?_, fun s first a rd calm run plain underway next state unasked => ?_,
    fun s first rd outside => congrArg Host.Outcome.next (if_neg outside), fun s first a rd b meets exec => ?_⟩
  · intro test
    rw [exec_tick_plain settled run plain]
    cases first <;> rfl
  · intro r counts far missing at_ box trespass ways way fails
    have underway : (s.underway a || !s.runs a) = true := by
      rcases underway with e | e <;> simp [e]
    obtain ⟨g, p, keeps⟩ := tickedArm_keeps s a (rd.get a)
    obtain ⟨-, -, -, -, settings, -⟩ := tickStart_keeps s first a rd
    let m : State := (s.tickStart first a rd).exchanged a r (rd.get a)
    have lags : m.follows a (rd.get a) = true ↔ far :=
      follows_iff (v := p) settings (arm_exchanged_same ..) (congrArg ArmRec.cmd keeps) (congrArg ArmRec.axes keeps)
    have silent : State.silent (rd.get a) = true ↔ missing := silent_iff _
    obtain ⟨w, f, v, z, which, zone, tick, shm, lanes, zoneW, step, other, tested⟩ :=
      exec_tick_following (first := first) calm run plain underway next state unasked (fails.imp lags.2 silent.2)
    obtain ⟨code, known⟩ := followingCause_fault r f
    obtain ⟨rests, last⟩ := arm_overtaken (w := w) (v := v) (z := z) known
    obtain ⟨paused, noted⟩ := paused_overtaken (w := w) (v := v) (z := z) known
    obtain ⟨shmT, lanesT, zoneT, -, unitT, tickT⟩ := tickRest_keeps s (w.overtaken a r v z f) first a rd
    have own : (s.tickRest (w.overtaken a r v z f) first a rd).arm a = (w.overtaken a r v z f).arm a := arm_tickRest_same
    rw [← own] at rests last
    obtain ⟨exec, committed, rest, fault, cmd, axes⟩ := rests
    have within : s.countsWithin a r = at_ := rfl
    have cond : (r.referenced && !s.holdsGrant a && (s.zoneBox a).inside (s.countsWithin a r)) = true ↔
        trespass ∧ s.zone.holder ≠ some a := trespass_iff
    have tested : (w.overtakenAt a r v z).tested (s.tickRest (w.overtaken a r v z f) first a rd) a v (some false) := by
      unfold State.tested at tested ⊢
      rw [zoneT]
      exact tested
    have state : r.state = (s.arm a).state ∧ r.cause = (s.arm a).cause := by
      rw [show r = _ from keeps]
      exact ⟨rfl, rfl⟩
    refine ⟨_, f, code, step, which.imp (And.imp_right lags.1) (And.imp_right silent.1), ?_,
      tickT.trans ((congrArg Core.tickNo core_overtaken).trans tick), ?_, fault, last, exec, committed, rest, axes,
      by rw [lanesT]; exact paused, noted_of_unit unitT noted, fun kept => ?_, fun inside free => ?_,
      fun inside held => ?_, fun b has single wf fits => ?_⟩
    · obtain ⟨line, fault, none⟩ := followingCause_code known
      rw [state.1, state.2] at line fault none
      split
      next state cause => exact line state cause
      next g state cause => exact fault g state cause
      next notLine notFault => exact none (fun state cause => notLine state cause) fun g state cause => notFault g state cause
    · obtain ⟨-, ticked⟩ := ticked_tickRest (first := first) (rd := rd) ((congrArg Core.tickNo core_overtaken).trans tick) other
      exact ticked
    · have apart : (r.referenced && !s.holdsGrant a && (s.zoneBox a).inside (s.countsWithin a r)) = false := by
        rw [Bool.eq_false_iff, ne_eq, cond]
        exact fun ⟨inside, free⟩ => kept.elim (fun out => out inside) free
      obtain ⟨at', zone⟩ := zone.kept apart
      have here : v = at_ := at'.trans within
      exact ⟨cmd.trans here, here ▸ tested_of_sameZone (sameZone_of_eq (s := s) zone) tested⟩
    · have yes := cond.2 ⟨inside, by rw [free]; nofun⟩
      exact ⟨cmd.trans (zone.taken yes free).1, taken_keeps zone yes free tested⟩
    · have other : s.zone.holder ≠ some a := by
        rw [held]
        exact fun e => a.other_ne (Option.some.inj e)
      obtain ⟨at', zone⟩ := zone.evicted (cond.2 ⟨inside, other⟩) (by rw [held]; nofun)
      obtain ⟨k, low, found, least, before⟩ := evicted_nearest (s.zoneBox a) counts at_
      obtain ⟨-, -, holder⟩ := tested_of_sameZone (sameZone_of_eq (s := s) (u := w.overtakenAt a r v z) zone) tested
      exact ⟨holder (.inl other), k, low, (cmd.trans at').trans found, least, before⟩
    · have single' : r.committed = none := by rw [show r = _ from keeps]; exact single
      have has' : r.exec = some b := by rw [show r = _ from keeps]; exact has
      have base : (w.lanes.get a).slotBase b.slot.index = (s.lanes.get a).slotBase b.slot.index := by rw [lanes]
      have told := slotSays_overtaken (w := w) (v := v) (z := z) known has' single' (by rw [shm]; exact wf) (by rw [base]; exact fits)
      obtain ⟨header, info, -⟩ := (keepsSlot_of_eq shmT (by rw [lanesT])).slotSays told
      have lane : ((s.tickRest (w.overtaken a r v z f) first a rd).lanes.get a).slotBase b.slot.index =
          (s.lanes.get a).slotBase b.slot.index := by
        rw [lanesT, ← base]
        exact congrArg (fun (base : Nat) => base + 32 * b.slot.index) (base_of_core core_overtaken a)
      rw [lane] at header info
      exact ⟨header, info⟩
  · intro r
    obtain ⟨calm, -, -, -, -, due, -⟩ := meetsTick_iff.1 meets
    refine ⟨fun active phase single early atEnd => ⟨fun more => tick_moveNext meets exec active phase single early atEnd more,
      fun last kind passed within fits may => tick_moveDone meets exec active phase single early atEnd last kind passed within fits may⟩,
      fun active holding phase rest going => tick_held meets active holding phase rest going,
      fun h stopping committed before fast atEnd => tick_crosses meets stopping committed before fast atEnd,
      fun cause stopping by_ rest paused fits may apart => ?_⟩
    obtain ⟨t, step, tested, ⟨rests, faulted, lane, noted, mounted, tables, ended, committed⟩⟩ :=
      tick_stops meets stopping exec by_ rest fits may apart
    obtain ⟨-, lanes, -, -, -, tablesM, -, -, -, tick, -⟩ := tickMoved_keeps s first a rd
    have own : (s.tickMoved first a rd).arm a = s.advancedArm a (rd.get a) := arm_tickMoved_same
    rw [tick] at ended committed
    rw [lanes] at lane committed
    rw [own] at rests mounted committed
    refine ⟨t, step, ?_, ?_, fun h has low => ?_, ?_, ?_, lane.trans paused, noted, fun same => ?_⟩
    · cases cause <;> exact ended
    · cases cause <;> exact tested
    · cases cause <;> exact committed h has low.2.1
    · cases cause <;> exact rests
    · cases cause <;> exact faulted
    · have changing : ((s.tickMoved first a rd).arm a).changing = false := by rw [own]; exact same
      have settled : (s.advancedArm a (rd.get a)).settledMounted = (s.arm a).mounted :=
        if_neg (by rw [show (s.advancedArm a (rd.get a)).changing = _ from same]; nofun)
      rw [settleChange_of_not changing, own, settled, tablesM] at tables
      rw [settled] at mounted
      refine ⟨fun kept => ?_, fun i lost at_ => ?_⟩
      · rw [show (s.advancedArm a (rd.get a)).probeLost = _ from kept] at tables mounted
        exact ⟨mounted, tables⟩
      · rw [show (s.advancedArm a (rd.get a)).probeLost = _ from lost] at tables mounted
        rw [at_] at tables
        exact ⟨mounted, tables⟩

end Sys2Proof.Machine
end


section
/-! PROOF. The start of a MOVE (R47, R48). -/

namespace Sys2Proof.Machine

/-! ## Steps 4 and 5 of a moving block -/

section
variable {s w : State} {a : Arm} {c : SlotCopy} {b b2 : Block} {k : Kind} {r : ArmRec} {x : Status}

/-- What a conversion gives the block that is bound by it (R14). -/
theorem bind_keeps (bound : (s.bind a b).2 = none) : ∃ conv, s.convert a b = some conv ∧
    (s.bind a b).1.targets = conv.targets ∧ (s.bind a b).1.slot = b.slot ∧ (s.bind a b).1.leg = b.leg := by
  unfold State.bind at bound ⊢
  cases e : s.convert a b with
  | none => simp [e] at bound
  | some conv =>
    simp only [e] at bound ⊢
    cases hit : limitCheck (s.armSet a).axes 0 conv.tested with
    | some n => simp [hit] at bound
    | none => exact ⟨conv, rfl, rfl, rfl, rfl⟩

theorem slot_bind (s : State) (a : Arm) (b : Block) : (s.bind a b).1.slot = b.slot := by
  unfold State.bind
  dsimp only
  split
  · rfl
  · split
    · rfl
    · rfl

/-- A moving block that the limit check passes is bound and goes on to its zone request (R47, R72). -/
theorem exec_start_bound (h : s.AtBoundary a c) (kind : c.kind = some k) (one : s.stepOne a c = .ok b)
    (two : s.stepTwo a b = .go b2) (moving : k = .move ∨ k = .qualify ∨ k = .changeProbe) (bound : (s.bind a b2).2 = none) :
    exec (startCommand a (some k)) s = .next
      (((s.takeHead a c).setArm a (s.taken a c (s.bind a b2).1)).requestZone a (s.bind a b2).1).settle := by
  have slot : b2.slot.kind = some k := by rw [(stepTwo_go ((stepOne_kind one).symm ▸ kind) two).2.1, stepOne_kind one, kind]
  rw [← kind, exec_start_boundary h one two]
  rw [passSwap_binds (by rw [taken_eq]) (taken_standing h).2.1 slot (by tauto), State.bindAndRequest,
    bind_congr (sameChecks_taken s a c b2), bound]
  simp only [modExec_setArm]
  have point : b2.slot.kind ≠ some .probePoint := by
    rw [slot]
    rcases moving with rfl | rfl | rfl <;> nofun
  rw [if_neg point]
  rfl

/-- Step 5 where no request is made: step 6 is due (R72). -/
theorem requestZone_passes (cmd : r.cmd = (s.arm a).cmd) (boxes : w.zone.boxes = s.zone.boxes) (holder : w.zone.holder = s.zone.holder)
    (passes : s.blockNeedsZone a (s.arm a).cmd b = false ∨ s.holdsGrant a = true) :
    (w.setArm a r).requestZone a b = w.setArm a { r with due := some .stepSix } := by
  have needs : (w.setArm a r).blockNeedsZone a ((w.setArm a r).arm a).cmd b = s.blockNeedsZone a (s.arm a).cmd b := by
    rw [State.arm_setArm_same, cmd]
    unfold State.blockNeedsZone State.sweepMeets State.zoneBox
    rw [show (w.setArm a r).zone.boxes = s.zone.boxes from boxes]
  have holds : (w.setArm a r).holdsGrant a = s.holdsGrant a := by
    unfold State.holdsGrant
    rw [show (w.setArm a r).zone.holder = s.zone.holder from holder]
  unfold State.requestZone
  rw [needs, holds, setDue_setArm]
  refine if_neg ?_
  rcases passes with no | yes
  · rw [no]
    nofun
  · rw [yes, Bool.not_true, Bool.and_false]
    nofun

theorem requestZone_asks (cmd : r.cmd = (s.arm a).cmd) (boxes : w.zone.boxes = s.zone.boxes) (holder : w.zone.holder = s.zone.holder)
    (needs : s.blockNeedsZone a (s.arm a).cmd b = true) (free : s.holdsGrant a = false) :
    (w.setArm a r).requestZone a b = (w.setArm a r).zoneRequest a := by
  have needs' : (w.setArm a r).blockNeedsZone a ((w.setArm a r).arm a).cmd b = true := by
    rw [← needs, State.arm_setArm_same, cmd]
    unfold State.blockNeedsZone State.sweepMeets State.zoneBox
    rw [show (w.setArm a r).zone.boxes = s.zone.boxes from boxes]
  have holds : (w.setArm a r).holdsGrant a = false := by
    rw [← free]
    unfold State.holdsGrant
    rw [show (w.setArm a r).zone.holder = s.zone.holder from holder]
  unfold State.requestZone
  rw [needs', holds]
  rfl

/-- A moving head that needs no further grant begins its step 6 (R72). -/
theorem exec_start_passes (h : s.AtBoundary a c) (kind : c.kind = some k) (one : s.stepOne a c = .ok b)
    (two : s.stepTwo a b = .go b2) (moving : k = .move ∨ k = .qualify ∨ k = .changeProbe) (bound : (s.bind a b2).2 = none)
    (passes : s.blockNeedsZone a (s.arm a).cmd (s.bind a b2).1 = false ∨ s.holdsGrant a = true) :
    exec (startCommand a (some k)) s = .next
      ((s.takeHead a c).setArm a { s.taken a c (s.bind a b2).1 with due := some .stepSix }).settle := by
  rw [exec_start_bound h kind one two moving bound, requestZone_passes (by rw [taken_eq]) (by rw [zone_takeHead])
    (by rw [zone_takeHead]) passes]

/-- A moving head that needs a grant which its arm does not hold stands with its request (R72). -/
theorem exec_start_asks (h : s.AtBoundary a c) (kind : c.kind = some k) (one : s.stepOne a c = .ok b)
    (two : s.stepTwo a b = .go b2) (moving : k = .move ∨ k = .qualify ∨ k = .changeProbe) (bound : (s.bind a b2).2 = none)
    (needs : s.blockNeedsZone a (s.arm a).cmd (s.bind a b2).1 = true) (free : s.holdsGrant a = false) :
    exec (startCommand a (some k)) s = .next
      (((s.takeHead a c).setArm a (s.taken a c (s.bind a b2).1)).zoneRequest a) := by
  obtain ⟨-, phase, -, due, level, -⟩ := taken_standing (b := (s.bind a b2).1) h
  have calm : ((s.takeHead a c).setArm a (s.taken a c (s.bind a b2).1)).calm = true :=
    calm_takeHead h (calm_of_resting (.inl due) level (by rw [phase]; nofun))
  rw [exec_start_bound h kind one two moving bound, requestZone_asks (by rw [taken_eq]) (by rw [zone_takeHead])
    (by rw [zone_takeHead]) needs free, settle_of_calm]
  exact (calm_congr (s := (s.takeHead a c).setArm a (s.taken a c (s.bind a b2).1))
    (t := ((s.takeHead a c).setArm a (s.taken a c (s.bind a b2).1)).zoneRequest a) rfl rfl).trans calm

/-! ## The first segment -/

/-- A segment of length 0 ends at once (R51). -/
theorem beginSeg_empty {stop : Vec} {feed : Nat} (empty : (s.segTo a r.cmd stop feed).len = 0) :
    (s.setArm a r).beginSeg a stop feed =
      s.setArm a { r with seg := s.segTo a r.cmd stop feed, moving := false, due := some .segEnd } := by
  have empty : (Seg.between r.cmd stop ((s.setArm a r).feedOf a feed) ((s.setArm a r).feedOf a feed) 0 0).len = 0 := empty
  unfold State.beginSeg State.beginSegTwo
  rw [modArm_setArm]
  dsimp only
  rw [if_pos empty]
  rfl

theorem beginLeg_move (exec : r.exec = some b) (kind : b.slot.kind = some .move) : (s.setArm a r).beginLeg a =
    (s.setArm a { r with phase := .moving }).beginSeg a (b.target b.leg) (b.slot.nat 4) := by
  unfold State.beginLeg
  simp only [State.arm_setArm_same, exec, kind]
  rw [setPhase_setArm, exec]

theorem stepSix_move (exec : r.exec = some b) (kind : b.slot.kind = some .move) :
    (s.setArm a r).stepSix a = (s.setArm a r).beginLeg a := by
  unfold State.stepSix
  simp only [State.arm_setArm_same, exec, kind]

/-- The result of a MOVE is that of its block alone (R178). -/
theorem words_setArm_move (kind : b.slot.kind = some .move) (r r' : ArmRec) :
    (w.setArm a r).resultWords a b = (w.setArm a r').resultWords a b := by
  unfold State.resultWords
  simp only [kind]

/-- The end of a block looks at what its arm leaves behind alone (R44): not at its segment, nor at what is due. -/
theorem completeDone_ended {r' : ArmRec} (exec : r.exec = some b) (exec' : r'.exec = some b) (ended : r.emptied = r'.emptied)
    (words : (w.setArm a r).resultWords a b = (w.setArm a r').resultWords a b) (x : Status) :
    (w.setArm a r).completeDone a x = (w.setArm a r').completeDone a x := by
  have written (q : ArmRec) (has : q.exec = some b) (words' : (w.setArm a q).resultWords a b = (w.setArm a r').resultWords a b) :
      ((w.setArm a q).writeExec a slotDone x none).ended a =
        ((w.writeBlock a b slotDone x none ((w.setArm a r').resultWords a b)).disarmBlock a).setArm a q.emptied := by
    rw [writeExec_some (b := b) (by rw [State.arm_setArm_same]; exact has), words', State.ended, modArm_eq_setArm]
    show (((w.writeBlock a b slotDone x none ((w.setArm a r').resultWords a b)).disarmBlock a).setArm a q).setArm a _ = _
    rw [State.setArm_setArm]
    congr 1
    show ArmRec.emptied ((State.setArm _ a q).arm a) = q.emptied
    rw [State.arm_setArm_same]
  unfold State.completeDone
  rw [afterDone_eq, afterDone_eq, written r exec words, written r' exec' rfl, ended]

/-! ## A MOVE starts (R48) -/

theorem beginDue_stepSix (w : State) (a : Arm) (r : ArmRec) :
    (w.setArm a r).beginDue a .stepSix = (w.setArm a { r with due := none }).stepSix a :=
  congrArg (fun t => State.stepSix t a) (modArm_setArm w a r _)

theorem beginDue_segEnd (w : State) (a : Arm) (r : ArmRec) :
    (w.setArm a r).beginDue a .segEnd = (w.setArm a { r with due := none }).segEnd a :=
  congrArg (fun t => State.segEnd t a) (modArm_setArm w a r _)

/-- The step 6 of a MOVE of one segment of length 0 completes it (R48, R51, R53). -/
theorem settle_stepSix_empty (quiet : ∀ q : ArmRec, q.phase ≠ .waitSwap → (w.setArm a q).quietBut a) (exec : r.exec = some b)
    (kind : b.slot.kind = some .move) (active : r.state = .active) (phase : r.phase ≠ .waitSwap) (rest : r.moving = false)
    (level : r.holdLevel = false) (single : b.leg + 1 = b.targets.length)
    (empty : (w.segTo a r.cmd (b.target b.leg) (b.slot.nat 4)).len = 0)
    (settled : ((w.setArm a { r with
      phase := .moving, seg := w.segTo a r.cmd (b.target b.leg) (b.slot.nat 4) }).completeDone a .ok).settled = true) :
    (w.setArm a { r with due := some .stepSix }).settle = (w.setArm a { r with
      phase := .moving, seg := w.segTo a r.cmd (b.target b.leg) (b.slot.nat 4) }).completeDone a .ok := by
  let moved : ArmRec := { r with phase := .moving, seg := w.segTo a r.cmd (b.target b.leg) (b.slot.nat 4) }
  let ending : ArmRec := { moved with moving := false, due := some .segEnd }
  have begins : (w.setArm a { r with due := some .stepSix }).armWork a = some (w.setArm a ending) := by
    rw [armWork_due (d := .stepSix) (by rw [State.arm_setArm_same]; exact active) (by rw [State.arm_setArm_same]; exact rest)
      (by rw [State.arm_setArm_same]; exact level) (by rw [State.arm_setArm_same]) nofun, beginDue_stepSix,
      stepSix_move (r := { r with due := none }) exec kind, beginLeg_move (r := { r with due := none }) exec kind,
      beginSeg_empty (r := { r with due := none, phase := .moving }) empty]
  have ends : (w.setArm a ending).armWork a = some ((w.setArm a moved).completeDone a .ok) := by
    have work : (w.setArm a ending).armWork a = some ((w.setArm a ending).beginDue a .segEnd) :=
      if_pos (by rw [State.arm_setArm_same])
    rw [work, beginDue_segEnd, segEnd_move (b := b) (by rw [State.arm_setArm_same]; exact exec) (by rw [State.arm_setArm_same]),
      State.arm_setArm_same, State.setArm_setArm, State.moveSegEnd, if_neg (by omega)]
    exact congrArg some (completeDone_ended (r := ({ ending with due := none } : ArmRec).atEnd) (r' := moved) exec exec rfl
      (words_setArm_move kind _ _) .ok)
  have workBegin := quiet { r with due := some .stepSix } phase
  have workEnd := quiet ending nofun
  exact settle_two (immediate_of_armWork workBegin.1 workBegin.2.1 workBegin.2.2 begins)
    (immediate_of_armWork workEnd.1 workEnd.2.1 workEnd.2.2 ends) settled

theorem segTo_taken (s : State) (a : Arm) (c : SlotCopy) (b : Block) (stop : Vec) (feed : Nat) :
    (s.takeHead a c).segTo a (s.taken a c b).cmd stop feed = s.segTo a (s.arm a).cmd stop feed := by
  have settings := (sameChecks_takeHead s a c).settings
  rw [taken_eq]
  unfold State.segTo State.feedOf State.armSet
  rw [settings]

section
variable {f : Frame}

theorem length_allSome {α : Type} (l : List (Option α)) : ∀ {us}, allSome l = some us → us.length = l.length := by
  induction l with
  | nil =>
    rintro _ ⟨⟩
    rfl
  | cons x l ih =>
    intro us all
    cases x with
    | none => cases all
    | some y =>
      obtain ⟨vs, rest, rfl⟩ := Option.map_eq_some_iff.1 all
      simp [ih rest]

theorem targets_bind_move (kind : b.slot.kind = some .move) (bound : (s.bind a b).2 = none) :
    (s.bind a b).1.targets.length = b.slot.moveCount := by
  obtain ⟨conv, converted, targets, -⟩ := bind_keeps bound
  unfold State.convert at converted
  simp only [kind] at converted
  unfold convertMove at converted
  obtain ⟨ts, all, rfl⟩ := Option.map_eq_some_iff.1 converted
  rw [targets]
  simpa [SlotCopy.movePoints] using length_allSome _ all

/-- A MOVE at a boundary goes through its steps 1, 2 and 4 (R45 to R48). -/
structure State.MoveStarts (s : State) (a : Arm) (c : SlotCopy) (f : Frame) : Prop where
  boundary : s.AtBoundary a c
  kind : c.kind = some .move
  one : s.stepOne a c = .ok { Block.fresh c with frame := f }
  two : s.stepTwo a { Block.fresh c with frame := f } = .go (s.startedBlock a c f)
  bound : (s.bind a (s.startedBlock a c f)).2 = none

theorem moveStarts_of (boundary : s.boundary a c = true) (kind : c.kind = some .move)
    (frame : resolveFrame (s.armSet a).frame .move c.selector = some f) (fields : c.moveOk = true)
    (common : s.commonCheck a .move f = none) (bound : (s.bind a (s.startedBlock a c f)).2 = none) : s.MoveStarts a c f where
  boundary := atBoundary_of boundary
  kind := kind
  one := stepOne_ok kind frame fields nofun
  two := stepTwo_plain kind common rfl
  bound := bound

theorem leg_started (bound : (s.bind a (s.startedBlock a c f)).2 = none) : (s.bind a (s.startedBlock a c f)).1.leg = 0 := by
  obtain ⟨-, -, -, -, leg⟩ := bind_keeps bound
  exact leg

/-- A MOVE that needs no further grant begins its first segment (R48). -/
theorem exec_move_begins (h : s.MoveStarts a c f) (passes : s.blockNeedsZone a (s.arm a).cmd (s.bind a (s.startedBlock a c f)).1 = false ∨
      s.holdsGrant a = true)
    (long : (s.segTo a (s.arm a).cmd ((s.bind a (s.startedBlock a c f)).1.target 0) (c.nat 4)).len ≠ 0) :
    exec (.move a) s = .next ((s.takeHead a c).modArm a fun r => { r with
      exec := some (s.bind a (s.startedBlock a c f)).1
      phase := .moving
      seg := s.segTo a (s.arm a).cmd ((s.bind a (s.startedBlock a c f)).1.target 0) (c.nat 4)
      moving := true }) := by
  obtain ⟨boundary, kind, one, two, bound⟩ := h
  have leg := leg_started bound
  have slot := slot_bind s a (s.startedBlock a c f)
  have kind' : (s.bind a (s.startedBlock a c f)).1.slot.kind = some .move := by rw [slot]; exact kind
  generalize bind : (s.bind a (s.startedBlock a c f)).1 = b at *
  obtain ⟨-, -, -, due, level, exec⟩ := taken_standing (b := b) boundary
  have feed : b.slot.nat 4 = c.nat 4 := by rw [slot]; rfl
  refine (exec_start_passes boundary kind one two (.inl rfl) bound (by rw [bind]; exact passes)).trans ?_
  rw [bind]
  refine congrArg Host.Outcome.next (settle_stepSix boundary ?_ (settled_of_calm (calm_takeHead boundary ?_)))
  · rw [stepSix_move exec kind', beginLeg_move exec kind', leg, feed,
      beginSeg_setArm (by rw [show ArmRec.cmd _ = (s.taken a c b).cmd from rfl, segTo_taken]; exact long)]
    rw [show ArmRec.cmd _ = (s.taken a c b).cmd from rfl, segTo_taken, modArm_eq_setArm]
    rfl
  · exact calm_of_moving rfl (fun now => nomatch due.symm.trans now) nofun

/-- A MOVE that needs a grant which its arm does not hold presents its request (R72). -/
theorem exec_move_asks (h : s.MoveStarts a c f)
    (needs : s.blockNeedsZone a (s.arm a).cmd (s.bind a (s.startedBlock a c f)).1 = true) (free : s.holdsGrant a = false) :
    exec (.move a) s = .next (((s.takeHead a c).modArm a fun r =>
      { r with exec := some (s.bind a (s.startedBlock a c f)).1 }).zoneRequest a) :=
  exec_start_asks h.boundary h.kind h.one h.two (.inl rfl) h.bound needs free

/-- A MOVE of one segment of length 0 that needs no grant completes at once (R48, R51). -/
theorem exec_move_empty (h : s.MoveStarts a c f) (unasked : s.unasked a = true) (single : c.moveCount = 1)
    (spare : s.blockNeedsZone a (s.arm a).cmd (s.bind a (s.startedBlock a c f)).1 = false)
    (empty : (s.segTo a (s.arm a).cmd ((s.bind a (s.startedBlock a c f)).1.target 0) (c.nat 4)).len = 0) :
    exec (.move a) s = .next (((s.takeHead a c).modArm a fun r => { r with
      exec := some (s.bind a (s.startedBlock a c f)).1
      phase := .moving
      seg := s.segTo a (s.arm a).cmd ((s.bind a (s.startedBlock a c f)).1.target 0) (c.nat 4) }).completeDone a .ok) := by
  obtain ⟨boundary, kind, one, two, bound⟩ := h
  have leg := leg_started bound
  have slot := slot_bind s a (s.startedBlock a c f)
  have kind' : (s.bind a (s.startedBlock a c f)).1.slot.kind = some .move := by rw [slot]; exact kind
  have count : (s.bind a (s.startedBlock a c f)).1.targets.length = 1 := (targets_bind_move kind bound).trans single
  generalize bind : (s.bind a (s.startedBlock a c f)).1 = b at *
  obtain ⟨active, phase, rest, due, level, exec⟩ := taken_standing (b := b) boundary
  have feed : b.slot.nat 4 = c.nat 4 := by rw [slot]; rfl
  have seg : (s.takeHead a c).segTo a (s.taken a c b).cmd (b.target b.leg) (b.slot.nat 4) =
      s.segTo a (s.arm a).cmd (b.target 0) (c.nat 4) := by rw [segTo_taken, leg, feed]
  refine (exec_start_passes boundary kind one two (.inl rfl) bound (by rw [bind]; exact .inl spare)).trans ?_
  rw [bind, settle_stepSix_empty (fun q phase => quietBut_takeHead boundary phase) exec kind' active (by rw [phase]; nofun) rest level
    (by rw [leg, count]) (by rw [seg]; exact empty), seg, modArm_eq_setArm]
  · rfl
  · exact settled_completing (r := { s.taken a c b with
      phase := .moving
      seg := (s.takeHead a c).segTo a (s.taken a c b).cmd (b.target b.leg) (b.slot.nat 4) }) boundary unasked due level nofun .ok

end

end

end Sys2Proof.Machine
end


section
/-! PROOF. A MOVE's next segment and its commit point at a tick (R53, R57, R59). -/

namespace Sys2Proof.Machine

/-! ## What the checks of a MOVE see at a tick -/

section
variable {s w u : State} {first a : Arm} {rd : Duo (Tri Reading)} {b h h2 : Block} {r : ArmRec} {c : SlotCopy}

theorem stepOne_latches (w : State) (l : Vector LatchUnit 16) (a : Arm) (c : SlotCopy) :
    State.stepOne { w with latches := l } a c = w.stepOne a c := rfl

/-- No check of a MOVE looks at the latches (R46, R48). -/
theorem stepTwo_latches (l : Vector LatchUnit 16) (kind : b.slot.kind = some .move) :
    State.stepTwo { w with latches := l } a b = w.stepTwo a b := by
  unfold State.stepTwo
  rw [kind]
  rfl

theorem bind_latches (w : State) (l : Vector LatchUnit 16) (a : Arm) (b : Block) :
    State.bind { w with latches := l } a b = w.bind a b := rfl

theorem sameChecks_tickStart (s : State) (first a : Arm) (rd : Duo (Tri Reading)) :
    s.SameChecks { s.tickStart first a rd with latches := s.latches } a := by
  obtain ⟨-, -, zone, corr, settings, tables, pins, therm, -⟩ := tickStart_keeps s first a rd
  have own : State.arm { s.tickStart first a rd with latches := s.latches } a = s.arm a := arm_tickStart_same
  exact ⟨settings, corr, therm, tables, rfl, pins, congrArg Zone.boxes zone, congrArg ArmRec.referenced own,
    congrArg ArmRec.mounted own, congrArg ArmRec.frameOffset own, congrArg ArmRec.cmd own⟩

theorem stepOne_tickStart (c : SlotCopy) : (s.tickStart first a rd).stepOne a c = s.stepOne a c := by
  rw [← stepOne_latches _ s.latches]
  exact stepOne_congr (sameChecks_tickStart s first a rd) c

theorem stepTwo_tickStart (kind : b.slot.kind = some .move) : (s.tickStart first a rd).stepTwo a b = s.stepTwo a b := by
  rw [← stepTwo_latches s.latches kind]
  exact stepTwo_congr (sameChecks_tickStart s first a rd) b

theorem bind_tickStart (b : Block) : (s.tickStart first a rd).bind a b = s.bind a b := by
  rw [← bind_latches _ s.latches]
  exact bind_congr (sameChecks_tickStart s first a rd) b

theorem blockNeedsZone_tickStart (v : Vec) (b : Block) :
    (s.tickStart first a rd).blockNeedsZone a v b = s.blockNeedsZone a v b :=
  (blockNeedsZone_congr (sameChecks_tickStart s first a rd) v b)

theorem holdsGrant_tickStart : (s.tickStart first a rd).holdsGrant a = s.holdsGrant a := by
  obtain ⟨-, -, zone, -⟩ := tickStart_keeps s first a rd
  unfold State.holdsGrant
  rw [zone]

/-! ## A tick at which the arm's segment begins, or its commit point falls -/

/-- What the start of arm `a`'s tick leaves beside its own record: its segment has begun, or its commit point is tested. -/
structure State.TickBegun (s u : State) (first a : Arm) (rd : Duo (Tri Reading)) : Prop where
  other : u.arm a.other = s.besideTick first a rd
  settings : u.settings = s.settings
  pending : u.corr.swapPending = false
  tick : u.tickNo = s.tickNo + 1
  latches : u.latches = (s.tickStart first a rd).latches

theorem tickBegun_setArm (calm : s.calm = true) (r : ArmRec) : s.TickBegun ((s.tickStart first a rd).setArm a r) first a rd := by
  obtain ⟨-, -, -, corr, settings, -, -, -, -, tick, -⟩ := tickStart_keeps s first a rd
  refine ⟨(State.arm_setArm_other ..).trans arm_tickStart_other, settings, ?_, tick, rfl⟩
  exact (congrArg Correction.swapPending corr).trans (swapPending_of_calm calm)

theorem ticking_begun (begun : s.TickBegun u first a rd) (own : u.arm a = r) : (s.setArm a r).Ticking u a where
  arm := own.trans (State.arm_setArm_same ..).symm
  settings := begun.settings
  tick := begun.tick
  captures i at_ := by
    rw [begun.latches] at at_
    exact (ticking_tickStart s first a rd).captures i at_

/-- A MOVE goes along its segment, which ends at no later part of the tick (R52, R53). -/
theorem underway_moving (active : r.state = .active) (phase : r.phase = .moving) (moves : r.moving = true)
    (holding : r.holding = false) (tested : ∀ b, r.exec = some b → b.passTested = true ∨ b.slot.pass = false)
    (going : ((s.setArm a r).tickedSeg a).atEnd = false) : (s.setArm a r).underway a = true := by
  have apart : (r.exec.any ((s.setArm a r).atCommitPoint a)) = false := by
    cases exec : r.exec with
    | none => rfl
    | some b =>
      rw [Option.any_some, State.atCommitPoint]
      rcases tested b exec with e | e <;> simp [e]
  have near : (s.setArm a r).captureNearEnd a (s.setArm a r).tickNo = false := by
    unfold State.captureNearEnd
    simp [phase, Phase.brakes]
  unfold State.underway
  rw [near]
  simp only [State.arm_setArm_same, apart, going]
  simp [State.runs, moves, active, ArmRec.slowing, phase, holding, Phase.brakes]

theorem tickedSeg_moving (active : r.state = .active) (phase : r.phase = .moving) (holding : r.holding = false) :
    (s.setArm a r).tickedSeg a = r.seg.step (s.accOf a) := by
  unfold State.tickedSeg
  simp only [State.arm_setArm_same, active, phase, holding]
  rfl

theorem tracks_setArm {v : Vec} {readings : Tri Reading} (axes : r.axes = (s.arm a).axes) :
    (s.setArm a r).tracks a v readings = s.tracks a v readings := by
  unfold State.tracks
  rw [State.arm_setArm_same, axes]
  rfl

theorem exec_tick_begun (calm : s.calm = true) (run : s.device = .run) (plain : s.plainTick a.other (rd.get a.other) = true)
    (start : ((s.tickStart first a rd).beginNext a).commitTest a = u) (begun : s.TickBegun u first a rd) (own : u.arm a = r)
    (active : r.state = .active) (phase : r.phase = .moving) (moves : r.moving = true) (holding : r.holding = false)
    (due : r.due = none) (tested : ∀ b, r.exec = some b → b.passTested = true ∨ b.slot.pass = false)
    (going : ((s.setArm a r).tickedSeg a).atEnd = false)
    (tracks : (s.setArm a r).tracks a ((s.setArm a r).tickedSeg a).position (rd.get a) = true) :
    ∃ t, exec (.tick first rd) s = .next t ∧ s.ticked t a rd ∧ t.arm a = (s.setArm a r).advancedArm a (rd.get a) := by
  let p : State := s.setArm a r
  have ticking := ticking_begun begun own
  have underway := underway_moving (s := s) (a := a) active phase moves holding tested going
  let e : State := u.exchanged a (p.advancedArm a (rd.get a)) (rd.get a)
  have otherE : e.arm a.other = s.besideTick first a rd := (arm_exchanged_other ..).trans begun.other
  have calmE : e.calm = true := by
    refine calm_of_arms (a := a) begun.pending ?_ ?_
    · rw [show e.arm a = _ from arm_exchanged_same ..]
      refine calm_of_moving ?_ ?_ ?_ <;> simp only [State.advancedArm, p, State.arm_setArm_same]
      · exact moves
      · rw [due]
        nofun
      · rw [phase]
        nofun
    · rw [otherE]
      exact calm_besideTick calm
  have near : p.captureNearEnd a p.tickNo = false := not_near_of_plain (by rw [underway]; rfl)
  have event : (s.tickStart first a rd).tickArm a (rd.get a) = e := by
    unfold State.tickArm
    dsimp only
    rw [start, ticking.captureAtEnd near, ticking.advances, advance_runs ticking (runs_of_underway underway),
      runs_of_underway underway, tickEnd_follows (.inr (follows_exchanged (s := p) (v := (p.tickedSeg a).position) begun.settings
        rfl tracks)), if_pos rfl]
    rw [motionEnd_underway (rd := rd.get a) underway (arm_exchanged_same ..)]
    exact settle_of_calm calmE
  have captures (i : Fin 16) (at_ : e.latches[i].cap.tick = s.tickNo) : s.latches[i].cap.tick = s.tickNo := by
    refine captured_exchanged (first := first) (a := a) (rd := rd) (r := p.advancedArm a (rd.get a)) ?_
    rw [getElem_exchanged] at at_ ⊢
    rw [begun.latches, begun.tick] at at_
    rw [(ticking_tickStart s first a rd).tick]
    exact at_
  refine ⟨_, exec_tick calm run plain event fun same => ⟨⟨otherE.trans (besideTick_first same), begun.settings, begun.tick, captures⟩,
    settled_of_calm calmE⟩, ticked_tickRest begun.tick otherE, ?_⟩
  rw [arm_tickRest_same]
  exact arm_exchanged_same ..

/-! ## The next segment begins (R53) -/

theorem beginNext_move (calm : s.calm = true) (active : (s.arm a).state = .active) (exec : (s.arm a).exec = some b)
    (kind : b.slot.kind = some .move) (next : (s.arm a).due = some .nextLeg) (rest : (s.arm a).moving = false)
    (level : (s.arm a).holdLevel = false) (phase : (s.arm a).phase ≠ .waitSwap)
    (long : (s.segTo a (s.arm a).cmd (b.target b.leg) (b.slot.nat 4)).len ≠ 0) : s.beginNext a = s.setArm a { s.arm a with
      phase := .moving
      due := none
      moving := true
      seg := s.segTo a (s.arm a).cmd (b.target b.leg) (b.slot.nat 4) } := by
  have work : (s.setArm a { s.arm a with due := none }).beginDue a .leg = s.setArm a { s.arm a with
      phase := .moving
      due := none
      moving := true
      seg := s.segTo a (s.arm a).cmd (b.target b.leg) (b.slot.nat 4) } := by
    rw [beginDue_setArm]
    unfold State.beginDue
    dsimp only
    rw [modArm_setArm, beginLeg_move (r := { s.arm a with due := none }) exec kind]
    exact beginSeg_setArm (r := { s.arm a with due := none, phase := .moving }) long
  refine (if_pos ⟨active, next⟩).trans ?_
  rw [State.setDue, modArm_eq_setArm]
  refine settle_dueWork (d := .leg) calm active rest level nofun phase work (settled_of_calm (calm_setArm calm ?_))
  exact calm_of_moving rfl nofun nofun

theorem tick_nextBegins (active : (s.arm a).state = .active) (exec : (s.arm a).exec = some b)
    (kind : b.slot.kind = some .move) (next : (s.arm a).due = some .nextLeg) (rest : (s.arm a).moving = false)
    (holding : (s.arm a).holding = false) (level : (s.arm a).holdLevel = false) (alone : b.slot.pass = false)
    (long : (s.segTo a (s.arm a).cmd (b.target b.leg) (b.slot.nat 4)).len ≠ 0)
    (going : ((s.segTo a (s.arm a).cmd (b.target b.leg) (b.slot.nat 4)).step (s.accOf a)).atEnd = false)
    (lone : s.loneTick a ((s.segTo a (s.arm a).cmd (b.target b.leg) (b.slot.nat 4)).step (s.accOf a)).position rd = true) :
    ∃ t, Machine.exec (.tick first rd) s = .next t ∧ s.ticked t a rd ∧ t.arm a = { s.arm a with
      phase := .moving
      due := none
      moving := true
      seg := (s.segTo a (s.arm a).cmd (b.target b.leg) (b.slot.nat 4)).step (s.accOf a)
      cmd := ((s.segTo a (s.arm a).cmd (b.target b.leg) (b.slot.nat 4)).step (s.accOf a)).position
      axes := portsAtTick (s.arm a).axes ((s.segTo a (s.arm a).cmd (b.target b.leg) (b.slot.nat 4)).step (s.accOf a)).position
        (rd.get a) } := by
  simp only [State.loneTick, Bool.and_eq_true, beq_iff_eq] at lone
  obtain ⟨⟨⟨calm, run⟩, plain⟩, tracks⟩ := lone
  let r : ArmRec := { s.arm a with
    phase := .moving
    due := none
    moving := true
    seg := s.segTo a (s.arm a).cmd (b.target b.leg) (b.slot.nat 4) }
  let w : State := s.tickStart first a rd
  have own : w.arm a = s.arm a := arm_tickStart_same
  obtain ⟨-, -, -, -, settings, -⟩ := tickStart_keeps s first a rd
  have seg : w.segTo a (s.arm a).cmd (b.target b.leg) (b.slot.nat 4) = s.segTo a (s.arm a).cmd (b.target b.leg) (b.slot.nat 4) := by
    unfold State.segTo State.feedOf State.armSet
    rw [settings]
  have waits : (s.arm a).phase ≠ .waitSwap := fun waits => (armCalm_of_calm calm a).2 ⟨active, waits⟩
  have stepped : (s.setArm a r).tickedSeg a = r.seg.step (s.accOf a) := tickedSeg_moving active rfl holding
  have start : (w.beginNext a).commitTest a = w.setArm a r := by
    have begins := beginNext_move (s := w) (b := b) (calm_tickStart calm) (by rw [own]; exact active) (by rw [own]; exact exec) kind
      (by rw [own]; exact next) (by rw [own]; exact rest) (by rw [own]; exact level) (by rw [own]; exact waits)
      (by rw [own, seg]; exact long)
    rw [begins, own, seg, commitTest_not]
    intro d has
    rw [State.arm_setArm_same] at has
    obtain rfl := Option.some.inj (exec.symm.trans has)
    simp [State.atCommitPoint, alone]
  obtain ⟨t, step, ticked, arm⟩ := exec_tick_begun calm run plain start (tickBegun_setArm calm r) (State.arm_setArm_same ..) active rfl
    rfl holding rfl (fun d has => .inr (by
      obtain rfl := Option.some.inj (exec.symm.trans has)
      exact alone)) (by rw [stepped]; exact going) (by
      rw [stepped, tracks_setArm]
      · exact tracks
      · rfl)
  refine ⟨t, step, ticked, ?_⟩
  rw [arm]
  unfold State.advancedArm
  dsimp only
  rw [stepped, State.arm_setArm_same]

end

end Sys2Proof.Machine
end


section
/-! PROOF. The commit point of a MOVE with PASS at a tick (R57 to R59). -/

namespace Sys2Proof.Machine

/-! ## The commit point -/

section
variable {s w u : State} {first a : Arm} {rd : Duo (Tri Reading)} {b h h1 h2 : Block} {r : ArmRec} {c : SlotCopy} {q : List SlotCopy}

/-- A head that could follow is a MOVE that passes steps 1, 2 and 4 and does not begin where the segment ends (R57). -/
theorem commitHead_some (found : w.commitHead a b = some h) : ∃ c q h1 h2, (w.arm a).queue = c :: q ∧ c.kind = some .move ∧
    w.stepOne a c = .ok h1 ∧ w.stepTwo a h1 = .go h2 ∧ (w.bind a h2).2 = none ∧ (w.bind a h2).1.target 0 ≠ b.target b.leg ∧
      (w.bind a h2).1 = h := by
  unfold State.commitHead at found
  cases queue : (w.arm a).queue with
  | nil => simp [queue] at found
  | cons c q =>
    simp only [queue] at found
    split at found
    · cases found
    next move =>
      rw [not_or, not_not] at move
      cases one : w.stepOne a c with
      | error f => simp [one] at found
      | ok h1 =>
        simp only [one] at found
        cases two : w.stepTwo a h1 with
        | refuse f => simp [two] at found
        | already d => simp [two] at found
        | go h2 =>
          simp only [two] at found
          split at found
          · cases found
          next h3 bound =>
            split at found
            · cases found
            next apart =>
              refine ⟨c, q, h1, h2, rfl, move.1, one, two, ?_, ?_, ?_⟩ <;> rw [bound]
              · exact apart
              · exact Option.some.inj found

theorem commitHead_of (pending : w.corr.swapPending = false) (queue : (w.arm a).queue = c :: q) (kind : c.kind = some .move)
    (one : w.stepOne a c = .ok h1) (two : w.stepTwo a h1 = .go h2) (bound : (w.bind a h2).2 = none)
    (apart : (w.bind a h2).1.target 0 ≠ b.target b.leg) : w.commitHead a b = some (w.bind a h2).1 := by
  have pair : w.bind a h2 = ((w.bind a h2).1, none) := by rw [← bound]
  unfold State.commitHead
  rw [queue]
  dsimp only
  rw [if_neg (by simp [kind, pending]), one]
  dsimp only
  rw [two]
  dsimp only
  rw [pair]
  exact if_neg apart

/-- The block once it is marked STARVED (R59). -/
def Block.starved (b : Block) : Block := { b with passTested := true, flags := { b.flags with starved := true } }

theorem commitPoint_starved (exec : (w.arm a).exec = some b)
    (no : ∀ h, w.commitHead a b = some h → w.commitZone a b h = false) :
    w.commitPoint a b = w.setArm a { w.arm a with exec := some b.starved } := by
  have marked : (w.modExec a fun b => { b with passTested := true, flags := { b.flags with starved := true } }) =
      w.setArm a { w.arm a with exec := some b.starved } := by
    rw [State.modExec, modArm_eq_setArm, exec]
    rfl
  unfold State.commitPoint
  cases head : w.commitHead a b with
  | none => exact marked
  | some h =>
    dsimp only
    rw [no h head, if_neg nofun]
    exact marked

/-- The record of an arm whose pass has committed, before the fill (R57). -/
def State.passed (w : State) (a : Arm) (b h : Block) : ArmRec :=
  { w.arm a with
    exec := some { b with passTested := true }
    queue := (w.arm a).queue.tail
    committed := some h
    seg := { (w.arm a).seg with vEnd := min (w.arm a).seg.f2 (w.feedOf a (h.slot.nat 4)) } }

theorem commitPoint_passes (exec : (w.arm a).exec = some b) (head : w.commitHead a b = some h)
    (zone : w.commitZone a b h = true) : w.commitPoint a b = (w.setArm a (w.passed a b h)).fill a := by
  unfold State.commitPoint
  rw [head]
  dsimp only
  rw [if_pos zone, State.modExec, modArm_eq_setArm w, modArm_setArm, exec]
  rfl

theorem commitTest_at (exec : (w.arm a).exec = some b) (at_ : w.atCommitPoint a b = true) : w.commitTest a = w.commitPoint a b := by
  unfold State.commitTest
  rw [exec]
  exact if_pos at_

/-- What an arm at its commit point is doing (R57). -/
theorem atCommitPoint_iff : s.atCommitPoint a b = true → (s.arm a).state = .active ∧ (s.arm a).phase = .moving ∧
    (s.arm a).moving = true ∧ (s.arm a).holding = false := by
  intro at_
  simp only [State.atCommitPoint, Bool.and_eq_true, beq_iff_eq, Bool.not_eq_true'] at at_
  obtain ⟨⟨⟨⟨⟨⟨⟨active, phase⟩, moves⟩, holding⟩, -⟩, -⟩, -⟩, -⟩ := at_
  exact ⟨active, phase, moves, holding⟩

/-! ## The block is STARVED (R59) -/

/-- No head can follow the block, by what the part knows of it before the tick (R57). -/
def State.NoPass (s : State) (a : Arm) (b : Block) : Prop :=
  (s.arm a).queue = [] ∨ (∃ c q, (s.arm a).queue = c :: q ∧ (c.kind ≠ some .move ∨ (∃ f, s.stepOne a c = .error f) ∨
    ∃ h, s.stepOne a c = .ok h ∧ ((∃ f, s.stepTwo a h = .refuse f) ∨ ∃ h2, s.stepTwo a h = .go h2 ∧
      ((s.bind a h2).2 ≠ none ∨ (s.bind a h2).1.target 0 = b.target b.leg ∨
        (s.blockNeedsZone a (b.target b.leg) (s.bind a h2).1 = true ∧ s.holdsGrant a = false)))))

theorem commitZone_of_noPass (none : s.NoPass a b) (found : (s.tickStart first a rd).commitHead a b = some h) :
    (s.tickStart first a rd).commitZone a b h = false := by
  obtain ⟨c, q, h1, h2, queue, kind, one, two, bound, apart, rfl⟩ := commitHead_some found
  have slot : h1.slot.kind = some .move := by rw [stepOne_kind one]; exact kind
  rw [arm_tickStart_same] at queue
  rw [stepOne_tickStart] at one
  rw [stepTwo_tickStart slot] at two
  rw [bind_tickStart] at bound apart ⊢
  unfold State.commitZone
  rw [blockNeedsZone_tickStart, holdsGrant_tickStart]
  rcases none with empty | ⟨c', q', queue', why⟩
  · cases queue.symm.trans empty
  · obtain ⟨rfl, rfl⟩ := List.cons.inj (queue.symm.trans queue')
    rcases why with other | ⟨f, refused⟩ | ⟨h', one', why⟩
    · exact absurd kind other
    · cases one.symm.trans refused
    · obtain rfl := Except.ok.inj (one.symm.trans one')
      rcases why with ⟨f, refused⟩ | ⟨h2', two', why⟩
      · cases two.symm.trans refused
      · cases two.symm.trans two'
        rcases why with refused | here | ⟨needs, free⟩
        · exact absurd bound refused
        · exact absurd here apart
        · rw [needs, free]
          rfl

theorem tick_starved (meets : s.meetsTick a rd = true) (exec : (s.arm a).exec = some b) (at_ : s.atCommitPoint a b = true)
    (going : (s.tickedSeg a).atEnd = false) (none : s.NoPass a b) :
    ∃ t, Machine.exec (.tick first rd) s = .next t ∧ s.ticked t a rd ∧
      t.arm a = { s.advancedArm a (rd.get a) with exec := some b.starved } := by
  obtain ⟨calm, run, plain, tracks, -, due, -⟩ := meetsTick_iff.1 meets
  obtain ⟨active, phase, moves, holding⟩ := atCommitPoint_iff at_
  let w : State := s.tickStart first a rd
  let r : ArmRec := { s.arm a with exec := some b.starved }
  have own : w.arm a = s.arm a := arm_tickStart_same
  have start : (w.beginNext a).commitTest a = w.setArm a r := by
    rw [beginNext_not (by rw [own, due]; nofun), commitTest_at (by rw [own]; exact exec)
      (((ticking_tickStart s first a rd).atCommitPoint b).trans at_), commitPoint_starved (by rw [own]; exact exec)
      fun h found => commitZone_of_noPass none found, own]
  have stepped : (s.setArm a r).tickedSeg a = s.tickedSeg a := by
    unfold State.tickedSeg
    rw [State.arm_setArm_same]
    rfl
  obtain ⟨t, step, ticked, arm⟩ := exec_tick_begun calm run plain start (tickBegun_setArm calm r) (State.arm_setArm_same ..) active
    phase moves holding due (fun d has => .inl (by
      obtain rfl := Option.some.inj has
      rfl)) (by rw [stepped]; exact going) (by
      rw [stepped, tracks_setArm]
      · exact tracks
      · rfl)
  refine ⟨t, step, ticked, ?_⟩
  rw [arm]
  unfold State.advancedArm
  dsimp only
  rw [stepped, State.arm_setArm_same]

/-! ## The pass commits (R57) -/

theorem tickBegun_fill (begun : s.TickBegun u first a rd) : s.TickBegun (u.fill a) first a rd := by
  obtain ⟨other, settings, pending, tick, latches⟩ := begun
  exact ⟨(arm_fill_other ..).trans other, (congrArg Core.settings (core_fill u a)).trans settings,
    (congrArg (fun c : Core => c.corr.swapPending) (core_fill u a)).trans pending, (congrArg Core.tickNo (core_fill u a)).trans tick,
    (latches_fill u a).trans latches⟩

/-- The state as it is before the tick, with the end velocity of a pass set (R57). -/
def State.withEnd (s : State) (a : Arm) (feed : Nat) : State :=
  s.modArm a fun r => { r with seg := { r.seg with vEnd := min r.seg.f2 feed } }

theorem plainTick_setArm_other (r : ArmRec) (readings : Tri Reading) :
    (s.setArm a r).plainTick a.other readings = s.plainTick a.other readings := by
  cases a <;> rfl

theorem tick_passCommits (exec : (s.arm a).exec = some b) (at_ : s.atCommitPoint a b = true)
    (queue : (s.arm a).queue = c :: q) (kind : c.kind = some .move) (one : s.stepOne a c = .ok h1) (two : s.stepTwo a h1 = .go h2)
    (bound : (s.bind a h2).2 = none) (apart : (s.bind a h2).1.target 0 ≠ b.target b.leg)
    (zone : s.blockNeedsZone a (b.target b.leg) (s.bind a h2).1 = false ∨ s.holdsGrant a = true)
    (meets : (s.withEnd a (s.feedOf a (c.nat 4))).meetsTick a rd = true)
    (going : ((s.withEnd a (s.feedOf a (c.nat 4))).tickedSeg a).atEnd = false) :
    ∃ t, Machine.exec (.tick first rd) s = .next t ∧ s.ticked t a rd ∧
      t.arm a = { (s.withEnd a (s.feedOf a (c.nat 4))).advancedArm a (rd.get a) with
        exec := some { b with passTested := true }
        committed := some (s.bind a h2).1
        queue := (t.arm a).queue } ∧
      ((s.lanes.get a).posted s.shm = false → (t.arm a).queue = q) := by
  obtain ⟨active, phase, moves, holding⟩ := atCommitPoint_iff at_
  let p : State := s.withEnd a (s.feedOf a (c.nat 4))
  let w : State := s.tickStart first a rd
  have own : w.arm a = s.arm a := arm_tickStart_same
  obtain ⟨shm, lanes, -, corr, settings, -⟩ := tickStart_keeps s first a rd
  obtain ⟨calmP, run, plainP, tracksP, -, due, -⟩ := meetsTick_iff.1 meets
  have dueS : (s.arm a).due = none := by
    rw [State.withEnd, State.arm_modArm_same] at due
    exact due
  have calm : s.calm = true := by
    refine calm_of_arms (a := a) (swapPending_of_calm (s := p) calmP) ?_ ?_
    · have calmed := armCalm_of_calm calmP a
      rw [State.withEnd, State.arm_modArm_same] at calmed
      exact calmed
    · have calmed := armCalm_of_calm calmP a.other
      rw [State.withEnd, State.arm_modArm_other] at calmed
      exact calmed
  have plain : s.plainTick a.other (rd.get a.other) = true := by
    rw [← plainTick_setArm_other]
    exact plainP
  have feed : w.feedOf a ((s.bind a h2).1.slot.nat 4) = s.feedOf a (c.nat 4) := by
    rw [slot_bind, (stepTwo_go ((stepOne_kind one).symm ▸ kind) two).2.1, stepOne_kind one]
    unfold State.feedOf State.armSet
    rw [settings]
  have head : w.commitHead a b = some (s.bind a h2).1 := by
    have slot : h1.slot.kind = some .move := by rw [stepOne_kind one]; exact kind
    rw [← bind_tickStart (first := first) (rd := rd)] at bound apart ⊢
    exact commitHead_of (by rw [corr]; exact swapPending_of_calm calm) (by rw [own]; exact queue) kind
      ((stepOne_tickStart c).trans one) ((stepTwo_tickStart slot).trans two) bound apart
  have room : w.commitZone a b (s.bind a h2).1 = true := by
    unfold State.commitZone
    rw [blockNeedsZone_tickStart, holdsGrant_tickStart]
    rcases zone with spare | holds
    · rw [spare, Bool.not_false, Bool.or_true]
    · rw [holds, Bool.true_or]
  let passed : ArmRec := w.passed a b (s.bind a h2).1
  let slowed : ArmRec := { s.arm a with seg := { (s.arm a).seg with vEnd := min (s.arm a).seg.f2 (s.feedOf a (c.nat 4)) } }
  have same : p = s.setArm a slowed := rfl
  let u : State := (w.setArm a passed).fill a
  have start : (w.beginNext a).commitTest a = u := by
    rw [beginNext_not (by rw [own, dueS]; nofun), commitTest_at (by rw [own]; exact exec)
      (((ticking_tickStart s first a rd).atCommitPoint b).trans at_), commitPoint_passes (by rw [own]; exact exec) head room]
  have arm : u.arm a = { slowed with
      exec := some { b with passTested := true }
      queue := (u.arm a).queue
      committed := some (s.bind a h2).1 } := by
    have committed : passed = { slowed with
        exec := some { b with passTested := true }
        queue := (s.arm a).queue.tail
        committed := some (s.bind a h2).1 } := by
      simp only [passed, slowed, State.passed, own, feed]
    rw [show u.arm a = _ from arm_fill_same .., State.arm_setArm_same, committed]
  generalize taken : (u.arm a).queue = q' at arm
  have stepped : (s.setArm a (u.arm a)).tickedSeg a = p.tickedSeg a := by
    rw [arm, same, tickedSeg_moving (by exact active) (by exact phase) (by exact holding),
      tickedSeg_moving (r := slowed) active phase holding]
  obtain ⟨t, step, ticked, own'⟩ := exec_tick_begun calm run plain start (tickBegun_fill (tickBegun_setArm calm passed)) rfl
    (by rw [arm]; exact active) (by rw [arm]; exact phase) (by rw [arm]; exact moves) (by rw [arm]; exact holding)
    (by rw [arm]; exact dueS) (fun d has => .inl (by
      rw [arm] at has
      obtain rfl := Option.some.inj has
      rfl)) (by rw [stepped]; exact going) (by
      rw [stepped, tracks_setArm (by rw [arm])]
      exact (tracks_setArm (s := s) (r := slowed) rfl).symm.trans tracksP)
  have result : t.arm a = { p.advancedArm a (rd.get a) with
      exec := some { b with passTested := true }
      committed := some (s.bind a h2).1
      queue := q' } := by
    rw [own']
    unfold State.advancedArm
    dsimp only
    rw [stepped, State.arm_setArm_same, arm, same, State.arm_setArm_same]
  refine ⟨t, step, ticked, by rw [result], fun idle => ?_⟩
  rw [result]
  show q' = q
  rw [← taken]
  have full : u = w.setArm a passed := fill_eq_self (.inr (.inr ?_))
  · rw [full, State.arm_setArm_same]
    show (w.arm a).queue.tail = q
    rw [own, queue]
    rfl
  · show (w.lanes.get a).posted w.shm = false
    rw [lanes, shm]
    exact idle

end

end Sys2Proof.Machine
end


section
/-! PROOF. A committed pass at the end of the segment (R44, R53), and MOVE in all (O35). -/

namespace Sys2Proof.Machine

section
variable {s w : State} {first a : Arm} {rd : Duo (Tri Reading)} {b h : Block} {r : ArmRec}

theorem motionEnd_passes (active : (w.arm a).state = .active) (phase : (w.arm a).phase.brakes = false)
    (holding : (w.arm a).holding = false) (atEnd : (w.arm a).seg.atEnd = true) (committed : (w.arm a).committed = some h) :
    w.motionEnd a = w.passOver a h := by
  unfold State.motionEnd
  simp only [active]
  unfold State.activeTick
  simp only [phase, holding, atEnd, committed, Bool.false_eq_true, if_false, if_true]

/-- The record of an arm that goes on with its committed block (R53). -/
def State.passing (w : State) (a : Arm) (h : Block) : ArmRec :=
  { w.arm a with
    exec := some h
    committed := none
    phase := .moving
    seg := Seg.between (w.arm a).cmd (h.target 0) (w.feedOf a (h.slot.nat 4)) (w.feedOf a (h.slot.nat 4)) 0 (w.arm a).seg.v }

theorem passOver_eq (w : State) (a : Arm) (h : Block) : w.passOver a h =
    (((w.writeExec a slotDone .ok none).releaseTest a ((w.writeExec a slotDone .ok none).nextNeedsZone a)).setArm a
      (w.passing a h)).fill a := by
  unfold State.passOver
  dsimp only
  rw [modArm_eq_setArm, arm_releaseTest_same, arm_writeExec]
  rfl

theorem arm_passOver_same (w : State) (a : Arm) (h : Block) :
    (w.passOver a h).arm a = { w.passing a h with queue := ((w.passOver a h).arm a).queue } := by
  rw [passOver_eq, arm_fill_same, State.arm_setArm_same]

theorem cap_passOver (exec : (w.arm a).exec = some b) (u : Fin 16) : (w.passOver a h).latches[u].cap = w.latches[u].cap := by
  have latches : (w.passOver a h).latches = mapTable (LatchUnit.disarmOfBlock a false) w.latches := by
    rw [passOver_eq, latches_fill]
    show ((w.writeExec a slotDone .ok none).releaseTest a _).latches = _
    rw [latches_releaseTest, writeExec_some exec]
    rfl
  rw [latches]
  exact cap_mapTable (cap_disarmOfBlock a false) u

/-- The end of a block with a pass makes the release test for the committed block (R53, R77). -/
theorem releases_passOver {q : ArmRec} (zone : s.sameZone w a) (other : w.arm a.other = q) (calm : q.calm)
    (pending : w.corr.swapPending = false) (settings : w.settings = s.settings) (moves : (w.arm a).moving = true)
    (due : (w.arm a).due = none) : s.Releases (w.writeExec a slotDone .ok none) (w.passOver a h) a
      ((w.writeExec a slotDone .ok none).nextNeedsZone a) q where
  zone := by
    unfold State.sameZone at zone ⊢
    rw [zone_writeExec]
    exact zone
  other := by rw [arm_writeExec, other]
  zoneAfter := by
    rw [passOver_eq, zone_fill]
    rfl
  otherAfter := by
    rw [passOver_eq, arm_fill_other]
    exact State.arm_setArm_other ..
  own := by
    rw [arm_passOver_same]
    exact calm_of_moving moves (fun now => nomatch due.symm.trans now) nofun
  otherCalm := calm
  pending := (congrArg (fun c : Core => c.corr.swapPending) (core_passOver w a h)).trans pending
  settings := (congrArg Core.settings (core_passOver w a h)).trans settings

theorem nextNeeds_committed (committed : (w.arm a).committed = some h) :
    (w.writeExec a slotDone .ok none).nextNeedsZone a = w.blockNeedsZone a (w.arm a).cmd h := by
  unfold State.nextNeedsZone
  dsimp only
  rw [arm_writeExec, committed]
  unfold State.blockNeedsZone State.sweepMeets State.zoneBox
  rw [zone_writeExec]

/-- The words of the slot of a block that has passed on (R42). -/
theorem keepsSlot_passOver (exec : (w.arm a).exec = some b) (wf : w.shm.wf = true)
    (fits : (w.lanes.get a).slotBase b.slot.index + 32 ≤ 65536) :
    (w.writeExec a slotDone .ok none).keepsSlot (w.passOver a h) a b.slot.index := by
  let y : State := ((w.writeExec a slotDone .ok none).releaseTest a ((w.writeExec a slotDone .ok none).nextNeedsZone a)).setArm a
    (w.passing a h)
  have shm : y.shm = (w.writeExec a slotDone .ok none).shm := shm_releaseTest ..
  have lanes : y.lanes = (w.writeExec a slotDone .ok none).lanes := lanes_releaseTest ..
  have told := slotSays_writeExec exec wf fits slotDone .ok none
  rw [passOver_eq]
  refine (keepsSlot_of_eq shm (by rw [lanes])).trans (keepsSlot_fill (by rw [shm]; exact wf_writeExec wf _ _ _) ?_)
  rw [shm, lanes, slotSays_state (by decide) told]
  decide

theorem noted_passOver (exec : (w.arm a).exec = some b) (h : Block) : (w.passOver a h).noted (laneNotice a) := by
  have written : (w.writeExec a slotDone .ok none).noted (laneNotice a) := by
    rw [writeExec_some exec]
    exact (noted_disarmBlock a).2 (noted_writeBlock_lane w a b _ _ _ _)
  rw [passOver_eq]
  exact noted_fill ((noted_setArm a _).2 (noted_releaseTest written a _)) a

/-- The committed block takes over at the end of the segment (R44, R53). -/
theorem tick_passesOver (meets : s.meetsTick a rd = true) (exec : (s.arm a).exec = some b) (active : (s.arm a).state = .active)
    (phase : (s.arm a).phase = .moving) (holding : (s.arm a).holding = false) (committed : (s.arm a).committed = some h)
    (early : s.atCommitPoint a b = false) (atEnd : (s.tickedSeg a).atEnd = true) (fits : s.slotFits a b.slot)
    (may : s.mayRelease first a) : ∃ t, Machine.exec (.tick first rd) s = .next t ∧
      s.tickedTest t a rd (s.advancedArm a (rd.get a)).cmd (some (s.blockNeedsZone a (s.advancedArm a (rd.get a)).cmd h)) ∧
      t.arm a = { s.advancedArm a (rd.get a) with
        exec := some h
        committed := none
        queue := (t.arm a).queue
        seg := Seg.between (s.advancedArm a (rd.get a)).cmd (h.target 0) (s.feedOf a (h.slot.nat 4)) (s.feedOf a (h.slot.nat 4)) 0
          (s.advancedArm a (rd.get a)).seg.v } ∧
      t.noted (laneNotice a) ∧ t.slotSays a b.slot slotDone (1 + b.flags.bits) (s.tickNo + 1) ∧
      ∀ ws more, (s.tickMoved first a rd).resultWords a b = ws ++ more → ws.length ≤ 12 → t.slotGives a b.slot ws := by
  obtain ⟨calm, -, -, -, runs, due, -⟩ := meetsTick_iff.1 meets
  let m : State := s.tickMoved first a rd
  have own : m.arm a = s.advancedArm a (rd.get a) := arm_tickMoved_same
  obtain ⟨shm, lanes, zone, corr, settings, -, -, -, -, tick, -⟩ := tickMoved_keeps s first a rd
  have commit : ∀ d, (s.arm a).exec = some d → s.atCommitPoint a d = false := fun d has => by
    obtain rfl := Option.some.inj (exec.symm.trans has)
    exact early
  obtain ⟨wf, low, -⟩ := fits
  have ends : m.motionEnd a = m.passOver a h :=
    motionEnd_passes (by rw [own]; exact active) (by rw [own]; exact not_brakes_moving phase) (by rw [own]; exact holding)
      (by rw [own]; exact atEnd) (by rw [own]; exact committed)
  have ownExec : (m.arm a).exec = some b := by rw [own]; exact exec
  have moves : (s.arm a).moving = true := (Bool.and_eq_true _ _ ▸ runs).1
  have releases := releases_passOver (w := m) (h := h) (sameZone_of_eq (s := s) zone) arm_tickMoved_other (calm_besideTick calm)
    (by rw [corr]; exact swapPending_of_calm calm) settings (by rw [own]; exact moves) (by rw [own]; exact due)
  have needs : (m.writeExec a slotDone .ok none).nextNeedsZone a = s.blockNeedsZone a (s.advancedArm a (rd.get a)).cmd h := by
    rw [nextNeeds_committed (by rw [own]; exact committed), own]
    exact blockNeedsZone_tickStart ..
  obtain ⟨t, step, tested, arm, shmT, lanesT, unit, -⟩ := exec_tick_release (v := (s.advancedArm a (rd.get a)).cmd)
    (needs := some (s.blockNeedsZone a (s.advancedArm a (rd.get a)).cmd h)) meets commit may ends releases
    (by rw [arm_writeExec, own]) (fun n same => needs.trans (Option.some.inj same))
    (spares_of (core_passOver m a h) fun u => cap_passOver ownExec u)
  have wfM : m.shm.wf = true := by rw [shm]; exact wf
  have lowM : (m.lanes.get a).slotBase b.slot.index + 32 ≤ 65536 := by rw [lanes]; exact low
  have kept : (m.writeExec a slotDone .ok none).keepsSlot t a b.slot.index :=
    (keepsSlot_passOver ownExec wfM lowM).trans (keepsSlot_of_eq shmT (by rw [lanesT]))
  have told := slotSays_writeExec ownExec wfM lowM slotDone .ok none
  rw [tick] at told
  refine ⟨t, step, tested, ?_, ?_, kept.slotSays told, fun ws more words few => kept.slotGives few ?_⟩
  · have feed : m.feedOf a (h.slot.nat 4) = s.feedOf a (h.slot.nat 4) := by
      unfold State.feedOf State.armSet
      rw [settings]
    have passing := arm_passOver_same m a h
    rw [← arm, State.passing, own, feed] at passing
    rw [passing, ← phase]
    rfl
  · refine noted_of_unit unit ?_
    exact noted_passOver ownExec h
  · rw [writeExec_some ownExec, words]
    exact (keepsSlot_of_eq rfl rfl).slotGives few (slotGives_writeBlock wfM lowM slotDone .ok none ws more few)

end

/-- Settles O35: the start goes through its steps to the segment, to the request or to the end (`exec_move_begins`,
`exec_move_asks`, `exec_move_empty`); at a tick the segment that is due begins (`tick_nextBegins`), the commit point marks the
block or commits the pass (`tick_starved`, `tick_passCommits`), and a committed block takes over (`tick_passesOver`). -/
theorem moveBeginsSegmentsAndPasses : Obligations.MoveBeginsSegmentsAndPasses := by
  refine ⟨fun s a c f boundary kind frame fields common bound => ?_, fun s first a rd b active exec kind => ?_⟩
  · have starts := moveStarts_of boundary kind frame fields common bound
    exact ⟨fun passes long => exec_move_begins starts passes long, fun needs free => exec_move_asks starts needs free,
      fun spare unasked empty single => exec_move_empty starts unasked single spare empty⟩
  · intro feed
    refine ⟨fun next rest holding level alone => fun long going lone =>
        tick_nextBegins active exec kind next rest holding level alone long going lone,
      fun at_ => ⟨fun meets going none => tick_starved meets exec at_ going none,
        fun c q h h2 queue headKind one two bound apart zone => fun meets going =>
          tick_passCommits exec at_ queue headKind one two bound apart zone meets going⟩,
      fun h meets phase holding committed early atEnd passed within last fits may => ?_⟩
    obtain ⟨t, step, tested, arm, noted, told, gives⟩ :=
      tick_passesOver meets exec active phase holding committed early atEnd fits may
    exact ⟨t, step, tested, arm, noted, told,
      gives _ [] ((resultWords_move passed within kind last).trans (List.append_nil _).symm) (by decide : 3 ≤ 12)⟩

end Sys2Proof.Machine
end
